-- ==== Sys2Proof/Word.lean ====
section
/-! DEFINITION. The word types of the Z8: every register is 64 bits wide (R3), memory is made of bytes. -/

namespace Sys2Proof

/-- A register value (R3). -/
abbrev Word := BitVec 64

/-- One byte of memory. -/
abbrev Byte := BitVec 8

end Sys2Proof
end

