-- ==== Sys2Proof/Terms.lean ====
section
/-! DEFINITION. The terms commands carry: who sends a command, what an image holds, what reaches the package over
the fabric, and what the surroundings contribute (signals, readings, bit errors). -/

namespace Sys2Proof

/-- A requester, with the owner codes of R43. -/
inductive Requester where
  | host | larkspur | yarrow | serving
  deriving DecidableEq, Repr

/-- The owner code of a requester (R43). -/
def Requester.code : Requester → Nat
  | .host => 1 | .larkspur => 2 | .yarrow => 3 | .serving => 4

/-- An error met in reading a scratchpad word (R147 to R149, R282): byte offset `off` in core `core`'s scratchpad; `double`
when two bits are wrong; `link` when instead the 64-byte beat that held the word failed its CRC on that on-chip link (4 × sending
core + direction), on the way to the scratchpad or from it to the reader. Which words show errors is the surroundings'
contribution. -/
structure WordErr where
  core   : Nat
  off    : Nat
  double : Bool
  link   : Option Nat := none
  deriving DecidableEq, Repr

/-- One entry of MAP's register list (R255). -/
structure RegEntry where
  off : Nat
  val : Nat
  deriving DecidableEq, Repr

/-- One entry of MAP's bounds table (R256). -/
structure Bound where
  off : Nat
  lo  : Nat
  w   : Nat
  min : Nat
  max : Nat
  deriving DecidableEq, Repr

/-- A packet stream of a core: its exponent window (R95), its wide copy area (R107; `wcDepth` records of 80 bytes from
byte `wcOff` of the core's scratchpad) and how many frames the packets are older than the frame that consumes them. -/
structure Stream where
  core    : Nat
  id      : Nat
  expLo   : Nat
  expHi   : Nat
  wcOff   : Nat
  wcDepth : Nat
  lag     : Nat
  deriving DecidableEq, Repr

/-- A vector a wide-engine operation names: one of the task's own working vectors. -/
abbrev VReg := Nat

/-- A byte place in a reachable scratchpad: the selector of R143 and the byte offset. -/
structure Loc where
  sel : Nat
  off : Nat
  deriving DecidableEq, Repr

/-- Number formats of R92 that a vector can be read or written in. -/
inductive Fmt where
  | a4 | a8 | bf16 | fp32
  deriving DecidableEq, Repr

/-- VEC operations (R140). -/
inductive VecOp where
  | add | mul | min | max | less | select
  deriving DecidableEq, Repr

/-- FUNC operations (R140, R137). -/
inductive FuncOp where
  | exp | log | recip | rsqrt | relu | geluTanh | geluErf | silu | sigmoid | tanh | sqrelu
  deriving DecidableEq, Repr

/-- One operation of a wide-engine task, of a class of R140. The spec gives the classes and what they compute but no
descriptor layout for them (R251), so a task is a list of these (notes/assumptions/12.md). -/
inductive WideOp where
  /-- CONV: decode `n` packets (A4, A8) of a stream, or `n` elements (BF16, FP32). -/
  | load (d : VReg) (f : Fmt) (at_ : Loc) (n stream : Nat)
  /-- CONV: decode column `j` of a W8 tensor of `rows` rows and `cols` columns (R115). -/
  | loadW8 (d : VReg) (at_ : Loc) (rows cols j : Nat)
  /-- MAC8: the exact sum of products, appended to `d`. -/
  | mac8 (d a b : VReg)
  /-- MACBF: BF16 products summed in FP32 in element order, appended to `d`. -/
  | macBf (d a b : VReg)
  /-- MAC32: FP32 fused multiply-add, lane by lane. -/
  | mac32 (d a b c : VReg)
  /-- VEC, lane by lane. -/
  | vec (d : VReg) (op : VecOp) (a b c : VReg)
  /-- FUNC, lane by lane. -/
  | func (d : VReg) (op : FuncOp) (a : VReg)
  /-- RED: the sum over a vector. -/
  | sum (d a : VReg)
  /-- RED: the maximum over a vector. -/
  | maximum (d a : VReg)
  /-- RED: the `k` largest values, in falling order, the lower index first when equal. -/
  | topk (d a : VReg) (k : Nat)
  /-- CONV: encode a vector and write it. -/
  | store (f : Fmt) (at_ : Loc) (a : VReg) (stream : Nat)
  /-- MOVE: copy `n` bytes. -/
  | copy (src dst : Loc) (n : Nat)
  /-- MOVE: the elements of `a` at the given indices. -/
  | gather (d a : VReg) (idx : List Nat)
  /-- MOVE: a vector seen as `rows` × `cols`, transposed. -/
  | transpose (d a : VReg) (rows cols : Nat)
  /-- DEP: deposit a vector at exponent `e` into a group of a tile (R128, R156). -/
  | dep (tile group : Nat) (a : VReg) (e : Int)
  /-- Routing of one mixture-of-experts layer from its gate logits (R14 to R19): `logits` holds `experts` values for
  each of `toks` tokens; the slot table of each expert is written at `at_` as 16-bit token numbers plus one. -/
  | moe (layer experts k cap toks : Nat) (logits : VReg) (at_ : Loc)
  /-- A latent entry (R181, R182): 512 values written for position H + `pos` of batch slot `slot`'s request in `layer`. -/
  | kv (layer slot pos : Nat) (a : VReg)
  /-- The parity cross-check of R363: the group's output in `a` against the sum of the slices in `bs`; tolerance in `tol`. -/
  | xchk (group product : Nat) (a : VReg) (bs : List VReg) (tol : VReg)
  deriving DecidableEq, Repr

/-- An attention task (R190 to R193): the layer, the batch slot, the query's place in the step (its position is the
commit horizon plus this), the first member-local page and number of pages of the core's range, H query records of 544
bytes from `q`, the softmax scale as FP32 bits, and where the partial record goes. -/
structure Attend where
  layer : Nat
  slot  : Nat
  pos   : Nat
  page0 : Nat
  pages : Nat
  heads : Nat
  q     : Loc
  scale : Nat
  out   : Loc
  deriving DecidableEq, Repr

/-- A merge task (R194): the partial records in ascending order of range start, the value expansions X_h as W8 tensors
of 480 rows and 128 columns, one per head, and where the FP32 outputs of each head go. -/
structure Merge where
  layer : Nat
  slot  : Nat
  heads : Nat
  parts : List Loc
  xs    : List Loc
  out   : Loc
  deriving DecidableEq, Repr

/-- A vocabulary shard's sampling task (R234): its index, the batch slot, the place in the step of the sampled
position, the first token of the shard and its number of tokens, whether the logits are the draft model's (R238), and the FP32
logits. -/
structure Shard where
  idx    : Nat
  slot   : Nat
  pos    : Nat
  first  : Nat
  count  : Nat
  draft  : Bool
  logits : Loc
  deriving DecidableEq, Repr

/-- A WIDE descriptor: an attention, merge or shard task; the correction descriptor of R158, or a task of operations that names the REPAIR slot serving
it (R109) and the batch slots it works for (R177). -/
inductive WideDesc where
  | corr (w : Word)
  | attend (a : Attend)
  | merge (a : Merge)
  | shard (a : Shard)
  | task (ops : List WideOp) (repairSlot : Nat) (batch : List Nat)
  deriving DecidableEq, Repr

/-- What the image says of one slot beside its descriptor: the index of the first packet it takes in its stream
(R106, R110) and the batch slots it works for (R177). -/
structure SlotNote where
  core     : Nat
  idx      : Nat
  firstPkt : Nat
  batch    : List Nat
  deriving DecidableEq, Repr

/-- The slot tables and descriptor tables of one variant (R30, R251): `slots` gives each core's table; the others are
the descriptor tables the slots' DESC fields index. -/
structure Sched where
  slots  : List (Nat × List Word)
  tile   : List Word
  xfer   : List (Word × Word)
  wide   : List WideDesc
  shadow : List Word
  notes  : List SlotNote
  deriving DecidableEq, Repr

/-- What a patch is for (R39, R394, R395): the kinds recovery orders. -/
inductive PatchKind where
  | fallback | fence | spare | detour | route | reconstruct | rejoin | back | other
  deriving DecidableEq, Repr

/-- A patch: slots it replaces or adds (core, slot-table index, entry), laid over the active variant (R39); the arrays
it replaces by others (fallback), the cores it fences (R296), the core of the router it detours (R299), the member it
reconstructs, rejoins or returns (R398, R400), and replacements of ROUTE's entries for routes, sends and parents. -/
structure Patch where
  slots  : List (Nat × Nat × Word)
  kind   : PatchKind
  arrays : List Nat
  cores  : List Nat
  member : Nat
  deriving DecidableEq, Repr

/-- One listed combination of variant and patches (R257). -/
structure Combo where
  variant : Nat
  patches : List Nat
  deriving DecidableEq, Repr

/-- A receive buffer of ROUTE (R311, R38): package core, first scratchpad word, bytes, and the package and port that
send to it. -/
structure RxBuf where
  core  : Nat
  word  : Nat
  bytes : Nat
  pkg   : Nat
  port  : Nat
  deriving DecidableEq, Repr

/-- The role of a member (R251): its coded group, and whether it is the group's parity member or stands alone. -/
inductive Role where
  | data | parity | solo
  deriving DecidableEq, Repr

/-- A member of TOPO. -/
structure Member where
  pkg   : Nat
  role  : Role
  group : Nat
  deriving DecidableEq, Repr

/-- TOPO (R251, R315, R527): the job, its members, this package's place, the Quadrille tree (child ports with the
members below each; the parent's member index; the fallback parent; `heirs`: the child ports gained when a member is lost), the admission root and
its standby, the sampling unit, the journal peer, the ports expected, and START_WAIT in seconds. -/
structure Topo where
  jobId    : Nat
  members  : List Member
  self     : Nat
  root     : Nat
  standby  : Nat
  parent   : Nat
  depth    : Nat
  kids     : List (Nat × List Nat)
  parentAt : Nat
  fbParent : Nat
  fbDepth  : Nat
  heirs    : List (Nat × Nat × List Nat)
  admRoot  : Nat
  sampler  : Nat
  peer     : Nat
  expect   : List Nat
  startWait : Nat
  deriving DecidableEq, Repr

/-- SERV (R251): per bucket 10 to 20 the most requests of a micro-batch and STRIPE or MEMBER; CHUNK; the reserve of
each member; the vocabulary; the layers this member holds and how many each member
holds; per variant the slots of each bucket as (first batch slot,
bucket, decode depth or none for prefill, count). -/
structure Serv where
  buckets : List (Nat × Bool)
  chunk   : Nat
  reserve : List Nat
  vocab   : Nat
  layers  : List Nat
  memLayers : List Nat
  plans   : List (List (Nat × Nat × Option Nat × Nat))
  deriving DecidableEq, Repr

/-- A recovery table entry (R396): class 0 RERUN to 8 MEMBER, unit kind, member (0xFFFF_FFFF for this one), unit and
patches (0xFFFF for none). -/
structure RecEntry where
  cls    : Nat
  kind   : Nat
  member : Nat
  unit   : Nat
  patch  : Nat
  patch2 : Nat
  deriving DecidableEq, Repr

/-- The contents of an image whose byte layout the spec leaves to the compiler (R251): MAP's register list, bounds
table and scales, the variants, patches and combinations, the shadow checker's tables, the packet streams and the
tier N places of the arrays' W8 copies; TOPO, SERV, the routes, sends and receive buffers, the recovery table, the
copies of WIDE's payloads (offset in the image, tier N destination, bytes) and the tier F channels it expects. -/
structure Image where
  regList  : List RegEntry
  bounds   : List Bound
  scales   : List (Nat × List Nat)
  scheds   : List Sched
  patches  : List Patch
  combos   : List Combo
  arrVisit : List (Word × Word)
  wideVisit : List Word
  streams  : List Stream
  w8At     : List (Nat × Nat)
  topo     : Topo
  serv     : Serv
  routes   : List (Word × Word × Word)
  sends    : List (Word × Word)
  bufs     : List RxBuf
  recover  : List RecEntry
  wideCopy : List (Nat × Nat × Nat)
  tfExpect : List Nat
  deriving DecidableEq, Repr

/-- A vote record of a Quadrille message (R323, R324): state 0 VOTE, 1 CONFLICT, 2 COMMIT, 3 ABORT. -/
structure Vote where
  req    : Nat
  state  : Nat
  id     : Nat
  target : Nat
  digest : Nat
  count  : Nat
  deriving DecidableEq, Repr

/-- A Quadrille message (R324): kind 1 ARRIVE, 2 COMPLETE, 3 ABORT, 4 ABORT_ACK, 5 START_VOTE, 6 START_GO, 7 HELD. -/
structure Qmsg where
  kind    : Nat
  skip    : Bool := false
  part    : Bool := false
  many    : Bool := false
  supp    : Bool := false
  bcast   : Bool := false
  join    : Bool := false
  level   : Nat := 0
  missing : List Nat := []
  jobId   : Nat := 0
  frame   : Nat := 0
  arrived : Nat := 0
  member  : Nat := 0
  aux     : Nat := 0
  cause   : Nat := 0
  unit    : Nat := 0
  detail  : Nat := 0
  votes   : List Vote := []
  deriving DecidableEq, Repr

/-- A flit's header and payload bytes (R304); `crc` is its CRC field. -/
structure Flit where
  typ     : Nat
  words   : Nat := 0
  epoch   : Nat := 0
  seq     : Nat := 0
  buffer  : Nat := 0
  dst     : Nat := 0
  word    : Nat := 0
  payload : List Nat := []
  ack     : Nat := 0
  nak     : Nat := 0xFFFFFFFF
  frame   : Nat := 0
  crc     : Nat := 0
  deriving DecidableEq, Repr

/-- A pooled-memory message (R348): op 1 READ, 2 WRITE, 3 READ_RSP, 4 WRITE_RSP. -/
structure Pool where
  op     : Nat
  status : Nat := 0
  lines  : Nat
  tag    : Nat
  gaddr  : Nat
  src    : Nat
  data   : List Nat := []
  deriving DecidableEq, Repr

/-- A submission entry on its way to the root (R209, R217, R218): its eight words, the queue pair and scope it came
from, its home package, and what the areas it names held when they were read; `uncorr` when one met an uncorrectable
line. -/
structure Cmd where
  words  : List Word
  pair   : Nat
  scope  : Nat
  home   : Nat
  idx    : Nat
  tokens : List Nat
  sample : List Nat
  mask   : List Nat
  uncorr : Bool
  deriving DecidableEq, Repr

/-- A decision of the root (R210, R216): what it does to the request (scope, tag); `reason` 0 for an ACCEPT. `mb` is the
micro-batch bound and `hits` the prefix handles found; `expiry` marks a decided expiry cause. -/
structure Decision where
  cmd    : Cmd
  reason : Nat
  mb     : Nat
  hits   : List Nat
  expiry : Bool
  deriving DecidableEq, Repr

/-- A serving, mirror or Larkspur message of CTRL flits (R196, R201, R209, R210, R308, R384): `posted` says that
the ACCEPT of a decision of a tick has been posted (R214), `degraded` tells the home that
a step was degraded on the sender (R177, R242), `lost` that a request lost a page (R404), `evict` the index entries the root
drops at a tick (R230); an empty `journal` frees a mirror block (R386); `chain` gives a returning member a block of its journal back
(R400). -/
inductive CtrlMsg where
  | forward (c : Cmd)
  | decisions (tick : Nat) (ds : List Decision)
  | accepted (scope tag j : Nat)
  | sampled (scope tag frame : Nat) (toks : List Nat) (deg : Bool) (stop : Nat)
  | posted (scope tag tick : Nat)
  | degraded (scope tag frame : Nat)
  | lost (scope tag : Nat)
  | evict (tick : Nat) (handles : List Nat)
  | free (member pages : Nat)
  | latent (page slot : Nat) (bytes : List Nat)
  | journal (off : Nat) (bytes : List Nat)
  | chain (off : Nat) (bytes : List Nat)
  | leave (member frame : Nat)
  | larkspur (bytes : List Nat)
  deriving DecidableEq, Repr

end Sys2Proof
end

