-- ==== Sys2Proof/Syntax.lean ====
section
/-! DEFINITION. The commands the block takes, one constructor per row of spec/opcode_table.json. `t` is always the
time-base count at which the command reaches the unit that owns it (R51). Core, tile, array and port numbers are
package-wide (R377): core 0 to 1,023, tile 8 × core + t, array 32 × core + 4t + a, port 0 to 71. What the
surroundings contribute (signals, readings, bit errors, verdicts of a cryptographic check) is an operand. -/

namespace Sys2Proof

/-- A command (opcode_table.json). -/
inductive Instr where
  /-- REGISTER_WRITE (R42): A write to a register without a row of its own is checked for ownership, open transaction and range, then sets a shadow, replaces a value or clears W1C bits. -/
  | registerWrite (t : Nat) (q : Requester) (addr : Nat) (val : Word) (bytes : Nat)
  /-- TXN_BEGIN (R263): BEGIN on a transaction port opens a transaction for the requester, or answers TXN_OPEN or RANGE. -/
  | txnBegin (t : Nat) (q : Requester) (id : Nat)
  /-- TXN_COMMIT (R265): COMMIT closes the open transaction with a target tick and scope, answering PENDING, LATE, NO_TXN, RANGE or PEND_FULL. -/
  | txnCommit (t : Nat) (q : Requester) (mode : Nat) (job : Bool)
  /-- TXN_ROLLBACK (R266): ROLLBACK discards an open transaction's shadows or withdraws a PENDING one before its deadline. -/
  | txnRollback (t : Nat) (q : Requester) (id : Nat)
  /-- TXN_APPLY (R267): At its target tick each PENDING transaction is judged for owner change, range and listed combination, and is applied or failed. -/
  | txnApply (t : Nat)
  /-- TICK (R27): Pavane starts pass 0 of a new frame once its passes have run and the barrier has completed, then runs the five tick steps in order. -/
  | tick (t : Nat)
  /-- PAUSE_PASS (R45): At throttle level k Pavane inserts k pause passes after every 16 work passes. -/
  | pausePass (t : Nat)
  /-- WAKE_PASS (R34): A converter bank idle for 16 or more passes is woken in the last idle pass before its next tile pass. -/
  | wakePass (t : Nat) (tile : Nat)
  /-- WAIT_TEST (R36): At a WAIT slot's start Pavane tests the named receive buffer and runs the slot through or holds the package. -/
  | waitTest (t : Nat) (core : Nat) (slot : Nat)
  /-- WAIT_TIMEOUT (R38): A WAIT that reaches WAIT_LIMIT hold passes sets WAIT_TIMEOUT, logs the buffer and raises a JOB_FAULT naming the sender. -/
  | waitTimeout (t : Nat)
  /-- HELD_SEND (R317): A member that has spent HELD_PASSES hold passes in one WAIT sends HELD up the Quadrille tree. -/
  | heldSend (t : Nat)
  /-- LOCAL_FRAME_END (R47): At the start of pass W Pavane latches the throttle level and closes the frame's work segment. -/
  | localFrameEnd (t : Nat)
  /-- ARRIVE_POST (R308): Once every flit of the frame is acknowledged a member posts its ARRIVE with level, skip and votes. -/
  | arrivePost (t : Nat)
  /-- IDLE_INTERVAL (R48): When the skip flag is set and the frame's passes have run, the package runs an idle interval of N passes before its tick. -/
  | idleInterval (t : Nat)
  /-- TILE_PASS (R66): A TILE_PASS slot drives an array window in two sub-phases, converts the columns and recombines them in the ring. -/
  | tilePass (t : Nat) (core : Nat) (slot : Nat) (dev : List (Nat × Int)) (errs : List WordErr)
  /-- REPAIR_SLOT (R112): A REPAIR slot serves wide repeats first and then saturation repairs in fixed order. -/
  | repairSlot (t : Nat) (core : Nat) (slot : Nat) (cycles : List Nat) (errs : List WordErr)
  /-- READOUT (R134): A STREAM slot reads an accumulator group out through convert, scale, fuse, activate, pool and emit. -/
  | readout (t : Nat) (core : Nat) (slot : Nat) (errs : List WordErr)
  /-- SPILL (R120): A STREAM slot spills an accumulator group to scratchpad as S32 with stochastic rounding. -/
  | spill (t : Nat) (core : Nat) (slot : Nat)
  /-- FILL (R122): A STREAM slot refills an accumulator group exactly from S32, or refuses a malformed group. -/
  | fill (t : Nat) (core : Nat) (slot : Nat) (errs : List WordErr)
  /-- SCRUB (R151): A STREAM slot rewrites every logged corrected word of a SECDED bank and empties the log. -/
  | scrub (t : Nat) (core : Nat) (slot : Nat)
  /-- WIDE_TASK (R140): A WIDE slot runs its descriptor's work on the core's wide engine. -/
  | wideTask (t : Nat) (core : Nat) (slot : Nat) (errs : List WordErr)
  /-- CORRECTION_TASK (R159): A WIDE slot computes a product's low-rank, sparse and outlier corrections and deposits them. -/
  | correctionTask (t : Nat) (core : Nat) (slot : Nat) (errs : List WordErr)
  /-- ATTEND (R191): A core attends over a range of a request's pages for every head and emits a partial record. -/
  | attend (t : Nat) (core : Nat) (slot : Nat) (errs : List WordErr) (lines : List Nat)
  /-- ATTN_MERGE (R194): The merge core combines partial records and applies each head's value expansion. -/
  | attnMerge (t : Nat) (core : Nat) (slot : Nat) (errs : List WordErr)
  /-- SHARD_SUMMARY (R234): A vocabulary shard applies bias, masks, penalty and temperature and sends its summary and top-64. -/
  | shardSummary (t : Nat) (core : Nat) (slot : Nat) (errs : List WordErr)
  /-- SAMPLE_DRAW (R236): The sampling unit merges candidates, filters them and draws the token. -/
  | sampleDraw (t : Nat) (slot : Nat) (draft : Option Nat) (far : List (Nat × Nat × List Nat))
  /-- STREAM_ROUTE (R285): A STREAM slot moves a routed transfer between scratchpads or tier N over fixed paths. -/
  | streamRoute (t : Nat) (core : Nat) (slot : Nat) (bad : List (Nat × Nat)) (errs : List WordErr) (lines : List Nat)
  /-- FAB_SEND (R310): A FAB_SEND slot sends a scratchpad range as DATA flits on its port. -/
  | fabSend (t : Nat) (core : Nat) (slot : Nat) (errs : List WordErr)
  /-- FAB_RECV (R311): A FAB_RECV slot moves staged payload into its receive buffer and updates fill counts. -/
  | fabRecv (t : Nat) (core : Nat) (slot : Nat)
  /-- CONTROL_SLOT (R526): A CONTROL slot carries host requests, Larkspur traffic and serving messages as CTRL flits. -/
  | controlSlot (t : Nat) (core : Nat) (slot : Nat)
  /-- COW_COPY (R231): Copy slots copy shared page entries below the writer's horizon into a fresh page. -/
  | cowCopy (t : Nat) (core : Nat) (slot : Nat)
  /-- PAGE_MIGRATE (R204): A migration slot moves up to MIG_PAGES pages between tier N and tier F. -/
  | pageMigrate (t : Nat) (core : Nat) (slot : Nat)
  /-- MIGRATE_DONE (R204): A page copy completes; the new copy becomes ACTIVE and the old one enters QUARANTINE. -/
  | migrateDone (t : Nat) (lines : List Nat)
  /-- SHADOW (R358): A SHADOW slot duplicates visited array passes and a neighbour's wide task and compares the results. -/
  | shadow (t : Nat) (core : Nat) (slot : Nat) (differ : List (Option Nat))
  /-- SUSPECT_EXPIRE (R368): A unit OBSERVING for OBS_FRAMES frames without escalation leaves the suspect table. -/
  | suspectExpire (t : Nat) (entry : Nat)
  /-- SCORE_DECAY (R364): Every 64 job frames all soft scores halve. -/
  | scoreDecay (t : Nat)
  /-- RAIL_DECAY (R367): After RAIL_DECAY frames without a suspect event one VCORE offset step is removed. -/
  | railDecay (t : Nat) (region : Nat)
  /-- SATP_CHECK (R167): Every 256 frames each array's unrepaired count is compared with SATP_LIMIT and cleared. -/
  | satpCheck (t : Nat)
  /-- TRACKER_WINDOW (R171): A completed tracker window yields a gain estimate that is voided, accepted or rejected. -/
  | trackerWindow (t : Nat) (arr : Nat)
  /-- G_TRACK_WRITE (R174): A software write to G_TRACK replaces it and clears the tracker's previous window and REJ_RUN. -/
  | gTrackWrite (t : Nat) (q : Requester) (arr : Nat) (val : Nat)
  /-- TRIM_WRITE (R82): A software write to a converter trim wins over hardware and clears its previous measurement. -/
  | trimWrite (t : Nat) (q : Requester) (tile : Nat) (off : Nat) (gain : Nat) (range : Nat)
  /-- FORCE_FLAG (R528): A write of FORCE_FLAG flags a READY array with cause FORCED. -/
  | forceFlag (t : Nat) (q : Requester) (arr : Nat)
  /-- PROGRAM (R83): An ARR_PROG PROGRAM command is queued for the region's programming engine, or refused. -/
  | program (t : Nat) (q : Requester) (arr : Nat) (src : Nat)
  /-- ERASE (R87): An ARR_PROG ERASE command is queued to reset every cell of the array. -/
  | erase (t : Nat) (q : Requester) (arr : Nat)
  /-- PROG_ABORT (R87): An ARR_PROG ABORT stops or dequeues the array's command and leaves it EMPTY. -/
  | progAbort (t : Nat) (q : Requester) (arr : Nat)
  /-- PROGRAM_START (R83): A free channel takes the next queued command in stamp order and starts it. -/
  | programStart (t : Nat) (region : Nat)
  /-- PROG_RESUME (R85): A paused channel resumes at the first sample of 82 °C or below. -/
  | progResume (t : Nat) (region : Nat)
  /-- PROG_DONE (R85): Programming ends with residuals written and the array READY, or FAILED with too many stuck cells. -/
  | progDone (t : Nat) (arr : Nat) (stuck : Nat) (iterMax : Nat) (resid : List (Nat × Int))
  /-- ERASE_DONE (R87): An erase completes after 8.192 ms and the array becomes EMPTY. -/
  | eraseDone (t : Nat) (arr : Nat)
  /-- PROG_CONFIG_LOAD (R254): At the tick after a completed PROGRAM the record's CHK_EN, ROW_BUDGET, CHK_LIMIT and TOL are committed directly. -/
  | progConfigLoad (t : Nat) (arr : Nat)
  /-- VALIDATE (R162): A VALIDATE action write requests a check of the factor record at COR_FACT. -/
  | validate (t : Nat) (q : Requester) (arr : Nat)
  /-- FACT_VALID_SET (R162): At the tick after VALIDATE the factor record is checked and FACT_VALID set. -/
  | factValidSet (t : Nat) (arr : Nat)
  /-- ACC_CLR (R154): A write to ACC_CLR clears the selected accumulator groups, or is refused with BUSY_CORE. -/
  | accClr (t : Nat) (q : Requester) (tile : Nat) (mask : Nat)
  /-- SPD_DATA_READ (R154): A read of SPD_DATA returns the addressed word and its check bits, or 0 under BUSY_CORE. -/
  | spdDataRead (t : Nat) (q : Requester) (core : Nat) (err : Option WordErr)
  /-- SPD_DATA_WRITE (R154): A write of SPD_DATA stores the word with fresh check bits, or is refused with BUSY_CORE. -/
  | spdDataWrite (t : Nat) (q : Requester) (core : Nat) (val : Word)
  /-- SQ_DOORBELL (R498): A write of the SQ tail stamps and submits the new entries to the hub. -/
  | sqDoorbell (t : Nat) (pair : Nat) (tail : Nat) (lines : List Nat)
  /-- CQ_DOORBELL (R499): A write of the CQ head frees completion entries and may arm the interrupt. -/
  | cqDoorbell (t : Nat) (pair : Nat) (head : Nat) (arm : Bool)
  /-- QP_ENABLE (R497): Setting QP_CFG.EN resets the pair's pointers, zeroes the CQ and sets its scope. -/
  | qpEnable (t : Nat) (pair : Nat) (val : Word)
  /-- COMMAND_ARRIVE (R210): The admission root stamps a forwarded entry on arrival as the command's cause. -/
  | commandArrive (t : Nat)
  /-- NEW (R222): The root decides a NEW command under the admission tests, binding, deferring or rejecting it. -/
  | newReq (t : Nat)
  /-- CONTINUE (R216): The root decides a CONTINUE that appends tokens, adds MAX_NEW or supplies a step mask. -/
  | continueReq (t : Nat)
  /-- PAUSE (R216): The root decides a PAUSE of a request with a time to live. -/
  | pause (t : Nat)
  /-- RESUME (R216): The root decides a RESUME of a PAUSED or EXPIRED request under the admission tests. -/
  | resume (t : Nat)
  /-- CANCEL (R216): The root decides a CANCEL, stopping the request's steps at its effect tick. -/
  | cancel (t : Nat)
  /-- FORK (R231): The root decides a FORK, creating a child that shares its parent's pages. -/
  | fork (t : Nat)
  /-- DEFER_EXPIRE (R223): A DEFERRED request whose MAX_DEFER ticks have passed is rejected with its last reason. -/
  | deferExpire (t : Nat)
  /-- ACCEPT (R214): Once the journal entry and its mirror are acknowledged the home posts ACCEPT. -/
  | accept (t : Nat)
  /-- TOKENS (R240): Settled tokens are journaled as released and posted in TOKENS completions. -/
  | tokens (t : Nat)
  /-- DONE (R243): After the last released token the home posts DONE with its cause. -/
  | doneReq (t : Nat)
  /-- EXPIRED (R246): An expired request's tier F pages are quarantined and the home posts EXPIRED. -/
  | expired (t : Nat)
  /-- TTL_EXPIRE (R244): The root stamps an expiry cause when a paused request's time to live runs out. -/
  | ttlExpire (t : Nat) (scope : Nat) (tag : Nat)
  /-- PAUSE_EFFECT (R244): A PAUSE takes effect at the first tick with no step in flight and starts migration out. -/
  | pauseEffect (t : Nat) (scope : Nat) (tag : Nat)
  /-- IDLE_PAUSE (R245): A request in WAIT_MASK or HELD for IDLE_FRAMES ticks is paused with AUTO_TTL_MS. -/
  | idlePause (t : Nat) (scope : Nat) (tag : Nat)
  /-- RESUME_DONE (R205): When every page is back in tier N the resuming request may step again. -/
  | resumeDone (t : Nat) (scope : Nat) (tag : Nat)
  /-- LOAD (R259): IMG_CTRL LOAD starts the image load with header checks and hashing, or is refused. -/
  | load (t : Nat) (q : Requester) (img : Image)
  /-- LOAD_ABORT (R259): IMG_CTRL ABORT stops the load at the next step boundary with ERR ABORTED. -/
  | loadAbort (t : Nat) (q : Requester)
  /-- HASH_DONE (R259): Hashing completes and Yarrow checks the rollback version and signature. -/
  | hashDone (t : Nat) (sig : Bool) (vet : Option Nat) (place : Nat)
  /-- DECRYPT_DONE (R427): In-place decryption of an encrypted image completes or fails its GCM tag. -/
  | decryptDone (t : Nat) (tag : Bool) (plain : List Nat) (vet : Option Nat) (place : Nat)
  /-- LOAD_PROGRAMMED (R259): When every target array reports PROG_DONE the load proceeds to factorisation or fails with PROGRAM. -/
  | loadProgrammed (t : Nat)
  /-- LOAD_DONE (R259): Factor records are written and the image becomes READY. -/
  | loadDone (t : Nat) (facts : List (Nat × List Nat))
  /-- APPLY_TICK (R273): A member takes its apply tick at the first pass boundary after its round completes, cutting the transit frame. -/
  | applyTick (t : Nat)
  /-- START_WAIT_EXPIRE (R273): A START round still incomplete START_WAIT after the first vote ends with ROUND_ABORT. -/
  | startWaitExpire (t : Nat)
  /-- CDC_SLIP (R291): A crossing whose pointers come within one entry raises CDC_SLIP. -/
  | cdcSlip (t : Nat) (link : Nat)
  /-- PLL_UNLOCK (R292): A region PLL losing lock stops the region's clock domain and raises PLL_UNLOCK. -/
  | pllUnlock (t : Nat) (region : Nat)
  /-- UNIT_RESET (R406): RCV_EPDATA.RESET resets the selected part and raises its epoch. -/
  | unitReset (t : Nat) (q : Requester) (late : Bool)
  /-- UNIT_RESET_END (R298): A part's reset ends and it resumes service. -/
  | unitResetEnd (t : Nat) (kind : Nat) (idx : Nat)
  /-- UNIT_EN_WRITE (R407): A write of a unit enable in RCV_UPWR starts a drain or power-up, or is refused. -/
  | unitEnWrite (t : Nat) (q : Requester) (val : Word)
  /-- UNIT_DRAIN_DONE (R407): A unit's drain ends, it powers down, and a pending enable powers it up. -/
  | unitDrainDone (t : Nat) (core : Nat) (n : Nat)
  /-- DATA_FLIT (R309): A received DATA flit is checked for CRC, sequence, epoch, frame and destination and staged. -/
  | dataFlit (t : Nat) (port : Nat) (f : Flit) (fec : Option Nat)
  /-- ACK_FLIT (R305): A received ACK flit acknowledges flits and triggers retransmission of a NAK'd one. -/
  | ackFlit (t : Nat) (port : Nat) (f : Flit) (fec : Option Nat)
  /-- CTRL_FLIT (R304): A received CTRL flit delivers serving, mirror or Larkspur traffic. -/
  | ctrlFlit (t : Nat) (port : Nat) (f : Flit) (msg : CtrlMsg) (fec : Option Nat)
  /-- LINK_TIMER_EXPIRE (R306): An unacknowledged flit past RTT + LINK_TIMER is retransmitted. -/
  | linkTimerExpire (t : Nat) (port : Nat)
  /-- BEACON_SEND (R325): Every 100 µs each UP port and idle spare sends a BEACON flit. -/
  | beaconSend (t : Nat)
  /-- BEACON (R325): A received BEACON records the far end's kind, ID and port. -/
  | beacon (t : Nat) (port : Nat) (f : Flit)
  /-- PROMENADE_TIMEOUT (R328): A port not UP within 2 s of the plan's load reports DARK. -/
  | promenadeTimeout (t : Nat)
  /-- CABLE_PLAN_LOAD (R328): FAB_PLAN.LOAD reads the cable plan and starts Promenade reporting. -/
  | cablePlanLoad (t : Nat) (q : Requester) (addr : Nat)
  /-- LOSS_OF_LIGHT (R329): A port losing light enters DARK, raises its epoch and reports LOSS_OF_LIGHT. -/
  | lossOfLight (t : Nat) (port : Nat)
  /-- LIGHT_STEADY (R330): A port seeing steady light for 10 ms starts training. -/
  | lightSteady (t : Nat) (port : Nat)
  /-- PORT_UP (R330): Training completes and the port is UP, or is refused as TOO_LONG. -/
  | portUp (t : Nat) (port : Nat) (rtt : Nat) (far : Nat)
  /-- PORT_EN_WRITE (R332): A write of FAB_PCTL.EN drains the port or sets PEND_ON, or is refused for a port in use. -/
  | portEnWrite (t : Nat) (q : Requester) (port : Nat) (en : Bool)
  /-- PORT_DRAIN_DONE (R332): A draining port goes dark once all flits are acknowledged, and trains again if PEND_ON. -/
  | portDrainDone (t : Nat) (port : Nat)
  /-- STANDIN_RETRAIN_DONE (R303): A standing-in spare completes retraining and exchanges beacons. -/
  | standinRetrainDone (t : Nat) (port : Nat) (rtt : Nat) (far : Nat)
  /-- STANDIN_FAIL (R303): A spare without MATCH 60 µs after retraining sets STANDIN_FAIL and raises a JOB_FAULT. -/
  | standinFail (t : Nat) (port : Nat)
  /-- ARRIVE (R316): A combiner or root takes an ARRIVE, merges level, skip and votes, and forwards or judges it. -/
  | arrive (t : Nat) (port : Nat) (f : Flit)
  /-- PARTIAL_TIMEOUT (R316): A combiner still lacking a child's arrival sends a partial ARRIVE listing the missing members. -/
  | partialTimeout (t : Nat)
  /-- WINDOW_CLOSE (R318): At the barrier window's close the root declares missing members failed and starts an abort round. -/
  | windowClose (t : Nat)
  /-- HELD (R318): A received HELD notice marks a member as a victim of the named sender. -/
  | held (t : Nat) (port : Nat) (f : Flit)
  /-- COMPLETE (R319): A received COMPLETE carries L_job, skip and verdicts and is forwarded to children. -/
  | complete (t : Nat) (port : Nat) (f : Flit)
  /-- ROOT_LOST (R320): A member without COMPLETE by its local frame end + 2 × WINDOW sends ABORT toward the standby root. -/
  | rootLost (t : Nat)
  /-- ABORT (R321): A received ABORT is folded into an abort round at the root, or stops a member for rollback. -/
  | abort (t : Nat) (port : Nat) (f : Flit)
  /-- ABORT_ACK (R321): The root takes an ABORT_ACK and ends the round when every surviving member has answered. -/
  | abortAck (t : Nat) (port : Nat) (f : Flit)
  /-- ABORT_ACK_TIMEOUT (R389): A member without ABORT_ACK within ACK_WAIT_US is declared failed with cause ABSENT. -/
  | abortAckTimeout (t : Nat)
  /-- RESTORE_DONE (R390): A member that has finished restoring posts ARRIVE for frame s − 1. -/
  | restoreDone (t : Nat) (srcs : List (Nat × Nat))
  /-- RESTORE_WINDOW_CLOSE (R390): A member whose ARRIVE for frame s − 1 misses the restore window is declared failed. -/
  | restoreWindowClose (t : Nat)
  /-- START_VOTE (R323): A START_VOTE is merged by combiners and judged at the root. -/
  | startVote (t : Nat) (port : Nat) (f : Flit)
  /-- START_GO (R273): A received START_GO completes the START round for the member. -/
  | startGo (t : Nat) (port : Nat) (f : Flit)
  /-- READ (R349): A server executes a pooled READ request in arrival order and returns READ_RSP. -/
  | read (t : Nat) (port : Nat) (f : Flit) (lines : List Nat)
  /-- WRITE (R349): A server executes a pooled WRITE request and returns WRITE_RSP once complete. -/
  | write (t : Nat) (port : Nat) (f : Flit)
  /-- READ_RSP (R351): A requester takes a READ_RSP, stores the data and advances or ends its command. -/
  | readRsp (t : Nat) (port : Nat) (f : Flit)
  /-- WRITE_RSP (R351): A requester takes a WRITE_RSP and advances or ends its command. -/
  | writeRsp (t : Nat) (port : Nat) (f : Flit)
  /-- POOL_CMD_READ (R351): MEM_PQCMD READ starts a command moving bytes from a peer into local tier N. -/
  | poolCmdRead (t : Nat) (q : Requester) (slot : Nat)
  /-- POOL_CMD_WRITE (R351): MEM_PQCMD WRITE starts a command moving bytes from local tier N to a peer. -/
  | poolCmdWrite (t : Nat) (q : Requester) (slot : Nat)
  /-- POOL_CMD_ABORT (R352): MEM_PQCMD ABORT sends no further requests and ends the command after outstanding ones. -/
  | poolCmdAbort (t : Nat) (q : Requester) (slot : Nat)
  /-- POOL_TIMEOUT (R351): A request without response after 10 ms ends its command with TIMEOUT. -/
  | poolTimeout (t : Nat) (slot : Nat)
  /-- FCH_EN_WRITE (R345): A write of a tier F channel's EN drains it or sets PEND_ON, or is refused. -/
  | fchEnWrite (t : Nat) (q : Requester) (ch : Nat) (en : Bool)
  /-- CHANNEL_DRAIN_DONE (R345): A draining tier F channel enters self-refresh and is OFF, training again if PEND_ON. -/
  | channelDrainDone (t : Nat) (ch : Nat)
  /-- TF_LOST (R344): A tier F channel that fails or resets under an image marks its pages LOST and raises a JOB_FAULT. -/
  | tfLost (t : Nat) (ch : Nat) (reset : Bool)
  /-- HBM_LOST (R344): An HBM stack that stops answering raises a FATAL error. -/
  | hbmLost (t : Nat) (stack : Nat)
  /-- PATROL_SCRUB (R344): Each stack controller patrols its lines and rewrites corrected lines once per SCRUB_H hours. -/
  | patrolScrub (t : Nat) (stack : Nat) (corrected : List Nat)
  /-- BAR4_READ (R507): A BAR4 read returns tier data through the mapped segment, or 0 or poison. -/
  | bar4Read (t : Nat) (off : Nat) (n : Nat) (lines : List Nat)
  /-- BAR4_WRITE (R507): A BAR4 write stores tier data through the mapped segment, or is discarded and counted. -/
  | bar4Write (t : Nat) (off : Nat) (data : List Nat)
  /-- ERROR_RECORD (R376): The hub collector stamps, logs and counts a record and sends ABORT on the round's first JOB_FAULT or FATAL. -/
  | errorRecord (t : Nat) (idx : Nat)
  /-- GET_ID (R438): The SEC command returns DEVICE_ID and SEC_STATE. -/
  | getId (t : Nat) (door : Nat)
  /-- GET_CERT (R438): The SEC command writes the device certificate to the destination. -/
  | getCert (t : Nat) (door : Nat)
  /-- QUOTE (R429): Yarrow writes a signed attestation quote of the selected measurement registers. -/
  | quote (t : Nat) (door : Nat) (sig : List Nat)
  /-- GET_MLOG (R438): The SEC command writes the measurement log to the destination. -/
  | getMlog (t : Nat) (door : Nat)
  /-- EXTEND (R422): MR7 is extended with the supplied digest, or refused with NO_SLOT. -/
  | extend (t : Nat) (door : Nat)
  /-- OWNER_TRANSFER (R425): Yarrow checks a signed ownership record, burns the next owner slot and erases key slots. -/
  | ownerTransfer (t : Nat) (door : Nat) (sig : Bool)
  /-- KEY_IMPORT (R426): Yarrow decapsulates and rewraps an image key into a key slot. -/
  | keyImport (t : Nat) (door : Nat) (sig : Bool) (key : Option (List Nat))
  /-- KEY_ERASE (R426): Yarrow empties a key slot. -/
  | keyErase (t : Nat) (door : Nat)
  /-- ROLL_ADVANCE (R428): Yarrow raises FLOOR_I to a signed new floor. -/
  | rollAdvance (t : Nat) (door : Nat) (sig : Bool)
  /-- LARKSPUR_UPDATE (R431): Yarrow verifies a new Larkspur image and sends HANDOVER to start a live update. -/
  | larkspurUpdate (t : Nat) (door : Nat) (sig : Bool)
  /-- LARKSPUR_HALT (R431): At the first tick after handover Yarrow halts Larkspur and starts the new image. -/
  | larkspurHalt (t : Nat) (answered : Bool)
  /-- LARKSPUR_READY (R431): The new Larkspur reports READY and Yarrow stores it and burns FLOOR_L. -/
  | larkspurReady (t : Nat)
  /-- UPDATE_REVERT (R431): Without READY within 2 s Yarrow restarts the previous Larkspur and answers REVERTED. -/
  | updateRevert (t : Nat)
  /-- YARROW_STAGE (R433): Yarrow verifies a Yarrow image and writes it to the idle slot as preferred. -/
  | yarrowStage (t : Nat) (door : Nat) (rec : List Nat) (sig : Bool)
  /-- DEBUG_CHALLENGE (R435): Yarrow returns a fresh 32-byte debug nonce. -/
  | debugChallenge (t : Nat) (door : Nat)
  /-- NONCE_EXPIRE (R435): A debug nonce becomes invalid 60 s after issue. -/
  | nonceExpire (t : Nat)
  /-- DEBUG_UNLOCK (R435): A signed unlock record raises the debug level and extends MR6. -/
  | debugUnlock (t : Nat) (door : Nat) (rec : List Nat) (sig : Bool)
  /-- DEBUG_KILL (R435): An owner-signed record burns DEBUG_KILL. -/
  | debugKill (t : Nat) (door : Nat) (sig : Bool)
  /-- KICK (R413): Larkspur kicks the watchdog through its SEC door. -/
  | kick (t : Nat) (door : Nat)
  /-- WATCHDOG_EXPIRE (R413): After 1 s without a kick Yarrow restarts Larkspur from its boot slot. -/
  | watchdogExpire (t : Nat)
  /-- BOOT_READY_TIMEOUT (R469): Larkspur without READY 10 s after start is restarted, or marked FAILED after three restarts. -/
  | bootReadyTimeout (t : Nat)
  /-- STATUS (R439): The MGT command returns MGT_LSTATE and the drain state. -/
  | status (t : Nat)
  /-- IMG_LOAD (R439): The MGT command sets the staging registers and runs the image load. -/
  | imgLoad (t : Nat) (img : Image)
  /-- IMG_ABORT (R439): The MGT command aborts the image load. -/
  | imgAbort (t : Nat)
  /-- REG_WRITE (R439): Larkspur writes a register in its own transaction and commits it in the given mode and scope. -/
  | regWrite (t : Nat)
  /-- CABLE_PLAN (R439): The MGT command loads the cable plan through FAB_PLAN. -/
  | cablePlan (t : Nat)
  /-- AUDIT (R178): A calibration audit starts on a package without an image, or is refused with IN_JOB. -/
  | audit (t : Nat)
  /-- AUDIT_DONE (R179): The audit ends and reports PASS, DRIFTED or FAIL per item. -/
  | auditDone (t : Nat) (items : List Nat) (arrs : List Nat)
  /-- TELEMETRY (R474): The MGT command writes a counter snapshot headed by the start-up report. -/
  | telemetry (t : Nat) (rest : List Nat)
  /-- DRAIN (R479): The MGT DRAIN command requests a graceful drain of the package. -/
  | drain (t : Nat)
  /-- DRAIN_HANDOVER (R480): When the home holds no live request the drain enters HANDOVER and sends the leave notice. -/
  | drainHandover (t : Nat)
  /-- DRAIN_WAIT_EXPIRE (R479): DRAIN_WAIT after REFUSING began the drain enters HANDOVER regardless of live requests. -/
  | drainWaitExpire (t : Nat)
  /-- LEAVE_NOTICE (R480): A member receiving a leave notice commits the loss patches for frame F. -/
  | leaveNotice (t : Nat)
  /-- BUTTON_PRESS (R483): A debounced press of SVC_REQ_N is stamped and held. -/
  | buttonPress (t : Nat) (stamp : Nat)
  /-- BUTTON_RELEASE (R483): A debounced release ends a hold, counting a press shorter than 2 s. -/
  | buttonRelease (t : Nat) (stamp : Nat)
  /-- DRAIN_REQUEST (R483): A press held for 2 s requests a drain. -/
  | drainRequest (t : Nat)
  /-- POWER_ON (R467): The input reaching 47 V starts the power-on sequence from the first stage to transit frames. -/
  | powerOn (t : Nat) (yOk : List Nat) (lOk : List Nat) (hbm : List Nat) (record : Bool) (reads : List (Nat × Int))
  /-- SELF_TEST_DONE (R473): Self-test ends and failed converters, tiles, cores and routers are recorded. -/
  | selfTestDone (t : Nat) (convs : List (Nat × Nat)) (cores : List Nat) (routers : List Nat)
  /-- TRANSIT_ENTER (R467): At the first tick after Larkspur READY and port bring-up the phase becomes TRANSIT. -/
  | transitEnter (t : Nat)
  /-- PACKAGE_RESET (R466): SYS_CTRL.RESET with the key switches rails off for 10 ms and reruns power-on. -/
  | packageReset (t : Nat) (q : Requester) (key : Nat)
  /-- INPUT_FAULT (R443): An input below 44 V or above 63 V for 10 µs turns every rail off. -/
  | inputFault (t : Nat)
  /-- LATCH_CLEAR (R457): An input below 36 V for 100 ms clears a latched shutdown. -/
  | latchClear (t : Nat)
  /-- VCORE_FAIL (R447): A region VCORE outside its window for 10 µs is switched off. -/
  | vcoreFail (t : Nat) (region : Nat)
  /-- RAIL_FAULT (R447): Any other rail outside its window for 10 µs turns the package off with a latched RAIL shutdown. -/
  | railFault (t : Nat) (rail : Nat) (written : Bool)
  /-- SENSOR_SAMPLE (R450): At each sample point the due sensors are read and their levels and marks updated. -/
  | sensorSample (t : Nat) (reads : List (Nat × Int))
  /-- SHUTDOWN_RAILS_OFF (R456): 1 ms after confirmation every rail turns off and PWR_GOOD falls. -/
  | shutdownRailsOff (t : Nat)
  /-- XCHK_START (R452): THM_XCHK.START cross-checks every unmarked sensor against its neighbours, or is refused. -/
  | xchkStart (t : Nat) (q : Requester)
  /-- HK_SCAN (R460): Every 100 µs the housekeeping ADC converts its enabled channels in order. -/
  | hkScan (t : Nat) (codes : List (Nat × Nat))
  /-- TRK_CLR (R462): HKA_TRK.CLR resets a channel's MIN and MAX trackers. -/
  | trkClr (t : Nat) (q : Requester) (ch : Nat)
  /-- FUNCTION_RESET (R488): PERST_N, a function-level reset or link-down resets only the PCIe function. -/
  | functionReset (t : Nat)
  /-- MSIX_UNMASK (R505): Unmasking a vector with its pending bit set sends the message. -/
  | msixUnmask (t : Nat) (v : Nat)
  /-- SYS_ERR_READ (R511): A read of SYS_ERR0 captures all four SYS_ERR registers. -/
  | sysErrRead (t : Nat) (w : Nat)
  /-- ATTN_FLASH_END (R484): Five seconds after a refused drain, ATTN_N stops flashing at 4 Hz and shows the next condition of its column. -/
  | attnFlashEnd (t : Nat)
  /-- CHANNEL_TRAIN_DONE (R345): A tier F channel that trains again after a drain or an enable ends its training UP or FAILED. -/
  | channelTrainDone (t : Nat) (ch : Nat) (up : Option Nat)
  /-- MAILBOX_DONE (R437): A mailbox command finishes: its response becomes valid with DONE set, BUSY clears, the door's MSI-X vector is raised and Yarrow takes up the next command in bell order. -/
  | mailboxDone (t : Nat) (door : Nat)
  /-- LARKSPUR_TIER_WRITE (R412): A Larkspur write to tier N is carried out, or is refused, discarded and counted in MGT_ACL when it touches a protected area while an image is active. -/
  | larkspurTierWrite (t : Nat) (off : Nat) (data : List Nat)
  deriving DecidableEq, Repr

end Sys2Proof
end

