-- ==== Sys2Proof/Machine/Fp32.lean ====
section
/-! DEFINITION. Numbers: exact binary fractions, FP32 and BF16 (R92, R134, R141: rounded to nearest, ties to even,
subnormals kept), and the roundings the spec names (nearest with ties away from zero, R96, R155, R156). -/

namespace Sys2Proof.Machine

/-- `a / b` rounded to the nearest integer, ties away from zero; `b` positive. -/
def divAway (a : Int) (b : Nat) : Int :=
  if a < 0 then -(((2 * a.natAbs + b) / (2 * b) : Nat) : Int) else (((2 * a.natAbs + b) / (2 * b) : Nat) : Int)

/-- `a / b` rounded to the nearest integer, ties to even; `b` positive. -/
def divEven (a b : Nat) : Nat :=
  let q := a / b
  let r := a % b
  if 2 * r > b ∨ (2 * r = b ∧ q % 2 = 1) then q + 1 else q

/-- A number as the wide engine and the ring see it: NaN, an infinity, or exactly `±m × 2^e`. -/
inductive Num where
  | nan
  | inf (neg : Bool)
  | fin (neg : Bool) (m : Nat) (e : Int)
  deriving DecidableEq, Repr

/-- The number zero. -/
def Num.zero : Num := .fin false 0 0

/-- The exact value `k × 2^e` of an integer. -/
def numOfInt (k e : Int) : Num := .fin (decide (k < 0)) k.natAbs e

/-- The value of a 32-bit IEEE 754 pattern. -/
def fp32Of (b : Nat) : Num :=
  let neg := decide (b / 2 ^ 31 % 2 = 1)
  let ex : Nat := b / 2 ^ 23 % 256
  let fr : Nat := b % 2 ^ 23
  if ex = 255 then (if fr = 0 then .inf neg else .nan)
  else if ex = 0 then .fin neg fr (-149)
  else .fin neg (fr + 2 ^ 23) ((ex : Int) - 150)

/-- The value of a BF16 pattern: binary32's upper 16 bits (R92). -/
def bf16Of (b : Nat) : Num := fp32Of (b % 2 ^ 16 * 2 ^ 16)

/-- Round a finite number to `p` significant bits with binary32's exponent range, ties to even. -/
def roundBits (p : Nat) (neg : Bool) (m : Nat) (e : Int) : Num :=
  if m = 0 then .fin neg 0 0
  else
    let q : Int := max (e + (Nat.log2 m : Int) - ((p : Int) - 1)) (-126 - ((p : Int) - 1))
    let m' := if q ≤ e then m * 2 ^ (e - q).toNat else divEven m (2 ^ (q - e).toNat)
    if (Nat.log2 m' : Int) + q ≥ 128 ∧ m' ≠ 0 then .inf neg else .fin neg m' q

/-- Round to FP32. -/
def round32 : Num → Num
  | .fin n m e => roundBits 24 n m e
  | x => x

/-- Round to BF16. -/
def round16 : Num → Num
  | .fin n m e => roundBits 8 n m e
  | x => x

/-- The 32-bit pattern of a number already rounded to FP32; NaN is 0x7FC0_0000 (PRESUMED, IEEE 754: quiet NaN). -/
def fp32Bits : Num → Nat
  | .nan => 0x7FC00000
  | .inf n => (if n then 2 ^ 31 else 0) + 255 * 2 ^ 23
  | .fin n m e =>
    let s := if n then 2 ^ 31 else 0
    if m = 0 then s
    else
      let l : Int := (Nat.log2 m : Int) + e
      if l < -126 then s + (if e ≥ -149 then m * 2 ^ (e + 149).toNat else m / 2 ^ (-149 - e).toNat)
      else
        let fr := if (Nat.log2 m) ≤ 23 then m * 2 ^ (23 - Nat.log2 m) else m / 2 ^ (Nat.log2 m - 23)
        s + (l + 127).toNat * 2 ^ 23 + fr % 2 ^ 23

/-- The BF16 pattern of a number already rounded to BF16. -/
def bf16Bits (x : Num) : Nat := fp32Bits x / 2 ^ 16

/-- The signed significand of a finite number at exponent `e0 ≤ e`. -/
def alignTo (neg : Bool) (m : Nat) (e e0 : Int) : Int :=
  let k : Int := (m * 2 ^ (e - e0).toNat : Nat)
  if neg then -k else k

/-- Exact sum; infinities and NaN as IEEE 754. -/
def numAdd : Num → Num → Num
  | .nan, _ => .nan
  | _, .nan => .nan
  | .inf a, .inf b => if a = b then .inf a else .nan
  | .inf a, .fin _ _ _ => .inf a
  | .fin _ _ _, .inf b => .inf b
  | .fin n m e, .fin n' m' e' =>
    let e0 := min e e'
    let k := alignTo n m e e0 + alignTo n' m' e' e0
    if k = 0 then .fin (n && n') 0 0 else numOfInt k e0

/-- Exact product; infinities and NaN as IEEE 754. -/
def numMul : Num → Num → Num
  | .nan, _ => .nan
  | _, .nan => .nan
  | .inf a, .inf b => .inf (a != b)
  | .inf a, .fin n m _ => if m = 0 then .nan else .inf (a != n)
  | .fin n m _, .inf b => if m = 0 then .nan else .inf (b != n)
  | .fin n m e, .fin n' m' e' => .fin (n != n') (m * m') (e + e')

/-- The negated number. -/
def numNeg : Num → Num
  | .nan => .nan
  | .inf n => .inf (!n)
  | .fin n m e => .fin (!n) m e

/-- `a < b`; false when either is NaN. -/
def numLt : Num → Num → Bool
  | .nan, _ => false
  | _, .nan => false
  | .inf a, .inf b => a && !b
  | .inf a, .fin _ _ _ => a
  | .fin _ _ _, .inf b => !b
  | .fin n m e, .fin n' m' e' =>
    let e0 := min e e'
    decide (alignTo n m e e0 < alignTo n' m' e' e0)

/-- Maximum; NaN propagates. -/
def numMax (a b : Num) : Num := if a = .nan ∨ b = .nan then .nan else if numLt a b then b else a

/-- Minimum; NaN propagates. -/
def numMin (a b : Num) : Num := if a = .nan ∨ b = .nan then .nan else if numLt b a then b else a

/-- FP32 addition. -/
def fadd (a b : Num) : Num := round32 (numAdd a b)

/-- FP32 multiplication. -/
def fmul (a b : Num) : Num := round32 (numMul a b)

/-- FP32 fused multiply-add. -/
def ffma (a b c : Num) : Num := round32 (numAdd (numMul a b) c)

/-- The magnitude `|x|` compared with `k × 2^e / 2`: true when `2|x| < k × 2^e`. -/
def magLtHalf (m : Nat) (e : Int) (k : Nat) (e' : Int) : Bool :=
  let e0 := min e e'
  decide (2 * m * 2 ^ (e - e0).toNat < k * 2 ^ (e' - e0).toNat)

/-- A finite value divided by `2^w`, rounded to the nearest integer, ties away from zero. -/
def quantAway (neg : Bool) (m : Nat) (e w : Int) : Int :=
  let k : Int :=
    if e ≥ w then (m * 2 ^ (e - w).toNat : Nat) else divAway (m : Int) (2 ^ (w - e).toNat)
  if neg then -k else k

/-- A value that is zero. -/
def Num.isZero : Num → Bool
  | .fin _ m _ => m = 0
  | _ => false

/-- FP32 division, rounded to nearest with ties to even: the exact quotient to 30 bits and a sticky bit. Divided by zero it
gives an infinity, and zero or infinity over its like a NaN, as IEEE 754 has it. -/
def fdiv (a b : Num) : Num :=
  match a, b with
  | .nan, _ => .nan
  | _, .nan => .nan
  | .inf _, .inf _ => .nan
  | .inf n, .fin k _ _ => .inf (n != k)
  | .fin n _ _, .inf k => .fin (n != k) 0 0
  | .fin n m x, .fin k d y =>
    if d = 0 then (if m = 0 then .nan else .inf (n != k))
    else
      let sh := 30 + Nat.log2 d
      let q := m * 2 ^ sh / d
      round32 (.fin (n != k) (2 * q + (if m * 2 ^ sh % d = 0 then 0 else 1)) (x - y - sh - 1))

end Sys2Proof.Machine
end

