-- ==== Sys2Proof/Config.lean ====
section
/-! DEFINITION. What the spec leaves open or an individual package fixes at the factory: constants with no body,
so that nothing can be proved of their values. Each is named in notes/assumptions. -/

namespace Sys2Proof.Config

/-- A value the spec leaves open, indexed by the model's own counter `freeCount` (notes/assumptions/11.md). -/
opaque freeWord : Nat → BitVec 64

/-- The result of a wide-engine or readout function on a pattern, where the spec gives a bound or nothing at all
(R137, R140): indexed by the function's code and the FP32 operand. -/
opaque func : Nat → BitVec 32 → BitVec 32

/-- The integer a deposit takes from a NaN or an infinity, indexed by its FP32 pattern (R128, R156 give none). -/
opaque depOpen : BitVec 32 → BitVec 64

/-- Programmed-level variance σ² that the factory record holds for an array at a level 0 to 3 (R60). -/
opaque levelVar : Nat → Nat → Nat

/-- The factory starting trims of converter `k` of a tile: offset and gain codes (R91). -/
opaque startTrim : Nat → Nat → BitVec 16

/-- The factory VCORE code of a region (R446). -/
opaque vcoreCode : Nat → BitVec 64

/-- The factory's reference temperature tables and identity bytes in the calibration store (R91, R416, R459). -/
opaque store : Nat → BitVec 8

/-- Whether, at a count, the port of one slot of the rack to another is UP: another package's state (R314; notes/assumptions/75.md). -/
opaque farPortUp : Nat → Nat → Nat → Bool

end Sys2Proof.Config
end

