-- ==== Sys2Proof/Machine/Digest.lean ====
section
/-! DEFINITION. Checks, digests and the random generator the spec names by their standards: the 16-bit CHECK of
R100, the CRC-32 of IEEE 802.3 (R250, R253, R160, R374), SHA-256 (R259) and Philox4x32-10 (R121). The last three
are written from their published standards (notes/assumptions/10.md). -/

namespace Sys2Proof.Machine

/-- One bit of the CRC-16 of R100: generator 0x1021, no reflection. -/
def crc16Bit (c : Nat) : Nat := if c / 0x8000 % 2 = 1 then Nat.xor (c * 2 % 0x10000) 0x1021 else c * 2 % 0x10000

/-- One byte of the CRC-16 of R100. -/
def crc16Byte (c b : Nat) : Nat :=
  crc16Bit (crc16Bit (crc16Bit (crc16Bit (crc16Bit (crc16Bit (crc16Bit (crc16Bit (Nat.xor c (b * 256)))))))))

/-- The 16-bit CHECK of R100: initial value 0xFFFF, no final XOR. -/
def crc16 (bs : List Nat) : Nat := bs.foldl crc16Byte 0xFFFF

/-- One bit of the reflected CRC-32 of IEEE 802.3. -/
def crc32Bit (c : Nat) : Nat := if c % 2 = 1 then Nat.xor (c / 2) 0xEDB88320 else c / 2

/-- One byte of the CRC-32. -/
def crc32Byte (c b : Nat) : Nat :=
  crc32Bit (crc32Bit (crc32Bit (crc32Bit (crc32Bit (crc32Bit (crc32Bit (crc32Bit (Nat.xor c b))))))))

/-- The CRC-32 of IEEE 802.3 of a byte string. -/
def crc32 (bs : List Nat) : Nat := Nat.xor (bs.foldl crc32Byte 0xFFFFFFFF) 0xFFFFFFFF

/-- One round of Philox4x32: counter words and key words in, counter words out. -/
def philoxRound (c : Nat × Nat × Nat × Nat) (k0 k1 : Nat) : Nat × Nat × Nat × Nat :=
  let p0 := 0xD2511F53 * c.1
  let p1 := 0xCD9E8D57 * c.2.2.1
  (Nat.xor (Nat.xor (p1 / 2 ^ 32) c.2.1) k0, p1 % 2 ^ 32, Nat.xor (Nat.xor (p0 / 2 ^ 32) c.2.2.2) k1, p0 % 2 ^ 32)

/-- `n` rounds, the key bumped after each. -/
def philoxRounds : Nat → Nat × Nat × Nat × Nat → Nat → Nat → Nat × Nat × Nat × Nat
  | 0, c, _, _ => c
  | n + 1, c, k0, k1 => philoxRounds n (philoxRound c k0 k1) ((k0 + 0x9E3779B9) % 2 ^ 32) ((k1 + 0xBB67AE85) % 2 ^ 32)

/-- Word 0 of Philox4x32-10; key word 0 is the key's bits 31:0 and key word 1 its bits 63:32 (R121). -/
def philox (key c0 c1 c2 c3 : Nat) : Nat :=
  (philoxRounds 10 (c0 % 2 ^ 32, c1 % 2 ^ 32, c2 % 2 ^ 32, c3 % 2 ^ 32) (key % 2 ^ 32) (key / 2 ^ 32 % 2 ^ 32)).1

/-- Round constants of SHA-256, first half. -/
def shaK0 : List Nat := [
  0x428a2f98, 0x71374491, 0xb5c0fbcf, 0xe9b5dba5, 0x3956c25b, 0x59f111f1, 0x923f82a4, 0xab1c5ed5,
  0xd807aa98, 0x12835b01, 0x243185be, 0x550c7dc3, 0x72be5d74, 0x80deb1fe, 0x9bdc06a7, 0xc19bf174,
  0xe49b69c1, 0xefbe4786, 0x0fc19dc6, 0x240ca1cc, 0x2de92c6f, 0x4a7484aa, 0x5cb0a9dc, 0x76f988da,
  0x983e5152, 0xa831c66d, 0xb00327c8, 0xbf597fc7, 0xc6e00bf3, 0xd5a79147, 0x06ca6351, 0x14292967]

/-- Round constants of SHA-256, second half. -/
def shaK1 : List Nat := [
  0x27b70a85, 0x2e1b2138, 0x4d2c6dfc, 0x53380d13, 0x650a7354, 0x766a0abb, 0x81c2c92e, 0x92722c85,
  0xa2bfe8a1, 0xa81a664b, 0xc24b8b70, 0xc76c51a3, 0xd192e819, 0xd6990624, 0xf40e3585, 0x106aa070,
  0x19a4c116, 0x1e376c08, 0x2748774c, 0x34b0bcb5, 0x391c0cb3, 0x4ed8aa4a, 0x5b9cca4f, 0x682e6ff3,
  0x748f82ee, 0x78a5636f, 0x84c87814, 0x8cc70208, 0x90befffa, 0xa4506ceb, 0xbef9a3f7, 0xc67178f2]

/-- A 32-bit rotation to the right. -/
def rotr (x n : Nat) : Nat := Nat.lor (x / 2 ^ n) (x * 2 ^ (32 - n) % 2 ^ 32)

/-- The eight working words of SHA-256. -/
structure Sha where
  a : Nat
  b : Nat
  c : Nat
  d : Nat
  e : Nat
  f : Nat
  g : Nat
  h : Nat
  deriving DecidableEq, Repr

/-- The initial hash value. -/
def shaInit : Sha :=
  ⟨0x6a09e667, 0xbb67ae85, 0x3c6ef372, 0xa54ff53a, 0x510e527f, 0x9b05688c, 0x1f83d9ab, 0x5be0cd19⟩

/-- One round of SHA-256 with its constant plus schedule word. -/
def shaRound (s : Sha) (kw : Nat) : Sha :=
  let s1 := Nat.xor (Nat.xor (rotr s.e 6) (rotr s.e 11)) (rotr s.e 25)
  let ch := Nat.xor (Nat.land s.e s.f) (Nat.land (Nat.xor s.e 0xFFFFFFFF) s.g)
  let t1 := s.h + s1 + ch + kw
  let s0 := Nat.xor (Nat.xor (rotr s.a 2) (rotr s.a 13)) (rotr s.a 22)
  let mj := Nat.xor (Nat.xor (Nat.land s.a s.b) (Nat.land s.a s.c)) (Nat.land s.b s.c)
  ⟨(t1 + s0 + mj) % 2 ^ 32, s.a, s.b, s.c, (s.d + t1) % 2 ^ 32, s.e, s.f, s.g⟩

/-- The rounds over a sliding window of 16 schedule words. -/
def shaRounds : List Nat → List Nat → Sha → Sha
  | [], _, s => s
  | k :: ks, w, s =>
    let w15 := w.getD 1 0
    let w2 := w.getD 14 0
    let g0 := Nat.xor (Nat.xor (rotr w15 7) (rotr w15 18)) (w15 / 8)
    let g1 := Nat.xor (Nat.xor (rotr w2 17) (rotr w2 19)) (w2 / 1024)
    shaRounds ks (w.drop 1 ++ [(w.getD 0 0 + g0 + w.getD 9 0 + g1) % 2 ^ 32]) (shaRound s (k + w.getD 0 0))

/-- Big-endian number of a byte list. -/
def beNat (bs : List Nat) : Nat := bs.foldl (fun a b => a * 256 + b) 0

/-- Little-endian number of a byte list (R3). -/
def leNat : List Nat → Nat
  | [] => 0
  | b :: bs => b + 256 * leNat bs

/-- The low `n` bytes of a number, least significant first. -/
def leBytes : Nat → Nat → List Nat
  | 0, _ => []
  | n + 1, v => v % 256 :: leBytes n (v / 256)

/-- One 64-byte block of SHA-256. -/
def shaBlock (s : Sha) (blk : List Nat) : Sha :=
  let w := (List.range 16).map (fun i => beNat ((blk.drop (4 * i)).take 4))
  let r := shaRounds (shaK0 ++ shaK1) w s
  ⟨(s.a + r.a) % 2 ^ 32, (s.b + r.b) % 2 ^ 32, (s.c + r.c) % 2 ^ 32, (s.d + r.d) % 2 ^ 32,
   (s.e + r.e) % 2 ^ 32, (s.f + r.f) % 2 ^ 32, (s.g + r.g) % 2 ^ 32, (s.h + r.h) % 2 ^ 32⟩

/-- `n` blocks of a padded message. -/
def shaBlocks : Nat → List Nat → Sha → Sha
  | 0, _, s => s
  | n + 1, m, s => shaBlocks n (m.drop 64) (shaBlock s (m.take 64))

/-- SHA-256 of a byte string, 32 bytes. -/
def sha256 (bs : List Nat) : List Nat :=
  let n := bs.length
  let pad := (119 - n % 64) % 64
  let m := bs ++ [0x80] ++ List.replicate pad 0 ++ (leBytes 8 (8 * n)).reverse
  let r := shaBlocks (m.length / 64) m shaInit
  ([r.a, r.b, r.c, r.d, r.e, r.f, r.g, r.h].map (fun w => (leBytes 4 w).reverse)).flatten

end Sys2Proof.Machine
end

