-- ==== Sys2Proof/Machine/Regs.lean ====
section
/-! DEFINITION. The register map: where every register field lies (address, lowest bit, width), and the
value every register holds at reset. Written from the register tables of spec/ (R3, R54, R90, R153, R180,
R208, R249, R276 to R278, R333, R334, R352, R381, R410, R437, R441, R442, R463 to R465, R490 to R496, R509).
BAR0 registers are keyed by their BAR0 offset. Registers that are reached another way get keys of their own
above BAR0: the BAR2 pages at 0x1_0000_0000, the hub bus ports and doors at 0x2_0000_0000, and behind each
selector register the bank it points into (one key per converter, scale, sensor and so on). -/

namespace Sys2Proof.Machine

/-- A register field: the key of its register, its lowest bit and its width. -/
structure Fld where
  a  : Nat
  lo : Nat
  w  : Nat
  deriving DecidableEq, Repr

/-- Core window of package core `c` (R90, R279, R493). -/
def coreWindow (c : Nat) : Nat := 0x2000000 + 0x8000 * c
/-- ARR block of package array `A` = 32 × core + 4t + a (R90, R377). -/
def arrBlock (A : Nat) : Nat := coreWindow (A / 32) + 0x200 * (A / 4 % 8) + 0x80 * (A % 4)
/-- CNV block of package tile `T` = 8 × core + t (R90, R377). -/
def cnvTile (T : Nat) : Nat := coreWindow (T / 8) + 0x1000 + 0x100 * (T % 8)
/-- RING tile part of package tile `T` (R153). -/
def ringTile (T : Nat) : Nat := coreWindow (T / 8) + 0x2000 + 0x100 * (T % 8)
/-- RING core part of core `c` (R153). -/
def ringCore (c : Nat) : Nat := coreWindow c + 0x2800
/-- ACC block of package tile `T` (R153). -/
def accTile (T : Nat) : Nat := coreWindow (T / 8) + 0x3000 + 0x100 * (T % 8)
/-- SPD block of core `c` (R153). -/
def spdBlock (c : Nat) : Nat := coreWindow c + 0x4000
/-- COR core part (R180). -/
def corCore (c : Nat) : Nat := coreWindow c + 0x5000
/-- COR part of package array `A` (R180). -/
def corArr (A : Nat) : Nat := coreWindow (A / 32) + 0x5100 + 0x40 * (A % 32)
/-- FAB registers of port `p` (R333). -/
def portRegs (p : Nat) : Nat := 0x601000 + 0x40 * p
/-- Registers of pooled-memory command slot `q` (R352). -/
def pqSlot (q : Nat) : Nat := 0x800300 + 0x20 * q
/-- Registers of housekeeping channel `n` (R465). -/
def hkaChan (n : Nat) : Nat := 0xF01000 + 0x20 * n
/-- Key of BAR2 offset 0 (R494). -/
def bar2 : Nat := 0x100000000
/-- Transaction port of requester code `q`: the host's is BAR2 page 0, the others lie on the hub bus (R262). -/
def portAddr (q : Nat) : Nat := if q = 1 then bar2 else 0x200000000 + 0x1000 * q
/-- Mailbox door `d`: 0 HOST_SEC, 1 HOST_MGT (BAR2), 2 LSP_SEC (hub bus), 3 SB_SEC (sideband) (R436, R494). -/
def doorAddr (d : Nat) : Nat := if d < 2 then bar2 + 0x1000 * (d + 1) else 0x200010000 + 0x1000 * d
/-- Doorbell page of queue pair `q` (R494). -/
def qpPage (q : Nat) : Nat := bar2 + 0x100000 + 0x1000 * q
/-- Converter `k` of package tile `T` behind CNV_ADDR (R90). -/
def cnvBank (T k : Nat) : Nat := 0x1000000000 + 0x400 * T + k
/-- Range code of column `k` of package array `A` behind CNV_ADDR (R90). -/
def rangeBank (A k : Nat) : Nat := 0x1100000000 + 0x400 * A + k
/-- Column scale `j` of package array `A` behind RING_SADDR (R135, R154). -/
def scaleBank (A j : Nat) : Nat := 0x1200000000 + 0x100 * A + j
/-- Counters of layer `l`, expert `e` behind SRV_MOESEL (R248). -/
def moeBank (l e : Nat) : Nat := 0x1300000000 + 0x1000 * l + e
/-- Counts of cause `x` behind CHK_CSEL (R381). -/
def causeBank (x : Nat) : Nat := 0x1400000000 + x
/-- CRC errors of link `l` = 4 × core + direction behind CHK_NSEL (R381). -/
def linkBank (l : Nat) : Nat := 0x1500000000 + l
/-- Epoch of part `i` of kind `k` behind RCV_EPSEL (R410). -/
def epochBank (k i : Nat) : Nat := 0x1600000000 + 0x2000 * k + i
/-- Power of core `c` behind RCV_UADDR (R410). -/
def upwrBank (c : Nat) : Nat := 0x1700000000 + c
/-- Sensor `x` behind THM_SSEL (R464). -/
def sensorBank (x : Nat) : Nat := 0x1800000000 + x
/-- The copy of selector register `a` that requester code `q` reads and writes (R41). -/
def selCopy (a q : Nat) : Nat := 0x100000000000 * q + a

/-- PAV_CFG (R54). -/
def PAV_CFG_WORK_SPAN : Fld := ⟨0x100000, 16, 14⟩
def PAV_CFG_N_PASSES : Fld := ⟨0x100000, 0, 14⟩
/-- PAV_FRAME (R54). -/
def PAV_FRAME_FRAME_NUM : Fld := ⟨0x100008, 0, 64⟩
/-- PAV_TICK (R54). -/
def PAV_TICK_TICK_STAMP : Fld := ⟨0x100010, 0, 64⟩
/-- PAV_TIME (R54). -/
def PAV_TIME_NOW : Fld := ⟨0x100018, 0, 64⟩
/-- PAV_SEL (R54). -/
def PAV_SEL_VARIANT : Fld := ⟨0x100020, 0, 12⟩
/-- PAV_PATCH0 to PAV_PATCH7 (R54). -/
def PAV_PATCH_EN (i : Nat) : Fld := ⟨0x100028 + 8 * i, 63, 1⟩
def PAV_PATCH_PATCH (i : Nat) : Fld := ⟨0x100028 + 8 * i, 0, 10⟩
/-- PAV_THR (R54). -/
def PAV_THR_JOB_LEVEL : Fld := ⟨0x100068, 16, 4⟩
def PAV_THR_LATCHED : Fld := ⟨0x100068, 8, 4⟩
def PAV_THR_REQUEST : Fld := ⟨0x100068, 0, 4⟩
/-- PAV_SETTLE (R54). -/
def PAV_SETTLE_P_CODE : Fld := ⟨0x100070, 0, 3⟩
/-- PAV_HORIZON (R54). -/
def PAV_HORIZON_HORIZON : Fld := ⟨0x100078, 0, 64⟩
/-- PAV_WAIT (R54). -/
def PAV_WAIT_WAIT_LIMIT : Fld := ⟨0x100080, 0, 16⟩
/-- PAV_PAUSE_CNT (R54). -/
def PAV_PAUSE_COUNT : Fld := ⟨0x100088, 0, 64⟩
def PAV_HOLD_COUNT : Fld := ⟨0x100090, 0, 64⟩
def PAV_SKIP_COUNT : Fld := ⟨0x100098, 0, 64⟩
/-- PAV_EVT (R54). -/
def PAV_EVT_TICK_LATE : Fld := ⟨0x1000A0, 4, 1⟩
def PAV_EVT_NOT_OWNER : Fld := ⟨0x1000A0, 3, 1⟩
def PAV_EVT_VARIANT_LATE : Fld := ⟨0x1000A0, 2, 1⟩
def PAV_EVT_SKIP : Fld := ⟨0x1000A0, 1, 1⟩
def PAV_EVT_WAIT_TIMEOUT : Fld := ⟨0x1000A0, 0, 1⟩
/-- PAV_WAIT_LOG (R54). -/
def PAV_WAIT_CORE : Fld := ⟨0x1000A8, 48, 10⟩
def PAV_WAIT_BUFFER : Fld := ⟨0x1000A8, 0, 24⟩
/-- PAV_REJ (R54). -/
def PAV_REJ_LAST_GROUP : Fld := ⟨0x1000B0, 40, 6⟩
def PAV_REJ_LAST_REQ : Fld := ⟨0x1000B0, 32, 4⟩
def PAV_REJ_COUNT : Fld := ⟨0x1000B0, 0, 32⟩
/-- PAV_OWN0 to PAV_OWN47 (R54). -/
def PAV_OWN_OWNER (i : Nat) : Fld := ⟨0x100100 + 8 * i, 0, 4⟩
/-- ARR_CFG (R90). -/
def ARR_CFG_CHK_LIMIT (A : Nat) : Fld := ⟨arrBlock A + 0x0, 16, 8⟩
def ARR_CFG_CHK_EN (A : Nat) : Fld := ⟨arrBlock A + 0x0, 8, 1⟩
def ARR_CFG_ROW_BUDGET (A : Nat) : Fld := ⟨arrBlock A + 0x0, 0, 2⟩
/-- ARR_STATE (R90). -/
def ARR_STATE_PROG_CNT (A : Nat) : Fld := ⟨arrBlock A + 0x8, 32, 32⟩
def ARR_STATE_FLAG_GROUP (A : Nat) : Fld := ⟨arrBlock A + 0x8, 16, 4⟩
def ARR_STATE_FORCE_FLAG (A : Nat) : Fld := ⟨arrBlock A + 0x8, 8, 1⟩
def ARR_STATE_CAUSE (A : Nat) : Fld := ⟨arrBlock A + 0x8, 4, 4⟩
def ARR_STATE_STATE (A : Nat) : Fld := ⟨arrBlock A + 0x8, 0, 3⟩
/-- ARR_VERIFIED (R90). -/
def ARR_VERIFIED_STAMP (A : Nat) : Fld := ⟨arrBlock A + 0x10, 0, 64⟩
/-- ARR_PROG (R90). -/
def ARR_PROG_CMD (A : Nat) : Fld := ⟨arrBlock A + 0x18, 62, 2⟩
def ARR_PROG_SRC (A : Nat) : Fld := ⟨arrBlock A + 0x18, 0, 42⟩
/-- ARR_PSTAT (R90). -/
def ARR_PSTAT_STUCK (A : Nat) : Fld := ⟨arrBlock A + 0x20, 32, 16⟩
def ARR_PSTAT_ITER_MAX (A : Nat) : Fld := ⟨arrBlock A + 0x20, 8, 8⟩
def ARR_PSTAT_RESULT (A : Nat) : Fld := ⟨arrBlock A + 0x20, 0, 4⟩
/-- ARR_CNT (R90). -/
def ARR_CNT_MISMATCH (A : Nat) : Fld := ⟨arrBlock A + 0x28, 32, 32⟩
def ARR_CNT_REPEATED (A : Nat) : Fld := ⟨arrBlock A + 0x28, 0, 32⟩
/-- ARR_EVT (R90). -/
def ARR_EVT_PROG_DONE (A : Nat) : Fld := ⟨arrBlock A + 0x60, 3, 1⟩
def ARR_EVT_NOT_READY (A : Nat) : Fld := ⟨arrBlock A + 0x60, 2, 1⟩
def ARR_EVT_SCALE_SPLIT (A : Nat) : Fld := ⟨arrBlock A + 0x60, 1, 1⟩
def ARR_EVT_FLAGGED (A : Nat) : Fld := ⟨arrBlock A + 0x60, 0, 1⟩
/-- CNV_CAL (R90). -/
def CNV_CAL_CAL_EN (T : Nat) : Fld := ⟨cnvTile T + 0x0, 0, 16⟩
/-- CNV_STAT (R90). -/
def CNV_STAT_WAKES (T : Nat) : Fld := ⟨cnvTile T + 0x18, 32, 32⟩
def CNV_STAT_POWERED (T : Nat) : Fld := ⟨cnvTile T + 0x18, 8, 1⟩
def CNV_STAT_ROT (T : Nat) : Fld := ⟨cnvTile T + 0x18, 0, 6⟩
/-- CNV_REJ (R90). -/
def CNV_REJ_VOID (T : Nat) : Fld := ⟨cnvTile T + 0x20, 32, 32⟩
def CNV_REJ_REJECTED (T : Nat) : Fld := ⟨cnvTile T + 0x20, 0, 32⟩
/-- CNV_ADDR (R90). -/
def CNV_ADDR_ARRAY (T : Nat) : Fld := ⟨cnvTile T + 0x28, 10, 2⟩
def CNV_ADDR_INDEX (T : Nat) : Fld := ⟨cnvTile T + 0x28, 0, 10⟩
/-- CNV_DATA (R90). -/
def CNV_DATA_RANGE (T k : Nat) : Fld := ⟨cnvBank T k, 48, 3⟩
def CNV_DATA_PREV_VALID (T k : Nat) : Fld := ⟨cnvBank T k, 40, 1⟩
def CNV_DATA_REJ (T k : Nat) : Fld := ⟨cnvBank T k, 32, 8⟩
def CNV_DATA_GAIN_TRIM (T k : Nat) : Fld := ⟨cnvBank T k, 16, 8⟩
def CNV_DATA_OFFSET_TRIM (T k : Nat) : Fld := ⟨cnvBank T k, 0, 8⟩
/-- CNV_EVT (R90). -/
def CNV_EVT_LAST_INDEX (T : Nat) : Fld := ⟨cnvTile T + 0x38, 16, 10⟩
def CNV_EVT_TRIM_LIMIT (T : Nat) : Fld := ⟨cnvTile T + 0x38, 0, 1⟩
/-- RING_SADDR (R154). -/
def RING_SADDR_SET (T : Nat) : Fld := ⟨ringTile T + 0x0, 8, 2⟩
def RING_SADDR_LANE (T : Nat) : Fld := ⟨ringTile T + 0x0, 0, 8⟩
/-- RING_SDATA (R154). -/
def RING_SDATA_SCALE (A j : Nat) : Fld := ⟨scaleBank A j, 0, 32⟩
/-- RING_XFER (R154). -/
def RING_XFER_READOUTS (T : Nat) : Fld := ⟨ringTile T + 0x10, 32, 32⟩
def RING_XFER_FILLS (T : Nat) : Fld := ⟨ringTile T + 0x10, 16, 16⟩
def RING_XFER_SPILLS (T : Nat) : Fld := ⟨ringTile T + 0x10, 0, 16⟩
/-- RING_RKEY (R154). -/
def RING_RKEY_RKEY (c : Nat) : Fld := ⟨ringCore c + 0x0, 0, 64⟩
/-- RING_CNT0 to RING_CNT10 (R154). -/
def RING_CNT_COUNT (c i : Nat) : Fld := ⟨ringCore c + 0x08 + 8 * i, 0, 64⟩
/-- ACC_STAT0 to ACC_STAT15 (R154). -/
def ACC_STAT_ACC_OVF (T g : Nat) : Fld := ⟨accTile T + 8 * g, 17, 1⟩
def ACC_STAT_TAG_VALID (T g : Nat) : Fld := ⟨accTile T + 8 * g, 16, 1⟩
def ACC_STAT_TAG (T g : Nat) : Fld := ⟨accTile T + 8 * g, 0, 9⟩
/-- ACC_CLR (R154). -/
def ACC_CLR_CLR (T : Nat) : Fld := ⟨accTile T + 0x80, 0, 16⟩
/-- ACC_EVT (R154). -/
def ACC_EVT_LAST_GROUP (T : Nat) : Fld := ⟨accTile T + 0x88, 16, 4⟩
def ACC_EVT_OVF (T : Nat) : Fld := ⟨accTile T + 0x88, 0, 1⟩
/-- SPD_CFG (R154). -/
def SPD_CFG_WEIGHT_BANKS (c : Nat) : Fld := ⟨spdBlock c + 0x0, 16, 16⟩
def SPD_CFG_MODE (c : Nat) : Fld := ⟨spdBlock c + 0x0, 0, 2⟩
/-- SPD_ADDR (R154). -/
def SPD_ADDR_OFFSET (c : Nat) : Fld := ⟨spdBlock c + 0x8, 0, 20⟩
/-- SPD_DCHK (R154). -/
def SPD_DCHK_CHECK (c : Nat) : Fld := ⟨spdBlock c + 0x18, 0, 8⟩
/-- SPD_ERR (R154). -/
def SPD_ERR_UNCORR (c : Nat) : Fld := ⟨spdBlock c + 0x20, 32, 16⟩
def SPD_ERR_PARITY (c : Nat) : Fld := ⟨spdBlock c + 0x20, 16, 16⟩
def SPD_ERR_CORRECTED (c : Nat) : Fld := ⟨spdBlock c + 0x20, 0, 16⟩
/-- SPD_LOG (R154). -/
def SPD_LOG_KIND (c : Nat) : Fld := ⟨spdBlock c + 0x28, 62, 2⟩
def SPD_LOG_OFFSET (c : Nat) : Fld := ⟨spdBlock c + 0x28, 0, 20⟩
/-- SPD_EVT (R154). -/
def SPD_EVT_CLR_CONFLICT (c : Nat) : Fld := ⟨spdBlock c + 0x38, 3, 1⟩
def SPD_EVT_UNCORR (c : Nat) : Fld := ⟨spdBlock c + 0x38, 2, 1⟩
def SPD_EVT_PARITY (c : Nat) : Fld := ⟨spdBlock c + 0x38, 1, 1⟩
def SPD_EVT_CORRECTED (c : Nat) : Fld := ⟨spdBlock c + 0x38, 0, 1⟩
/-- COR_ACFG (R180). -/
def COR_ACFG_REPROG_THR (A : Nat) : Fld := ⟨corArr A + 0x0, 16, 16⟩
def COR_ACFG_RANK (A : Nat) : Fld := ⟨corArr A + 0x0, 8, 2⟩
def COR_ACFG_FACT_VALID (A : Nat) : Fld := ⟨corArr A + 0x0, 1, 1⟩
def COR_ACFG_VALIDATE (A : Nat) : Fld := ⟨corArr A + 0x0, 0, 1⟩
/-- COR_FACT (R180). -/
def COR_FACT_ADDR (A : Nat) : Fld := ⟨corArr A + 0x8, 0, 42⟩
/-- COR_GAIN (R180). -/
def COR_GAIN_G (A : Nat) : Fld := ⟨corArr A + 0x10, 32, 16⟩
def COR_GAIN_F_T (A : Nat) : Fld := ⟨corArr A + 0x10, 16, 16⟩
def COR_GAIN_G_TRACK (A : Nat) : Fld := ⟨corArr A + 0x10, 0, 16⟩
/-- COR_TTAB (R180). -/
def COR_TTAB_ADDR (A : Nat) : Fld := ⟨corArr A + 0x18, 0, 42⟩
/-- COR_TRK (R180). -/
def COR_TRK_EST_LAST (A : Nat) : Fld := ⟨corArr A + 0x20, 48, 16⟩
def COR_TRK_REJ_RUN (A : Nat) : Fld := ⟨corArr A + 0x20, 32, 4⟩
def COR_TRK_WIN_SAMPLES (A : Nat) : Fld := ⟨corArr A + 0x20, 24, 8⟩
def COR_TRK_VOIDS (A : Nat) : Fld := ⟨corArr A + 0x20, 16, 8⟩
def COR_TRK_ACCEPTS (A : Nat) : Fld := ⟨corArr A + 0x20, 0, 16⟩
/-- COR_ERR (R180). -/
def COR_ERR_RMS_LAST (A : Nat) : Fld := ⟨corArr A + 0x28, 32, 16⟩
def COR_ERR_SATP_CNT (A : Nat) : Fld := ⟨corArr A + 0x28, 16, 16⟩
def COR_ERR_FLAG_REASON (A : Nat) : Fld := ⟨corArr A + 0x28, 4, 4⟩
/-- COR_REP (R180). -/
def COR_REP_REPAIRED (c : Nat) : Fld := ⟨corCore c + 0x0, 32, 32⟩
def COR_REP_UNREPAIRED (c : Nat) : Fld := ⟨corCore c + 0x0, 0, 32⟩
/-- COR_DEG (R180). -/
def COR_DEG_DEG_FRAMES (c : Nat) : Fld := ⟨corCore c + 0x8, 32, 32⟩
def COR_DEG_LAST_DEG (c : Nat) : Fld := ⟨corCore c + 0x8, 0, 32⟩
/-- COR_SATP (R180). -/
def COR_SATP_SATP_LIMIT (c : Nat) : Fld := ⟨corCore c + 0x10, 0, 16⟩
/-- COR_EVT (R180). -/
def COR_EVT_LAST_ARRAY (c : Nat) : Fld := ⟨corCore c + 0x18, 8, 5⟩
def COR_EVT_VALIDATE_FAIL (c : Nat) : Fld := ⟨corCore c + 0x18, 6, 1⟩
def COR_EVT_TEMP_OUT (c : Nat) : Fld := ⟨corCore c + 0x18, 5, 1⟩
def COR_EVT_SAT_PRESSURE (c : Nat) : Fld := ⟨corCore c + 0x18, 4, 1⟩
def COR_EVT_GAIN_LIMIT (c : Nat) : Fld := ⟨corCore c + 0x18, 3, 1⟩
def COR_EVT_DRIFT_FLAG (c : Nat) : Fld := ⟨corCore c + 0x18, 2, 1⟩
def COR_EVT_NO_FACTORS (c : Nat) : Fld := ⟨corCore c + 0x18, 1, 1⟩
def COR_EVT_DEGRADED (c : Nat) : Fld := ⟨corCore c + 0x18, 0, 1⟩
/-- PGM_POOLN (R208). -/
def PGM_POOLN_BASE_4K : Fld := ⟨0x500000, 22, 30⟩
def PGM_POOLN_PAGES : Fld := ⟨0x500000, 0, 22⟩
def PGM_POOLF_BASE_4K : Fld := ⟨0x500008, 22, 30⟩
def PGM_POOLF_PAGES : Fld := ⟨0x500008, 0, 22⟩
def PGM_MIRROR_BASE_4K : Fld := ⟨0x500010, 22, 30⟩
def PGM_MIRROR_PAGES : Fld := ⟨0x500010, 0, 22⟩
/-- PGM_DIR (R208). -/
def PGM_DIR_ADDR : Fld := ⟨0x500018, 0, 42⟩
/-- PGM_FREE (R208). -/
def PGM_FREE_TIER_F : Fld := ⟨0x500020, 32, 22⟩
def PGM_FREE_TIER_N : Fld := ⟨0x500020, 0, 22⟩
def PGM_QUAR_TIER_F : Fld := ⟨0x500028, 32, 22⟩
def PGM_QUAR_TIER_N : Fld := ⟨0x500028, 0, 22⟩
/-- PGM_BKT10 to PGM_BKT20 (R208): bucket 10 + b. -/
def PGM_BKT_MAX_BATCH (b : Nat) : Fld := ⟨0x500040 + 8 * b, 32, 16⟩
def PGM_BKT_MODE (b : Nat) : Fld := ⟨0x500040 + 8 * b, 16, 2⟩
def PGM_BKT_OCCUPIED (b : Nat) : Fld := ⟨0x500040 + 8 * b, 0, 16⟩
/-- PGM_PAD10 to PGM_PAD20 (R208): bucket 10 + b. -/
def PGM_PAD_COUNT (b : Nat) : Fld := ⟨0x5000A0 + 8 * b, 0, 64⟩
/-- PGM_WAIT (R208). -/
def PGM_WAIT_POOL_EMPTY : Fld := ⟨0x500100, 32, 32⟩
def PGM_WAIT_BUCKET_WAIT : Fld := ⟨0x500100, 0, 32⟩
/-- PGM_MIG (R208). -/
def PGM_MIG_MIG_PAGES : Fld := ⟨0x500108, 16, 11⟩
def PGM_MIG_IN_FLIGHT : Fld := ⟨0x500108, 0, 16⟩
/-- PGM_KV (R208). -/
def PGM_KV_SATURATE : Fld := ⟨0x500110, 32, 32⟩
def PGM_KV_UNDERFLOW : Fld := ⟨0x500110, 16, 16⟩
def PGM_KV_CHECK : Fld := ⟨0x500110, 0, 16⟩
/-- PGM_LOST (R208). -/
def PGM_LOST_COUNT : Fld := ⟨0x500118, 32, 32⟩
def PGM_LOST_LAST_PAGE : Fld := ⟨0x500118, 0, 22⟩
/-- PGM_EVT (R208). -/
def PGM_EVT_PART_CHECK : Fld := ⟨0x500120, 5, 1⟩
def PGM_EVT_LOST : Fld := ⟨0x500120, 4, 1⟩
def PGM_EVT_KV_CHECK : Fld := ⟨0x500120, 3, 1⟩
def PGM_EVT_KV_SATURATE : Fld := ⟨0x500120, 2, 1⟩
def PGM_EVT_POOL_EMPTY : Fld := ⟨0x500120, 1, 1⟩
def PGM_EVT_BUCKET_WAIT : Fld := ⟨0x500120, 0, 1⟩
/-- SRV_CFG (R249). -/
def SRV_CFG_ROOT : Fld := ⟨0x400000, 40, 20⟩
def SRV_CFG_IS_ROOT : Fld := ⟨0x400000, 37, 1⟩
def SRV_CFG_IS_SAMPLER : Fld := ⟨0x400000, 36, 1⟩
def SRV_CFG_IDLE_FRAMES : Fld := ⟨0x400000, 16, 16⟩
def SRV_CFG_ADM_DEPTH : Fld := ⟨0x400000, 0, 16⟩
/-- SRV_TTL (R249). -/
def SRV_TTL_AUTO_TTL_MS : Fld := ⟨0x400008, 0, 27⟩
/-- SRV_STEP (R249). -/
def SRV_STEP_CHUNK : Fld := ⟨0x400010, 32, 16⟩
def SRV_STEP_COW_MAX : Fld := ⟨0x400010, 16, 16⟩
def SRV_STEP_EVICT_MAX : Fld := ⟨0x400010, 0, 16⟩
/-- SRV_PFXSEED0 and SRV_PFXSEED1 (R249). -/
def SRV_PFXSEED_SEED (i : Nat) : Fld := ⟨0x400018 + 8 * i, 0, 64⟩
/-- SRV_ADM (R249). -/
def SRV_ADM_ACCEPTS : Fld := ⟨0x400028, 32, 32⟩
def SRV_ADM_DEFERRED : Fld := ⟨0x400028, 0, 16⟩
/-- SRV_LIVE (R249). -/
def SRV_LIVE_ACTIVE : Fld := ⟨0x400030, 40, 20⟩
def SRV_LIVE_PAUSED : Fld := ⟨0x400030, 20, 20⟩
def SRV_LIVE_EXPIRED : Fld := ⟨0x400030, 0, 20⟩
/-- SRV_PFX (R249). -/
def SRV_PFX_HIT_BLOCKS : Fld := ⟨0x400038, 32, 32⟩
def SRV_PFX_COLLISIONS : Fld := ⟨0x400038, 16, 16⟩
def SRV_PFX_EVICTIONS : Fld := ⟨0x400038, 0, 16⟩
/-- SRV_SPEC (R249). -/
def SRV_SPEC_PROPOSED : Fld := ⟨0x400040, 32, 32⟩
def SRV_SPEC_ACCEPTED : Fld := ⟨0x400040, 0, 32⟩
/-- SRV_DEMO (R249). -/
def SRV_DEMO_DEMOTIONS : Fld := ⟨0x400048, 32, 32⟩
def SRV_DEMO_PROMOTIONS : Fld := ⟨0x400048, 0, 32⟩
/-- SRV_REL (R249). -/
def SRV_REL_RELEASED : Fld := ⟨0x400050, 24, 40⟩
def SRV_REL_DEGRADED : Fld := ⟨0x400050, 0, 24⟩
/-- SRV_WAIT (R249). -/
def SRV_WAIT_SLOT_WAIT : Fld := ⟨0x400058, 32, 32⟩
def SRV_WAIT_COW_WAIT : Fld := ⟨0x400058, 16, 16⟩
def SRV_WAIT_CQ_STALL : Fld := ⟨0x400058, 0, 16⟩
/-- SRV_MOESEL (R249). -/
def SRV_MOESEL_LAYER : Fld := ⟨0x400060, 16, 12⟩
def SRV_MOESEL_EXPERT : Fld := ⟨0x400060, 0, 12⟩
/-- SRV_MOEDATA (R249). -/
def SRV_MOEDATA_FILLED (l e : Nat) : Fld := ⟨moeBank l e, 32, 32⟩
def SRV_MOEDATA_OVERFLOW (l e : Nat) : Fld := ⟨moeBank l e, 0, 32⟩
/-- SRV_CLASS0 to SRV_CLASS15 (R249). -/
def SRV_CLASS_MAX_ACTIVE (c : Nat) : Fld := ⟨0x400100 + 8 * c, 48, 16⟩
def SRV_CLASS_TTFT_MAX (c : Nat) : Fld := ⟨0x400100 + 8 * c, 24, 24⟩
def SRV_CLASS_ITL_MAX (c : Nat) : Fld := ⟨0x400100 + 8 * c, 0, 24⟩
/-- SRV_CLSCNT0 to SRV_CLSCNT15 (R249). -/
def SRV_CLSCNT_LIVE (c : Nat) : Fld := ⟨0x400180 + 8 * c, 0, 16⟩
/-- SRV_REJ1 to SRV_REJ10 (R249). -/
def SRV_REJ_COUNT (r : Nat) : Fld := ⟨0x400200 + 8 * r, 0, 64⟩
/-- SRV_EVT (R249). -/
def SRV_EVT_MASK_EMPTY : Fld := ⟨0x400280, 6, 1⟩
def SRV_EVT_CQ_STALL : Fld := ⟨0x400280, 5, 1⟩
def SRV_EVT_SLOT_WAIT : Fld := ⟨0x400280, 4, 1⟩
def SRV_EVT_DEMOTE : Fld := ⟨0x400280, 3, 1⟩
def SRV_EVT_EXPIRY : Fld := ⟨0x400280, 2, 1⟩
def SRV_EVT_COLLISION : Fld := ⟨0x400280, 1, 1⟩
def SRV_EVT_REJECT : Fld := ⟨0x400280, 0, 1⟩
/-- TXNP_CMD (R276). -/
def TXNP_CMD_OP (q : Nat) : Fld := ⟨portAddr q + 0x0, 62, 2⟩
def TXNP_CMD_SCOPE (q : Nat) : Fld := ⟨portAddr q + 0x0, 61, 1⟩
def TXNP_CMD_MODE (q : Nat) : Fld := ⟨portAddr q + 0x0, 59, 2⟩
def TXNP_CMD_ID (q : Nat) : Fld := ⟨portAddr q + 0x0, 0, 32⟩
/-- TXNP_FRAME (R276). -/
def TXNP_FRAME_TARGET (q : Nat) : Fld := ⟨portAddr q + 0x8, 0, 64⟩
/-- TXNP_STAT (R276). -/
def TXNP_STAT_RESULT (q : Nat) : Fld := ⟨portAddr q + 0x10, 56, 8⟩
def TXNP_STAT_LAST_REJ (q : Nat) : Fld := ⟨portAddr q + 0x10, 48, 8⟩
def TXNP_STAT_OPEN (q : Nat) : Fld := ⟨portAddr q + 0x10, 44, 1⟩
def TXNP_STAT_PENDING (q : Nat) : Fld := ⟨portAddr q + 0x10, 40, 4⟩
def TXNP_STAT_OPEN_ID (q : Nat) : Fld := ⟨portAddr q + 0x10, 0, 32⟩
/-- TXNP_DONE (R276). -/
def TXNP_DONE_RESULT (q : Nat) : Fld := ⟨portAddr q + 0x18, 56, 8⟩
def TXNP_DONE_FRAME_LO (q : Nat) : Fld := ⟨portAddr q + 0x18, 32, 24⟩
def TXNP_DONE_ID (q : Nat) : Fld := ⟨portAddr q + 0x18, 0, 32⟩
/-- TXN_CFG (R277). -/
def TXN_CFG_AHEAD_MAX : Fld := ⟨0x200000, 0, 16⟩
/-- TXN_REQ1 to TXN_REQ4 (R277). -/
def TXN_REQ_STAT (q : Nat) : Fld := ⟨0x200000 + 8 * q, 0, 64⟩
/-- TXN_CNT (R277). -/
def TXN_CNT_APPLIED : Fld := ⟨0x200040, 32, 32⟩
def TXN_CNT_FAILED : Fld := ⟨0x200040, 16, 16⟩
def TXN_CNT_SPLIT : Fld := ⟨0x200040, 0, 16⟩
/-- TXN_EVT (R277). -/
def TXN_EVT_SPLIT : Fld := ⟨0x200048, 3, 1⟩
def TXN_EVT_ROUND_ABORT : Fld := ⟨0x200048, 2, 1⟩
def TXN_EVT_UNLISTED : Fld := ⟨0x200048, 1, 1⟩
def TXN_EVT_LATE : Fld := ⟨0x200048, 0, 1⟩
/-- IMG_STAGE (R278). -/
def IMG_STAGE_BASE_4K : Fld := ⟨0x300000, 0, 30⟩
/-- IMG_COPYF (R278). -/
def IMG_COPYF_EN : Fld := ⟨0x300008, 63, 1⟩
def IMG_COPYF_BASE_4K : Fld := ⟨0x300008, 0, 30⟩
/-- IMG_CTRL (R278). -/
def IMG_CTRL_CMD : Fld := ⟨0x300010, 0, 2⟩
/-- IMG_STATE (R278). -/
def IMG_STATE_ERR_OFFSET : Fld := ⟨0x300018, 32, 32⟩
def IMG_STATE_ERR : Fld := ⟨0x300018, 8, 8⟩
def IMG_STATE_STATE : Fld := ⟨0x300018, 0, 3⟩
/-- IMG_APPLY (R278). -/
def IMG_APPLY_APPLY : Fld := ⟨0x300020, 0, 1⟩
/-- IMG_ID0 and IMG_ID1 (R278). -/
def IMG_ID_ID (i : Nat) : Fld := ⟨0x300028 + 8 * i, 0, 64⟩
/-- IMG_JOB (R278). -/
def IMG_JOB_JOB_BASE : Fld := ⟨0x300038, 0, 64⟩
/-- IMG_PROG (R278). -/
def IMG_PROG_FAILED : Fld := ⟨0x300040, 32, 16⟩
def IMG_PROG_DONE : Fld := ⟨0x300040, 16, 16⟩
def IMG_PROG_TOTAL : Fld := ⟨0x300040, 0, 16⟩
/-- IMG_EVT (R278). -/
def IMG_EVT_IMG_REMOVED : Fld := ⟨0x300048, 3, 1⟩
def IMG_EVT_IMG_APPLIED : Fld := ⟨0x300048, 2, 1⟩
def IMG_EVT_LOAD_FAIL : Fld := ⟨0x300048, 1, 1⟩
def IMG_EVT_LOAD_DONE : Fld := ⟨0x300048, 0, 1⟩
/-- FAB_ID (R333). -/
def FAB_ID_PKG_ID : Fld := ⟨0x600000, 0, 20⟩
/-- FAB_CFG (R333). -/
def FAB_CFG_FEC_THR : Fld := ⟨0x600008, 16, 16⟩
def FAB_CFG_LINK_TIMER : Fld := ⟨0x600008, 0, 13⟩
/-- FAB_PLAN (R333). -/
def FAB_PLAN_LOAD : Fld := ⟨0x600010, 63, 1⟩
def FAB_PLAN_ADDR : Fld := ⟨0x600010, 0, 42⟩
/-- FAB_EVT (R333). -/
def FAB_EVT_STANDIN_FAIL : Fld := ⟨0x600020, 9, 1⟩
def FAB_EVT_STAGE_FULL : Fld := ⟨0x600020, 8, 1⟩
def FAB_EVT_TOO_LONG : Fld := ⟨0x600020, 7, 1⟩
def FAB_EVT_REPORT : Fld := ⟨0x600020, 6, 1⟩
def FAB_EVT_FEC_MARGIN : Fld := ⟨0x600020, 5, 1⟩
def FAB_EVT_MISROUTE : Fld := ⟨0x600020, 4, 1⟩
def FAB_EVT_FRAME_SKEW : Fld := ⟨0x600020, 3, 1⟩
def FAB_EVT_STALE : Fld := ⟨0x600020, 2, 1⟩
def FAB_EVT_LINK_FAIL : Fld := ⟨0x600020, 1, 1⟩
def FAB_EVT_LOSS_OF_LIGHT : Fld := ⟨0x600020, 0, 1⟩
/-- FAB_LAST (R333). -/
def FAB_LAST_CAUSE : Fld := ⟨0x600028, 56, 8⟩
def FAB_LAST_PORT : Fld := ⟨0x600028, 0, 7⟩
/-- FAB_PSTAT (R333). -/
def FAB_PSTAT_EPOCH (p : Nat) : Fld := ⟨portRegs p + 0x0, 48, 16⟩
def FAB_PSTAT_RTT_NS (p : Nat) : Fld := ⟨portRegs p + 0x0, 32, 16⟩
def FAB_PSTAT_PARTNER (p : Nat) : Fld := ⟨portRegs p + 0x0, 25, 7⟩
def FAB_PSTAT_IN_USE (p : Nat) : Fld := ⟨portRegs p + 0x0, 24, 1⟩
def FAB_PSTAT_REPORT (p : Nat) : Fld := ⟨portRegs p + 0x0, 16, 4⟩
def FAB_PSTAT_STATE (p : Nat) : Fld := ⟨portRegs p + 0x0, 0, 3⟩
/-- FAB_PCTL (R333). -/
def FAB_PCTL_PEND_ON (p : Nat) : Fld := ⟨portRegs p + 0x8, 2, 1⟩
def FAB_PCTL_DRAINING (p : Nat) : Fld := ⟨portRegs p + 0x8, 1, 1⟩
def FAB_PCTL_EN (p : Nat) : Fld := ⟨portRegs p + 0x8, 0, 1⟩
/-- FAB_PNBR (R333). -/
def FAB_PNBR_KIND (p : Nat) : Fld := ⟨portRegs p + 0x10, 62, 2⟩
def FAB_PNBR_ID (p : Nat) : Fld := ⟨portRegs p + 0x10, 32, 20⟩
def FAB_PNBR_PORT (p : Nat) : Fld := ⟨portRegs p + 0x10, 0, 16⟩
/-- FAB_PERR (R333). -/
def FAB_PERR_CORR_SYM (p : Nat) : Fld := ⟨portRegs p + 0x18, 32, 32⟩
def FAB_PERR_UNCORR (p : Nat) : Fld := ⟨portRegs p + 0x18, 16, 16⟩
def FAB_PERR_LINK_FAILS (p : Nat) : Fld := ⟨portRegs p + 0x18, 8, 8⟩
def FAB_PERR_LOL (p : Nat) : Fld := ⟨portRegs p + 0x18, 0, 8⟩
/-- FAB_PCNT (R333). -/
def FAB_PCNT_RETRANS (p : Nat) : Fld := ⟨portRegs p + 0x20, 32, 32⟩
def FAB_PCNT_STALE (p : Nat) : Fld := ⟨portRegs p + 0x20, 16, 16⟩
def FAB_PCNT_STAGE_FULL (p : Nat) : Fld := ⟨portRegs p + 0x20, 0, 16⟩
/-- QDR_CFG (R334). -/
def QDR_CFG_HOP_GUARD_NS : Fld := ⟨0x700000, 48, 16⟩
def QDR_CFG_HELD_PASSES : Fld := ⟨0x700000, 32, 8⟩
def QDR_CFG_WINDOW_NS : Fld := ⟨0x700000, 0, 20⟩
/-- QDR_TREE (R334). -/
def QDR_TREE_ROOT : Fld := ⟨0x700008, 44, 20⟩
def QDR_TREE_STANDBY : Fld := ⟨0x700008, 24, 20⟩
def QDR_TREE_PARENT : Fld := ⟨0x700008, 17, 7⟩
def QDR_TREE_IS_ROOT : Fld := ⟨0x700008, 16, 1⟩
def QDR_TREE_IS_STANDBY : Fld := ⟨0x700008, 15, 1⟩
def QDR_TREE_DEPTH : Fld := ⟨0x700008, 0, 8⟩
/-- QDR_CHILD0 and QDR_CHILD1 (R334). -/
def QDR_CHILD_PORTS (i : Nat) : Fld := ⟨0x700010 + 8 * i, 0, 64⟩
/-- QDR_JOB (R334). -/
def QDR_JOB_JOB_ID : Fld := ⟨0x700020, 32, 32⟩
def QDR_JOB_MEMBERS : Fld := ⟨0x700020, 0, 32⟩
/-- QDR_SELF (R334). -/
def QDR_SELF_MEMBER_IDX : Fld := ⟨0x700028, 0, 32⟩
/-- QDR_DONE (R334). -/
def QDR_DONE_FRAME : Fld := ⟨0x700030, 0, 64⟩
/-- QDR_LAT (R334). -/
def QDR_LAT_MAX_NS : Fld := ⟨0x700038, 32, 32⟩
def QDR_LAT_LAST_NS : Fld := ⟨0x700038, 0, 32⟩
/-- QDR_FAIL (R334). -/
def QDR_FAIL_MEMBER : Fld := ⟨0x700040, 32, 32⟩
def QDR_FAIL_CAUSE : Fld := ⟨0x700040, 24, 8⟩
def QDR_FAIL_FRAME_LO : Fld := ⟨0x700040, 0, 24⟩
/-- QDR_CNT (R334). -/
def QDR_CNT_LATE : Fld := ⟨0x700048, 32, 32⟩
def QDR_CNT_ABORTS : Fld := ⟨0x700048, 16, 16⟩
def QDR_CNT_COMMITS : Fld := ⟨0x700048, 0, 16⟩
/-- QDR_EVT (R334). -/
def QDR_EVT_HELD_SENT : Fld := ⟨0x700050, 5, 1⟩
def QDR_EVT_LATE : Fld := ⟨0x700050, 4, 1⟩
def QDR_EVT_MANY_MISSING : Fld := ⟨0x700050, 3, 1⟩
def QDR_EVT_ROOT_LOST : Fld := ⟨0x700050, 2, 1⟩
def QDR_EVT_ABORT : Fld := ⟨0x700050, 1, 1⟩
def QDR_EVT_MEMBER_FAILED : Fld := ⟨0x700050, 0, 1⟩
/-- MEM_NCFG (R352). -/
def MEM_NCFG_SCRUB_H : Fld := ⟨0x800000, 8, 8⟩
def MEM_NCFG_MODE : Fld := ⟨0x800000, 0, 1⟩
/-- MEM_FCFG (R352). -/
def MEM_FCFG_POPULATED : Fld := ⟨0x800008, 16, 16⟩
def MEM_FCFG_MODE : Fld := ⟨0x800008, 0, 1⟩
/-- MEM_POOL (R352). -/
def MEM_POOL_EN : Fld := ⟨0x800010, 0, 1⟩
/-- MEM_PWIN_N and MEM_PWIN_F (R352). -/
def MEM_PWIN_PAGES_4K (i : Nat) : Fld := ⟨0x800018 + 8 * i, 34, 30⟩
def MEM_PWIN_BASE_4K (i : Nat) : Fld := ⟨0x800018 + 8 * i, 0, 30⟩
/-- MEM_ERRLOG (R352). -/
def MEM_ERRLOG_GADDR : Fld := ⟨0x800028, 0, 64⟩
/-- MEM_ERRCAUSE (R352). -/
def MEM_ERRCAUSE_CAUSE : Fld := ⟨0x800030, 0, 8⟩
/-- MEM_PCNT (R352). -/
def MEM_PCNT_SERVED : Fld := ⟨0x800038, 32, 32⟩
def MEM_PCNT_REFUSED : Fld := ⟨0x800038, 0, 32⟩
/-- MEM_EVT (R352). -/
def MEM_EVT_PQ_DONE : Fld := ⟨0x800040, 6, 1⟩
def MEM_EVT_POOL_REFUSED : Fld := ⟨0x800040, 5, 1⟩
def MEM_EVT_STACK_FAIL : Fld := ⟨0x800040, 4, 1⟩
def MEM_EVT_CH_FAIL : Fld := ⟨0x800040, 3, 1⟩
def MEM_EVT_F_UNCORR : Fld := ⟨0x800040, 2, 1⟩
def MEM_EVT_N_UNCORR : Fld := ⟨0x800040, 1, 1⟩
def MEM_EVT_CORRECTED : Fld := ⟨0x800040, 0, 1⟩
/-- MEM_NSTK0 to MEM_NSTK7 (R352). -/
def MEM_NSTK_CORRECTED (k : Nat) : Fld := ⟨0x800100 + 8 * k, 32, 32⟩
def MEM_NSTK_UNCORR (k : Nat) : Fld := ⟨0x800100 + 8 * k, 16, 16⟩
def MEM_NSTK_STATE (k : Nat) : Fld := ⟨0x800100 + 8 * k, 0, 2⟩
/-- MEM_FCH0 to MEM_FCH15 (R352). -/
def MEM_FCH_EPOCH (c : Nat) : Fld := ⟨0x800200 + 8 * c, 48, 16⟩
def MEM_FCH_UNCORR (c : Nat) : Fld := ⟨0x800200 + 8 * c, 32, 16⟩
def MEM_FCH_CORRECTED (c : Nat) : Fld := ⟨0x800200 + 8 * c, 16, 16⟩
def MEM_FCH_SIZE (c : Nat) : Fld := ⟨0x800200 + 8 * c, 8, 4⟩
def MEM_FCH_PEND_ON (c : Nat) : Fld := ⟨0x800200 + 8 * c, 5, 1⟩
def MEM_FCH_DRAINING (c : Nat) : Fld := ⟨0x800200 + 8 * c, 4, 1⟩
def MEM_FCH_STATE (c : Nat) : Fld := ⟨0x800200 + 8 * c, 1, 3⟩
def MEM_FCH_EN (c : Nat) : Fld := ⟨0x800200 + 8 * c, 0, 1⟩
/-- MEM_PQADDR (R352). -/
def MEM_PQADDR_GADDR (q : Nat) : Fld := ⟨pqSlot q + 0x0, 0, 64⟩
/-- MEM_PQLOCAL (R352). -/
def MEM_PQLOCAL_PORT (q : Nat) : Fld := ⟨pqSlot q + 0x8, 54, 7⟩
def MEM_PQLOCAL_LOCAL (q : Nat) : Fld := ⟨pqSlot q + 0x8, 0, 42⟩
/-- MEM_PQLEN (R352). -/
def MEM_PQLEN_LEN (q : Nat) : Fld := ⟨pqSlot q + 0x10, 0, 36⟩
/-- MEM_PQCMD (R352). -/
def MEM_PQCMD_OP (q : Nat) : Fld := ⟨pqSlot q + 0x18, 62, 2⟩
def MEM_PQCMD_STATUS (q : Nat) : Fld := ⟨pqSlot q + 0x18, 48, 8⟩
def MEM_PQCMD_DONE_BYTES (q : Nat) : Fld := ⟨pqSlot q + 0x18, 0, 40⟩
/-- CHK_CFG (R381). -/
def CHK_CFG_HARD_Z : Fld := ⟨0x900000, 56, 8⟩
def CHK_CFG_SOFT_Z : Fld := ⟨0x900000, 48, 8⟩
def CHK_CFG_HARD_LANES : Fld := ⟨0x900000, 44, 4⟩
def CHK_CFG_SOFT_LIMIT : Fld := ⟨0x900000, 32, 8⟩
def CHK_CFG_CHK_GROSS : Fld := ⟨0x900000, 28, 4⟩
def CHK_CFG_PX_LIMIT : Fld := ⟨0x900000, 24, 4⟩
/-- CHK_OBS (R381). -/
def CHK_OBS_RAIL_DECAY : Fld := ⟨0x900008, 32, 32⟩
def CHK_OBS_OBS_FRAMES : Fld := ⟨0x900008, 0, 16⟩
/-- CHK_LOGBASE (R381). -/
def CHK_LOGBASE_ADDR : Fld := ⟨0x900010, 0, 42⟩
/-- CHK_LOGSZ (R381). -/
def CHK_LOGSZ_LOG2 : Fld := ⟨0x900018, 0, 5⟩
/-- CHK_LOGHEAD (R381). -/
def CHK_LOGHEAD_DROPPED : Fld := ⟨0x900020, 32, 32⟩
def CHK_LOGHEAD_HEAD : Fld := ⟨0x900020, 0, 32⟩
/-- CHK_LOGTAIL (R381). -/
def CHK_LOGTAIL_TAIL : Fld := ⟨0x900028, 0, 32⟩
/-- CHK_SEV (R381). -/
def CHK_SEV_FATAL : Fld := ⟨0x900030, 48, 16⟩
def CHK_SEV_JOB_FAULT : Fld := ⟨0x900030, 32, 16⟩
def CHK_SEV_DEGRADED : Fld := ⟨0x900030, 16, 16⟩
def CHK_SEV_CORRECTED : Fld := ⟨0x900030, 0, 16⟩
/-- CHK_CSEL (R381). -/
def CHK_CSEL_CAUSE : Fld := ⟨0x900038, 0, 8⟩
/-- CHK_CDATA (R381). -/
def CHK_CDATA_COUNT (x : Nat) : Fld := ⟨causeBank x, 32, 32⟩
def CHK_CDATA_LAST_UNIT (x : Nat) : Fld := ⟨causeBank x, 0, 32⟩
/-- CHK_NSEL (R381). -/
def CHK_NSEL_DIR : Fld := ⟨0x900048, 10, 2⟩
def CHK_NSEL_CORE : Fld := ⟨0x900048, 0, 10⟩
/-- CHK_NDATA (R381). -/
def CHK_NDATA_CRC_ERRS (l : Nat) : Fld := ⟨linkBank l, 0, 32⟩
/-- CHK_TAINT (R381). -/
def CHK_TAINT_STRIDE_4K : Fld := ⟨0x900068, 48, 10⟩
def CHK_TAINT_ADDR : Fld := ⟨0x900068, 0, 42⟩
/-- CHK_SFROM (R381). -/
def CHK_SFROM_FRAME : Fld := ⟨0x900070, 0, 64⟩
/-- CHK_SHCNT (R381). -/
def CHK_SHCNT_HARD : Fld := ⟨0x900078, 48, 16⟩
def CHK_SHCNT_SOFT : Fld := ⟨0x900078, 32, 16⟩
def CHK_SHCNT_CLEAN : Fld := ⟨0x900078, 0, 32⟩
/-- CHK_EVT (R381). -/
def CHK_EVT_PX_ESCALATE : Fld := ⟨0x900080, 9, 1⟩
def CHK_EVT_SUSP_FULL : Fld := ⟨0x900080, 8, 1⟩
def CHK_EVT_RAIL_MAX : Fld := ⟨0x900080, 7, 1⟩
def CHK_EVT_FENCE_REQ : Fld := ⟨0x900080, 6, 1⟩
def CHK_EVT_SUSPECT : Fld := ⟨0x900080, 5, 1⟩
def CHK_EVT_LOG_DROP : Fld := ⟨0x900080, 4, 1⟩
def CHK_EVT_FATAL : Fld := ⟨0x900080, 3, 1⟩
def CHK_EVT_JOB_FAULT : Fld := ⟨0x900080, 2, 1⟩
def CHK_EVT_DEGRADED : Fld := ⟨0x900080, 1, 1⟩
def CHK_EVT_CORRECTED : Fld := ⟨0x900080, 0, 1⟩
/-- CHK_SUSP0 to CHK_SUSP15 (R381). -/
def CHK_SUSP_STATE (i : Nat) : Fld := ⟨0x900100 + 8 * i, 62, 2⟩
def CHK_SUSP_KIND (i : Nat) : Fld := ⟨0x900100 + 8 * i, 58, 4⟩
def CHK_SUSP_SINCE (i : Nat) : Fld := ⟨0x900100 + 8 * i, 32, 24⟩
def CHK_SUSP_UNIT (i : Nat) : Fld := ⟨0x900100 + 8 * i, 0, 32⟩
/-- RCV_CFG (R410). -/
def RCV_CFG_RESTORE_US : Fld := ⟨0xA00000, 48, 16⟩
def RCV_CFG_ACK_WAIT_US : Fld := ⟨0xA00000, 32, 16⟩
def RCV_CFG_REPEAT_MAX : Fld := ⟨0xA00000, 16, 4⟩
def RCV_CFG_RESTORE_PAGES : Fld := ⟨0xA00000, 0, 11⟩
/-- RCV_JRNL and RCV_JMIR (R410). -/
def RCV_JRNL_BLOCKS : Fld := ⟨0xA00008, 30, 30⟩
def RCV_JRNL_BASE_4K : Fld := ⟨0xA00008, 0, 30⟩
def RCV_JMIR_BLOCKS : Fld := ⟨0xA00010, 30, 30⟩
def RCV_JMIR_BASE_4K : Fld := ⟨0xA00010, 0, 30⟩
/-- RCV_JFREE (R410). -/
def RCV_JFREE_MIRROR : Fld := ⟨0xA00018, 32, 30⟩
def RCV_JFREE_OWN : Fld := ⟨0xA00018, 0, 30⟩
/-- RCV_STATE (R410). -/
def RCV_STATE_LOST_MEMBER : Fld := ⟨0xA00020, 32, 32⟩
def RCV_STATE_STATE : Fld := ⟨0xA00020, 0, 3⟩
/-- RCV_ROLL (R410). -/
def RCV_ROLL_RESUME : Fld := ⟨0xA00028, 32, 32⟩
def RCV_ROLL_ROLLBACK : Fld := ⟨0xA00028, 0, 32⟩
/-- RCV_FAULT (R410). -/
def RCV_FAULT_MEMBER : Fld := ⟨0xA00030, 32, 32⟩
def RCV_FAULT_CAUSE : Fld := ⟨0xA00030, 0, 32⟩
/-- RCV_TIME (R410). -/
def RCV_TIME_MAX_NS : Fld := ⟨0xA00038, 32, 32⟩
def RCV_TIME_LAST_NS : Fld := ⟨0xA00038, 0, 32⟩
/-- RCV_CNT (R410). -/
def RCV_CNT_ROLLBACKS : Fld := ⟨0xA00040, 32, 32⟩
def RCV_CNT_RECONSTRUCTS : Fld := ⟨0xA00040, 24, 8⟩
def RCV_CNT_JOB_FAILS : Fld := ⟨0xA00040, 16, 8⟩
def RCV_CNT_REBUILDS : Fld := ⟨0xA00040, 0, 16⟩
/-- RCV_REPLAY (R410). -/
def RCV_REPLAY_DELTA : Fld := ⟨0xA00048, 0, 64⟩
/-- RCV_EPSEL (R410). -/
def RCV_EPSEL_KIND : Fld := ⟨0xA00050, 16, 2⟩
def RCV_EPSEL_INDEX : Fld := ⟨0xA00050, 0, 13⟩
/-- RCV_EPDATA (R410). -/
def RCV_EPDATA_RESET (k i : Nat) : Fld := ⟨epochBank k i, 17, 1⟩
def RCV_EPDATA_IN_RESET (k i : Nat) : Fld := ⟨epochBank k i, 16, 1⟩
def RCV_EPDATA_EPOCH (k i : Nat) : Fld := ⟨epochBank k i, 0, 16⟩
/-- RCV_UADDR (R410). -/
def RCV_UADDR_CORE : Fld := ⟨0xA00060, 0, 10⟩
/-- RCV_UPWR (R410). -/
def RCV_UPWR_CORE_PEND (c : Nat) : Fld := ⟨upwrBank c, 53, 1⟩
def RCV_UPWR_WIDE_PEND (c : Nat) : Fld := ⟨upwrBank c, 52, 1⟩
def RCV_UPWR_CNV_PEND (c : Nat) : Fld := ⟨upwrBank c, 44, 8⟩
def RCV_UPWR_TILE_PEND (c : Nat) : Fld := ⟨upwrBank c, 36, 8⟩
def RCV_UPWR_DRAINING (c : Nat) : Fld := ⟨upwrBank c, 18, 18⟩
def RCV_UPWR_CORE_EN (c : Nat) : Fld := ⟨upwrBank c, 17, 1⟩
def RCV_UPWR_WIDE_EN (c : Nat) : Fld := ⟨upwrBank c, 16, 1⟩
def RCV_UPWR_CNV_EN (c : Nat) : Fld := ⟨upwrBank c, 8, 8⟩
def RCV_UPWR_TILE_EN (c : Nat) : Fld := ⟨upwrBank c, 0, 8⟩
/-- RCV_ADOPT (R410). -/
def RCV_ADOPT_BOUND : Fld := ⟨0xA00070, 63, 1⟩
def RCV_ADOPT_LOST_PKG : Fld := ⟨0xA00070, 32, 20⟩
def RCV_ADOPT_QUEUE : Fld := ⟨0xA00070, 0, 16⟩
/-- RCV_STALE (R410). -/
def RCV_STALE_STALE_REPLIES : Fld := ⟨0xA00078, 32, 32⟩
def RCV_STALE_FENCED_REPLIES : Fld := ⟨0xA00078, 0, 32⟩
/-- RCV_EVT (R410). -/
def RCV_EVT_PEND_APPLIED : Fld := ⟨0xA00080, 5, 1⟩
def RCV_EVT_REBUILD : Fld := ⟨0xA00080, 4, 1⟩
def RCV_EVT_ADOPTED : Fld := ⟨0xA00080, 3, 1⟩
def RCV_EVT_JOB_FAILED : Fld := ⟨0xA00080, 2, 1⟩
def RCV_EVT_RECONSTRUCT : Fld := ⟨0xA00080, 1, 1⟩
def RCV_EVT_ROLLBACK : Fld := ⟨0xA00080, 0, 1⟩
/-- MBX_REQ0 to MBX_REQ7 (R437). -/
def MBX_REQ_WORD (d i : Nat) : Fld := ⟨doorAddr d + 8 * i, 0, 64⟩
/-- MBX_BELL (R437). -/
def MBX_BELL_RING (d : Nat) : Fld := ⟨doorAddr d + 0x40, 0, 1⟩
/-- MBX_STAT (R437). -/
def MBX_STAT_DONE_CNT (d : Nat) : Fld := ⟨doorAddr d + 0x48, 32, 32⟩
def MBX_STAT_OVERRUN (d : Nat) : Fld := ⟨doorAddr d + 0x48, 2, 1⟩
def MBX_STAT_DONE (d : Nat) : Fld := ⟨doorAddr d + 0x48, 1, 1⟩
def MBX_STAT_BUSY (d : Nat) : Fld := ⟨doorAddr d + 0x48, 0, 1⟩
/-- MBX_RSP0 to MBX_RSP7 (R437). -/
def MBX_RSP_WORD (d i : Nat) : Fld := ⟨doorAddr d + 0x80 + 8 * i, 0, 64⟩
/-- SEC_STATE (R441). -/
def SEC_STATE_OWNER_SLOTS : Fld := ⟨0xB00000, 32, 8⟩
def SEC_STATE_FLOOR_I : Fld := ⟨0xB00000, 24, 8⟩
def SEC_STATE_FLOOR_L : Fld := ⟨0xB00000, 16, 8⟩
def SEC_STATE_FLOOR_Y : Fld := ⟨0xB00000, 8, 8⟩
def SEC_STATE_DEBUG_KILL : Fld := ⟨0xB00000, 7, 1⟩
def SEC_STATE_DEBUG : Fld := ⟨0xB00000, 5, 2⟩
def SEC_STATE_YAR_SLOT : Fld := ⟨0xB00000, 4, 1⟩
def SEC_STATE_LSP_SLOT : Fld := ⟨0xB00000, 3, 1⟩
def SEC_STATE_OWNED : Fld := ⟨0xB00000, 0, 1⟩
/-- SEC_DEVID0 and SEC_DEVID1 (R441). -/
def SEC_DEVID_ID (i : Nat) : Fld := ⟨0xB00008 + 8 * i, 0, 64⟩
/-- SEC_VER (R441). -/
def SEC_VER_LARKSPUR : Fld := ⟨0xB00018, 32, 32⟩
def SEC_VER_YARROW : Fld := ⟨0xB00018, 0, 32⟩
/-- SEC_OWNER0 to SEC_OWNER3 (R441). -/
def SEC_OWNER_HASH (i : Nat) : Fld := ⟨0xB00020 + 8 * i, 0, 64⟩
/-- SEC_CNT (R441). -/
def SEC_CNT_QUOTES : Fld := ⟨0xB00040, 48, 16⟩
def SEC_CNT_BAD_SIG : Fld := ⟨0xB00040, 32, 16⟩
def SEC_CNT_MLOG : Fld := ⟨0xB00040, 16, 16⟩
def SEC_CNT_TRANSFERS : Fld := ⟨0xB00040, 0, 16⟩
/-- SEC_MR0 to SEC_MR7 (R441). -/
def SEC_MR_VALUE (i w : Nat) : Fld := ⟨0xB00100 + 32 * i + 8 * w, 0, 64⟩
/-- MGT_LSTATE (R442). -/
def MGT_LSTATE_KICKS : Fld := ⟨0xC00000, 32, 32⟩
def MGT_LSTATE_STATE : Fld := ⟨0xC00000, 0, 3⟩
/-- MGT_LVER (R442). -/
def MGT_LVER_SVN : Fld := ⟨0xC00008, 32, 8⟩
def MGT_LVER_VERSION : Fld := ⟨0xC00008, 0, 32⟩
/-- MGT_ACL (R442). -/
def MGT_ACL_DENIED : Fld := ⟨0xC00010, 42, 22⟩
def MGT_ACL_LAST : Fld := ⟨0xC00010, 0, 42⟩
/-- MGT_CNT (R442). -/
def MGT_CNT_RESTARTS : Fld := ⟨0xC00018, 32, 32⟩
def MGT_CNT_UPDATES : Fld := ⟨0xC00018, 16, 16⟩
def MGT_CNT_REVERTS : Fld := ⟨0xC00018, 0, 16⟩
/-- PWR_LIMIT (R463). -/
def PWR_LIMIT_HYST_W : Fld := ⟨0xD00040, 16, 16⟩
def PWR_LIMIT_LIMIT_W : Fld := ⟨0xD00040, 0, 16⟩
/-- PWR_IN (R463). -/
def PWR_IN_POWER_W : Fld := ⟨0xD00048, 48, 16⟩
def PWR_IN_CURRENT_MA : Fld := ⟨0xD00048, 16, 16⟩
def PWR_IN_VOLT_MV : Fld := ⟨0xD00048, 0, 16⟩
/-- PWR_STATE (R463). -/
def PWR_STATE_LEVEL_P : Fld := ⟨0xD00050, 48, 4⟩
def PWR_STATE_VCORE_OK : Fld := ⟨0xD00050, 16, 32⟩
def PWR_STATE_PWR_GOOD : Fld := ⟨0xD00050, 10, 1⟩
def PWR_STATE_RAIL_OK : Fld := ⟨0xD00050, 0, 10⟩
/-- PWR_LASTOFF (R463). -/
def PWR_LASTOFF_CAUSE : Fld := ⟨0xD00058, 56, 8⟩
def PWR_LASTOFF_INDEX : Fld := ⟨0xD00058, 32, 16⟩
def PWR_LASTOFF_READING : Fld := ⟨0xD00058, 0, 16⟩
/-- PWR_EVT (R463). -/
def PWR_EVT_VCORE_FAIL : Fld := ⟨0xD00060, 2, 1⟩
def PWR_EVT_I_MAX : Fld := ⟨0xD00060, 1, 1⟩
def PWR_EVT_LIMIT : Fld := ⟨0xD00060, 0, 1⟩
/-- THM_CFG (R464). -/
def THM_CFG_FORCE_LEVEL : Fld := ⟨0xE00000, 0, 4⟩
/-- THM_STATE (R464). -/
def THM_STATE_HOT_SENSOR : Fld := ⟨0xE00008, 32, 16⟩
def THM_STATE_HOT_READ : Fld := ⟨0xE00008, 16, 16⟩
def THM_STATE_LEVEL_T : Fld := ⟨0xE00008, 0, 4⟩
/-- THM_SSEL (R464). -/
def THM_SSEL_SENSOR : Fld := ⟨0xE00010, 0, 9⟩
/-- THM_SDATA (R464). -/
def THM_SDATA_MAX_READ (x : Nat) : Fld := ⟨sensorBank x, 48, 16⟩
def THM_SDATA_USED (x : Nat) : Fld := ⟨sensorBank x, 32, 16⟩
def THM_SDATA_LEVEL (x : Nat) : Fld := ⟨sensorBank x, 28, 4⟩
def THM_SDATA_STATE (x : Nat) : Fld := ⟨sensorBank x, 24, 2⟩
def THM_SDATA_FAST (x : Nat) : Fld := ⟨sensorBank x, 16, 1⟩
def THM_SDATA_READ (x : Nat) : Fld := ⟨sensorBank x, 0, 16⟩
/-- THM_XCHK (R464). -/
def THM_XCHK_CHECKS : Fld := ⟨0xE00048, 32, 16⟩
def THM_XCHK_MARKED : Fld := ⟨0xE00048, 16, 16⟩
def THM_XCHK_START : Fld := ⟨0xE00048, 0, 1⟩
/-- THM_EVT (R464). -/
def THM_EVT_FAST : Fld := ⟨0xE00050, 3, 1⟩
def THM_EVT_BROKEN : Fld := ⟨0xE00050, 2, 1⟩
def THM_EVT_CRIT_SINGLE : Fld := ⟨0xE00050, 1, 1⟩
def THM_EVT_THROTTLE : Fld := ⟨0xE00050, 0, 1⟩
/-- HKA_MASK (R465). -/
def HKA_MASK_MASK : Fld := ⟨0xF00000, 0, 48⟩
/-- HKA_STAT (R465). -/
def HKA_STAT_SCANS : Fld := ⟨0xF00008, 32, 32⟩
def HKA_STAT_POWERED : Fld := ⟨0xF00008, 8, 1⟩
def HKA_STAT_CHANNEL : Fld := ⟨0xF00008, 0, 6⟩
/-- HKA_VSEL (R465). -/
def HKA_VSEL_REGION1 : Fld := ⟨0xF00010, 8, 4⟩
def HKA_VSEL_REGION0 : Fld := ⟨0xF00010, 0, 4⟩
/-- HKA_EVT (R465). -/
def HKA_EVT_THRESH : Fld := ⟨0xF00018, 0, 48⟩
/-- HKA_RES (R465). -/
def HKA_RES_STAMP (n : Nat) : Fld := ⟨hkaChan n + 0x0, 32, 32⟩
def HKA_RES_RESULT (n : Nat) : Fld := ⟨hkaChan n + 0x0, 0, 12⟩
/-- HKA_TRK (R465). -/
def HKA_TRK_CLR (n : Nat) : Fld := ⟨hkaChan n + 0x8, 63, 1⟩
def HKA_TRK_MAX (n : Nat) : Fld := ⟨hkaChan n + 0x8, 16, 12⟩
def HKA_TRK_MIN (n : Nat) : Fld := ⟨hkaChan n + 0x8, 0, 12⟩
/-- HKA_THR (R465). -/
def HKA_THR_HI (n : Nat) : Fld := ⟨hkaChan n + 0x10, 16, 12⟩
def HKA_THR_LO (n : Nat) : Fld := ⟨hkaChan n + 0x10, 0, 12⟩
/-- QP_CFG (R496). -/
def QP_CFG_EN (q : Nat) : Fld := ⟨qpPage q + 0x0, 63, 1⟩
def QP_CFG_VECTOR (q : Nat) : Fld := ⟨qpPage q + 0x0, 50, 6⟩
def QP_CFG_SIZE_LOG2 (q : Nat) : Fld := ⟨qpPage q + 0x0, 44, 4⟩
/-- QP_SQT (R496). -/
def QP_SQT_TAIL (q : Nat) : Fld := ⟨qpPage q + 0x8, 0, 12⟩
/-- QP_CQH (R496). -/
def QP_CQH_ARM (q : Nat) : Fld := ⟨qpPage q + 0x10, 63, 1⟩
def QP_CQH_HEAD (q : Nat) : Fld := ⟨qpPage q + 0x10, 0, 12⟩
/-- QP_STAT (R496). -/
def QP_STAT_ERR (q : Nat) : Fld := ⟨qpPage q + 0x18, 60, 4⟩
def QP_STAT_SCOPE (q : Nat) : Fld := ⟨qpPage q + 0x18, 40, 20⟩
def QP_STAT_PHASE (q : Nat) : Fld := ⟨qpPage q + 0x18, 39, 1⟩
def QP_STAT_ARMED (q : Nat) : Fld := ⟨qpPage q + 0x18, 38, 1⟩
def QP_STAT_CQ_TAIL (q : Nat) : Fld := ⟨qpPage q + 0x18, 24, 12⟩
def QP_STAT_CQ_HEAD (q : Nat) : Fld := ⟨qpPage q + 0x18, 12, 12⟩
def QP_STAT_SQ_HEAD (q : Nat) : Fld := ⟨qpPage q + 0x18, 0, 12⟩
/-- QP_CNT (R496). -/
def QP_CNT_SUBMITTED (q : Nat) : Fld := ⟨qpPage q + 0x20, 32, 32⟩
def QP_CNT_POSTED (q : Nat) : Fld := ⟨qpPage q + 0x20, 0, 32⟩
/-- SYS_ID (R509). -/
def SYS_ID_PART : Fld := ⟨0x0, 48, 16⟩
def SYS_ID_STEPPING : Fld := ⟨0x0, 40, 8⟩
def SYS_ID_MAP_VER : Fld := ⟨0x0, 32, 8⟩
/-- SYS_STATUS (R509). -/
def SYS_STATUS_RCV_STATE : Fld := ⟨0x8, 57, 3⟩
def SYS_STATUS_IMG_STATE : Fld := ⟨0x8, 54, 3⟩
def SYS_STATUS_LSTATE : Fld := ⟨0x8, 51, 3⟩
def SYS_STATUS_START_MS : Fld := ⟨0x8, 32, 16⟩
def SYS_STATUS_JOB_LEVEL : Fld := ⟨0x8, 12, 4⟩
def SYS_STATUS_PWR_GOOD : Fld := ⟨0x8, 11, 1⟩
def SYS_STATUS_DRAIN : Fld := ⟨0x8, 8, 3⟩
def SYS_STATUS_PHASE : Fld := ⟨0x8, 0, 4⟩
/-- SYS_CTRL (R509). -/
def SYS_CTRL_KEY : Fld := ⟨0x10, 48, 16⟩
def SYS_CTRL_LOCATE : Fld := ⟨0x10, 1, 1⟩
def SYS_CTRL_RESET : Fld := ⟨0x10, 0, 1⟩
/-- SYS_BUTTON (R509). -/
def SYS_BUTTON_SHORT : Fld := ⟨0x18, 32, 32⟩
def SYS_BUTTON_HELD : Fld := ⟨0x18, 0, 1⟩
/-- SYS_EVT (R509). -/
def SYS_EVT_RESET_DONE : Fld := ⟨0x20, 4, 1⟩
def SYS_EVT_HOST_ERR : Fld := ⟨0x20, 3, 1⟩
def SYS_EVT_DRAIN : Fld := ⟨0x20, 2, 1⟩
def SYS_EVT_SHORT_PRESS : Fld := ⟨0x20, 1, 1⟩
def SYS_EVT_PHASE : Fld := ⟨0x20, 0, 1⟩
/-- SYS_IRQMASK (R509). -/
def SYS_IRQMASK_MASK : Fld := ⟨0x28, 0, 17⟩
/-- SYS_EVTLATCH (R509). -/
def SYS_EVTLATCH_REGIONS : Fld := ⟨0x30, 16, 1⟩
def SYS_EVTLATCH_BLOCK : Fld := ⟨0x30, 0, 16⟩
/-- SYS_HOSTERR (R509). -/
def SYS_HOSTERR_PARTIAL : Fld := ⟨0x38, 48, 16⟩
def SYS_HOSTERR_FENCED : Fld := ⟨0x38, 32, 16⟩
def SYS_HOSTERR_WINDOW : Fld := ⟨0x38, 16, 16⟩
def SYS_HOSTERR_EARLY : Fld := ⟨0x38, 0, 16⟩
/-- SYS_ERR0 to SYS_ERR3 (R509). -/
def SYS_ERR_REC (w : Nat) : Fld := ⟨0x40 + 8 * w, 0, 64⟩
/-- SYS_WIN0 to SYS_WIN15 (R509). -/
def SYS_WIN_EN (x : Nat) : Fld := ⟨0x100 + 8 * x, 63, 1⟩
def SYS_WIN_SPACE (x : Nat) : Fld := ⟨0x100 + 8 * x, 61, 2⟩
def SYS_WIN_BASE_4G (x : Nat) : Fld := ⟨0x100 + 8 * x, 32, 10⟩

/-- Byte `g` of ARR_CHKCNT0/1: the mismatch counter of group `g` (R71, R90). -/
def ARR_CHKCNT (A g : Nat) : Fld := ⟨arrBlock A + 0x30 + 8 * (g / 8), 8 * (g % 8), 8⟩
/-- TOL of group `g` in ARR_TOL0 to ARR_TOL3 (R70, R90). -/
def ARR_TOL (A g : Nat) : Fld := ⟨arrBlock A + 0x40 + 8 * (g / 4), 16 * (g % 4), 16⟩
/-- CNV_SUBST: EN of group `g` (R81, R90). -/
def CNV_SUBST_EN (T g : Nat) : Fld := ⟨cnvTile T + 0x08 + 8 * (g / 8), 8 * (g % 8) + 7, 1⟩
/-- CNV_SUBST: the position replaced in group `g` (R81, R90). -/
def CNV_SUBST_COL (T g : Nat) : Fld := ⟨cnvTile T + 0x08 + 8 * (g / 8), 8 * (g % 8), 6⟩
/-- The range code of physical column `k` of array `A`, shown by CNV_DATA (R67, R90). -/
def RANGE_CODE (A k : Nat) : Fld := ⟨rangeBank A k, 48, 3⟩
/-- Words in bank `b`'s correction log (R151, R154). -/
def SPD_PEND (c b : Nat) : Fld := ⟨spdBlock c + 0x30, 4 * b, 4⟩
/-- FAB_SPARE: EN of engine `m` (R303, R333). -/
def FAB_SPARE_EN (m : Nat) : Fld := ⟨0x600018, 8 * m + 7, 1⟩
/-- FAB_SPARE: the fibre pair taken over on engine `m` (R303, R333). -/
def FAB_SPARE_POS (m : Nat) : Fld := ⟨0x600018, 8 * m, 3⟩
/-- VCORE offset steps of region `n` (R367, R381). -/
def CHK_RAIL (n : Nat) : Fld := ⟨0x900058 + 8 * (n / 16), 4 * (n % 16), 4⟩
/-- VCORE setpoint code of region `n` (R446, R463). -/
def PWR_VCORE (n : Nat) : Fld := ⟨0xD00000 + 8 * (n / 8), 8 * (n % 8), 5⟩
/-- Effective VCORE code of region `n` (R446, R463). -/
def PWR_VEFF (n : Nat) : Fld := ⟨0xD00020 + 8 * (n / 8), 8 * (n % 8), 5⟩
/-- The mark of sensor `x` (R451, R452, R464). -/
def THM_BROKEN (x : Nat) : Fld := ⟨0xE00020 + 8 * (x / 64), x % 64, 1⟩
/-- SPD_DATA (R154): the word itself is scratchpad memory; this names its address. -/
def SPD_DATA (c : Nat) : Fld := ⟨spdBlock c + 0x10, 0, 64⟩

/-- One row of a block's register table: offset in its block, how many registers stand there (8 bytes apart),
and the bits of each access type of R5. Bits of no type read as the rules of their register say (RO) or as 0
(reserved, R4). `sel`: each requester code has a copy of its own (R41); `fs`: the RWT fields,
each with its lowest bit and width. -/
structure RegRow where
  off  : Nat
  n    : Nat
  rw   : Nat
  rwt  : Nat
  w1c  : Nat
  wo   : Nat
  ro   : Nat
  sel  : Bool
  fs   : List (Nat × Nat)
  deriving DecidableEq, Repr

/-- Register rows of PAV. -/
def rowsPAV : List RegRow := [
  ⟨0x0, 1, 0x0, 0x3FFF3FFF, 0x0, 0x0, 0x0, false, [(16, 14), (0, 14)]⟩,
  ⟨0x8, 1, 0x0, 0x0, 0x0, 0x0, 0xFFFFFFFFFFFFFFFF, false, []⟩,
  ⟨0x10, 1, 0x0, 0x0, 0x0, 0x0, 0xFFFFFFFFFFFFFFFF, false, []⟩,
  ⟨0x18, 1, 0x0, 0x0, 0x0, 0x0, 0xFFFFFFFFFFFFFFFF, false, []⟩,
  ⟨0x20, 1, 0x0, 0xFFF, 0x0, 0x0, 0x0, false, [(0, 12)]⟩,
  ⟨0x28, 8, 0x0, 0x80000000000003FF, 0x0, 0x0, 0x0, false, [(63, 1), (0, 10)]⟩,
  ⟨0x68, 1, 0x0, 0x0, 0x0, 0x0, 0xF0F0F, false, []⟩,
  ⟨0x70, 1, 0x0, 0x7, 0x0, 0x0, 0x0, false, [(0, 3)]⟩,
  ⟨0x78, 1, 0x0, 0x0, 0x0, 0x0, 0xFFFFFFFFFFFFFFFF, false, []⟩,
  ⟨0x80, 1, 0x0, 0xFFFF, 0x0, 0x0, 0x0, false, [(0, 16)]⟩,
  ⟨0x88, 3, 0x0, 0x0, 0x0, 0x0, 0xFFFFFFFFFFFFFFFF, false, []⟩,
  ⟨0xA0, 1, 0x0, 0x0, 0x1F, 0x0, 0x0, false, []⟩,
  ⟨0xA8, 1, 0x0, 0x0, 0x0, 0x0, 0x3FF000000FFFFFF, false, []⟩,
  ⟨0xB0, 1, 0x0, 0x0, 0x0, 0x0, 0x3F0FFFFFFFFF, false, []⟩,
  ⟨0x100, 48, 0x0, 0xF, 0x0, 0x0, 0x0, false, [(0, 4)]⟩]

/-- Register rows of ARR. -/
def rowsARR : List RegRow := [
  ⟨0x0, 1, 0x0, 0xFF0103, 0x0, 0x0, 0x0, false, [(16, 8), (8, 1), (0, 2)]⟩,
  ⟨0x8, 1, 0x0, 0x0, 0x0, 0x100, 0xFFFFFFFF000F00F7, false, []⟩,
  ⟨0x10, 1, 0x0, 0x0, 0x0, 0x0, 0xFFFFFFFFFFFFFFFF, false, []⟩,
  ⟨0x18, 1, 0x0, 0x0, 0x0, 0xC00003FFFFFFFFFF, 0x0, false, []⟩,
  ⟨0x20, 1, 0x0, 0x0, 0x0, 0x0, 0xFFFF0000FF0F, false, []⟩,
  ⟨0x28, 1, 0x0, 0x0, 0x0, 0x0, 0xFFFFFFFFFFFFFFFF, false, []⟩,
  ⟨0x30, 2, 0x0, 0x0, 0x0, 0x0, 0xFFFFFFFFFFFFFFFF, false, []⟩,
  ⟨0x40, 4, 0x0, 0xFFFFFFFFFFFFFFFF, 0x0, 0x0, 0x0, false, [(0, 16), (16, 16), (32, 16), (48, 16)]⟩,
  ⟨0x60, 1, 0x0, 0x0, 0xF, 0x0, 0x0, false, []⟩]

/-- Register rows of CNV. -/
def rowsCNV : List RegRow := [
  ⟨0x0, 1, 0x0, 0xFFFF, 0x0, 0x0, 0x0, false, [(0, 16)]⟩,
  ⟨0x8, 2, 0x0, 0xBFBFBFBFBFBFBFBF, 0x0, 0x0, 0x0, false, [(7, 1), (15, 1), (23, 1), (31, 1), (39, 1), (47, 1), (55, 1), (63, 1), (0, 6), (8, 6), (16, 6), (24, 6), (32, 6), (40, 6), (48, 6), (56, 6)]⟩,
  ⟨0x18, 1, 0x0, 0x0, 0x0, 0x0, 0xFFFFFFFF0000013F, false, []⟩,
  ⟨0x20, 1, 0x0, 0x0, 0x0, 0x0, 0xFFFFFFFFFFFFFFFF, false, []⟩,
  ⟨0x28, 1, 0xFFF, 0x0, 0x0, 0x0, 0x0, true, []⟩,
  ⟨0x30, 1, 0xFF00FF, 0x7000000000000, 0x0, 0x0, 0x1FF00000000, false, [(48, 3)]⟩,
  ⟨0x38, 1, 0x0, 0x0, 0x1, 0x0, 0x3FF0000, false, []⟩]

/-- Register rows of RING part T. -/
def rowsRINGT : List RegRow := [
  ⟨0x0, 1, 0x3FF, 0x0, 0x0, 0x0, 0x0, true, []⟩,
  ⟨0x8, 1, 0x0, 0xFFFFFFFF, 0x0, 0x0, 0x0, false, [(0, 32)]⟩,
  ⟨0x10, 1, 0x0, 0x0, 0x0, 0x0, 0xFFFFFFFFFFFFFFFF, false, []⟩]

/-- Register rows of RING part C. -/
def rowsRINGC : List RegRow := [
  ⟨0x0, 1, 0x0, 0xFFFFFFFFFFFFFFFF, 0x0, 0x0, 0x0, false, [(0, 64)]⟩,
  ⟨0x8, 11, 0x0, 0x0, 0x0, 0x0, 0xFFFFFFFFFFFFFFFF, false, []⟩]

/-- Register rows of ACC. -/
def rowsACC : List RegRow := [
  ⟨0x0, 16, 0x0, 0x0, 0x0, 0x0, 0x301FF, false, []⟩,
  ⟨0x80, 1, 0x0, 0x0, 0x0, 0xFFFF, 0x0, false, []⟩,
  ⟨0x88, 1, 0x0, 0x0, 0x1, 0x0, 0xF0000, false, []⟩]

/-- Register rows of SPD. -/
def rowsSPD : List RegRow := [
  ⟨0x0, 1, 0x0, 0xFFFF0003, 0x0, 0x0, 0x0, false, [(16, 16), (0, 2)]⟩,
  ⟨0x8, 1, 0xFFFFF, 0x0, 0x0, 0x0, 0x0, true, []⟩,
  ⟨0x10, 1, 0xFFFFFFFFFFFFFFFF, 0x0, 0x0, 0x0, 0x0, false, []⟩,
  ⟨0x18, 1, 0x0, 0x0, 0x0, 0x0, 0xFF, false, []⟩,
  ⟨0x20, 1, 0x0, 0x0, 0x0, 0x0, 0xFFFFFFFFFFFF, false, []⟩,
  ⟨0x28, 1, 0x0, 0x0, 0x0, 0x0, 0xC0000000000FFFFF, false, []⟩,
  ⟨0x30, 1, 0x0, 0x0, 0x0, 0x0, 0xFFFFFFFFFFFFFFFF, false, []⟩,
  ⟨0x38, 1, 0x0, 0x0, 0xF, 0x0, 0x0, false, []⟩]

/-- Register rows of COR part A. -/
def rowsCORA : List RegRow := [
  ⟨0x0, 1, 0x0, 0xFFFF0300, 0x0, 0x1, 0x2, false, [(16, 16), (8, 2)]⟩,
  ⟨0x8, 1, 0x0, 0x3FFFFFFFFFF, 0x0, 0x0, 0x0, false, [(0, 42)]⟩,
  ⟨0x10, 1, 0xFFFF, 0x0, 0x0, 0x0, 0xFFFFFFFF0000, false, []⟩,
  ⟨0x18, 1, 0x3FFFFFFFFFF, 0x0, 0x0, 0x0, 0x0, false, []⟩,
  ⟨0x20, 1, 0x0, 0xFF000000, 0x0, 0x0, 0xFFFF000F00FFFFFF, false, [(24, 8)]⟩,
  ⟨0x28, 1, 0x0, 0x0, 0x0, 0x0, 0xFFFFFFFF00F0, false, []⟩]

/-- Register rows of COR part C. -/
def rowsCORC : List RegRow := [
  ⟨0x0, 1, 0x0, 0x0, 0x0, 0x0, 0xFFFFFFFFFFFFFFFF, false, []⟩,
  ⟨0x8, 1, 0x0, 0x0, 0x0, 0x0, 0xFFFFFFFFFFFFFFFF, false, []⟩,
  ⟨0x10, 1, 0x0, 0xFFFF, 0x0, 0x0, 0x0, false, [(0, 16)]⟩,
  ⟨0x18, 1, 0x0, 0x0, 0x7F, 0x0, 0x1F00, false, []⟩]

/-- Register rows of PGM. -/
def rowsPGM : List RegRow := [
  ⟨0x0, 3, 0x0, 0xFFFFFFFFFFFFF, 0x0, 0x0, 0x0, false, [(22, 30), (0, 22)]⟩,
  ⟨0x18, 1, 0x0, 0x3FFFFFFFFFF, 0x0, 0x0, 0x0, false, [(0, 42)]⟩,
  ⟨0x20, 2, 0x0, 0x0, 0x0, 0x0, 0x3FFFFF003FFFFF, false, []⟩,
  ⟨0x40, 11, 0x0, 0x0, 0x0, 0x0, 0xFFFF0003FFFF, false, []⟩,
  ⟨0xA0, 11, 0x0, 0x0, 0x0, 0x0, 0xFFFFFFFFFFFFFFFF, false, []⟩,
  ⟨0x100, 1, 0x0, 0x0, 0x0, 0x0, 0xFFFFFFFFFFFFFFFF, false, []⟩,
  ⟨0x108, 1, 0x0, 0x7FF0000, 0x0, 0x0, 0xFFFF, false, [(16, 11)]⟩,
  ⟨0x110, 1, 0x0, 0x0, 0x0, 0x0, 0xFFFFFFFFFFFFFFFF, false, []⟩,
  ⟨0x118, 1, 0x0, 0x0, 0x0, 0x0, 0xFFFFFFFF003FFFFF, false, []⟩,
  ⟨0x120, 1, 0x0, 0x0, 0x3F, 0x0, 0x0, false, []⟩]

/-- Register rows of SRV. -/
def rowsSRV : List RegRow := [
  ⟨0x0, 1, 0x0, 0xFFFFFFFF, 0x0, 0x0, 0xFFFFF3000000000, false, [(16, 16), (0, 16)]⟩,
  ⟨0x8, 1, 0x0, 0x7FFFFFF, 0x0, 0x0, 0x0, false, [(0, 27)]⟩,
  ⟨0x10, 1, 0x0, 0xFFFFFFFF, 0x0, 0x0, 0xFFFF00000000, false, [(16, 16), (0, 16)]⟩,
  ⟨0x18, 2, 0x0, 0xFFFFFFFFFFFFFFFF, 0x0, 0x0, 0x0, false, [(0, 64)]⟩,
  ⟨0x28, 1, 0x0, 0x0, 0x0, 0x0, 0xFFFFFFFF0000FFFF, false, []⟩,
  ⟨0x30, 1, 0x0, 0x0, 0x0, 0x0, 0xFFFFFFFFFFFFFFF, false, []⟩,
  ⟨0x38, 1, 0x0, 0x0, 0x0, 0x0, 0xFFFFFFFFFFFFFFFF, false, []⟩,
  ⟨0x40, 1, 0x0, 0x0, 0x0, 0x0, 0xFFFFFFFFFFFFFFFF, false, []⟩,
  ⟨0x48, 1, 0x0, 0x0, 0x0, 0x0, 0xFFFFFFFFFFFFFFFF, false, []⟩,
  ⟨0x50, 1, 0x0, 0x0, 0x0, 0x0, 0xFFFFFFFFFFFFFFFF, false, []⟩,
  ⟨0x58, 1, 0x0, 0x0, 0x0, 0x0, 0xFFFFFFFFFFFFFFFF, false, []⟩,
  ⟨0x60, 1, 0xFFF0FFF, 0x0, 0x0, 0x0, 0x0, true, []⟩,
  ⟨0x68, 1, 0x0, 0x0, 0x0, 0x0, 0xFFFFFFFFFFFFFFFF, false, []⟩,
  ⟨0x100, 16, 0x0, 0xFFFFFFFFFFFFFFFF, 0x0, 0x0, 0x0, false, [(48, 16), (24, 24), (0, 24)]⟩,
  ⟨0x180, 16, 0x0, 0x0, 0x0, 0x0, 0xFFFF, false, []⟩,
  ⟨0x208, 10, 0x0, 0x0, 0x0, 0x0, 0xFFFFFFFFFFFFFFFF, false, []⟩,
  ⟨0x280, 1, 0x0, 0x0, 0x7F, 0x0, 0x0, false, []⟩]

/-- Register rows of TXNP. -/
def rowsTXNP : List RegRow := [
  ⟨0x0, 1, 0x0, 0x0, 0x0, 0xF8000000FFFFFFFF, 0x0, false, []⟩,
  ⟨0x8, 1, 0xFFFFFFFFFFFFFFFF, 0x0, 0x0, 0x0, 0x0, false, []⟩,
  ⟨0x10, 1, 0x0, 0x0, 0x0, 0x0, 0xFFFF1F00FFFFFFFF, false, []⟩,
  ⟨0x18, 1, 0x0, 0x0, 0x0, 0x0, 0xFFFFFFFFFFFFFFFF, false, []⟩]

/-- Register rows of TXN. -/
def rowsTXN : List RegRow := [
  ⟨0x0, 1, 0x0, 0xFFFF, 0x0, 0x0, 0x0, false, [(0, 16)]⟩,
  ⟨0x8, 4, 0x0, 0x0, 0x0, 0x0, 0xFFFFFFFFFFFFFFFF, true, []⟩,
  ⟨0x40, 1, 0x0, 0x0, 0x0, 0x0, 0xFFFFFFFFFFFFFFFF, false, []⟩,
  ⟨0x48, 1, 0x0, 0x0, 0xF, 0x0, 0x0, false, []⟩]

/-- Register rows of IMG. -/
def rowsIMG : List RegRow := [
  ⟨0x0, 1, 0x3FFFFFFF, 0x0, 0x0, 0x0, 0x0, false, []⟩,
  ⟨0x8, 1, 0x800000003FFFFFFF, 0x0, 0x0, 0x0, 0x0, false, []⟩,
  ⟨0x10, 1, 0x0, 0x0, 0x0, 0x3, 0x0, false, []⟩,
  ⟨0x18, 1, 0x0, 0x0, 0x0, 0x0, 0xFFFFFFFF0000FF07, false, []⟩,
  ⟨0x20, 1, 0x0, 0x1, 0x0, 0x0, 0x0, false, [(0, 1)]⟩,
  ⟨0x28, 2, 0x0, 0x0, 0x0, 0x0, 0xFFFFFFFFFFFFFFFF, false, []⟩,
  ⟨0x38, 1, 0x0, 0x0, 0x0, 0x0, 0xFFFFFFFFFFFFFFFF, false, []⟩,
  ⟨0x40, 1, 0x0, 0x0, 0x0, 0x0, 0xFFFFFFFFFFFF, false, []⟩,
  ⟨0x48, 1, 0x0, 0x0, 0xF, 0x0, 0x0, false, []⟩]

/-- Register rows of FAB. -/
def rowsFAB : List RegRow := [
  ⟨0x0, 1, 0x0, 0xFFFFF, 0x0, 0x0, 0x0, false, [(0, 20)]⟩,
  ⟨0x8, 1, 0x0, 0xFFFF1FFF, 0x0, 0x0, 0x0, false, [(16, 16), (0, 13)]⟩,
  ⟨0x10, 1, 0x3FFFFFFFFFF, 0x0, 0x0, 0x8000000000000000, 0x0, false, []⟩,
  ⟨0x18, 1, 0x0, 0x8787878787878787, 0x0, 0x0, 0x0, false, [(7, 1), (15, 1), (23, 1), (31, 1), (39, 1), (47, 1), (55, 1), (63, 1), (0, 3), (8, 3), (16, 3), (24, 3), (32, 3), (40, 3), (48, 3), (56, 3)]⟩,
  ⟨0x20, 1, 0x0, 0x0, 0x3FF, 0x0, 0x0, false, []⟩,
  ⟨0x28, 1, 0x0, 0x0, 0x0, 0x0, 0xFF0000000000007F, false, []⟩]

/-- Register rows of FAB part PORT. -/
def rowsFABPORT : List RegRow := [
  ⟨0x0, 1, 0x0, 0x0, 0x0, 0x0, 0xFFFFFFFFFF0F0007, false, []⟩,
  ⟨0x8, 1, 0x1, 0x0, 0x0, 0x0, 0x6, false, []⟩,
  ⟨0x10, 1, 0x0, 0x0, 0x0, 0x0, 0xC00FFFFF0000FFFF, false, []⟩,
  ⟨0x18, 1, 0x0, 0x0, 0x0, 0x0, 0xFFFFFFFFFFFFFFFF, false, []⟩,
  ⟨0x20, 1, 0x0, 0x0, 0x0, 0x0, 0xFFFFFFFFFFFFFFFF, false, []⟩]

/-- Register rows of QDR. -/
def rowsQDR : List RegRow := [
  ⟨0x0, 1, 0x0, 0xFFFF00FF000FFFFF, 0x0, 0x0, 0x0, false, [(48, 16), (32, 8), (0, 20)]⟩,
  ⟨0x8, 1, 0x0, 0x0, 0x0, 0x0, 0xFFFFFFFFFFFF80FF, false, []⟩,
  ⟨0x10, 2, 0x0, 0x0, 0x0, 0x0, 0xFFFFFFFFFFFFFFFF, false, []⟩,
  ⟨0x20, 1, 0x0, 0x0, 0x0, 0x0, 0xFFFFFFFFFFFFFFFF, false, []⟩,
  ⟨0x28, 1, 0x0, 0x0, 0x0, 0x0, 0xFFFFFFFF, false, []⟩,
  ⟨0x30, 1, 0x0, 0x0, 0x0, 0x0, 0xFFFFFFFFFFFFFFFF, false, []⟩,
  ⟨0x38, 1, 0x0, 0x0, 0x0, 0x0, 0xFFFFFFFFFFFFFFFF, false, []⟩,
  ⟨0x40, 1, 0x0, 0x0, 0x0, 0x0, 0xFFFFFFFFFFFFFFFF, false, []⟩,
  ⟨0x48, 1, 0x0, 0x0, 0x0, 0x0, 0xFFFFFFFFFFFFFFFF, false, []⟩,
  ⟨0x50, 1, 0x0, 0x0, 0x3F, 0x0, 0x0, false, []⟩]

/-- Register rows of MEM. -/
def rowsMEM : List RegRow := [
  ⟨0x0, 1, 0x0, 0xFF01, 0x0, 0x0, 0x0, false, [(8, 8), (0, 1)]⟩,
  ⟨0x8, 1, 0x0, 0x1, 0x0, 0x0, 0xFFFF0000, false, [(0, 1)]⟩,
  ⟨0x10, 1, 0x1, 0x0, 0x0, 0x0, 0x0, false, []⟩,
  ⟨0x18, 2, 0xFFFFFFFC3FFFFFFF, 0x0, 0x0, 0x0, 0x0, false, []⟩,
  ⟨0x28, 1, 0x0, 0x0, 0x0, 0x0, 0xFFFFFFFFFFFFFFFF, false, []⟩,
  ⟨0x30, 1, 0x0, 0x0, 0x0, 0x0, 0xFF, false, []⟩,
  ⟨0x38, 1, 0x0, 0x0, 0x0, 0x0, 0xFFFFFFFFFFFFFFFF, false, []⟩,
  ⟨0x40, 1, 0x0, 0x0, 0x7F, 0x0, 0x0, false, []⟩,
  ⟨0x100, 8, 0x0, 0x0, 0x0, 0x0, 0xFFFFFFFFFFFF0003, false, []⟩,
  ⟨0x200, 16, 0x1, 0x0, 0x0, 0x0, 0xFFFFFFFFFFFF0F3E, false, []⟩]

/-- Register rows of MEM part PQ. -/
def rowsMEMPQ : List RegRow := [
  ⟨0x0, 1, 0xFFFFFFFFFFFFFFFF, 0x0, 0x0, 0x0, 0x0, false, []⟩,
  ⟨0x8, 1, 0x1FC003FFFFFFFFFF, 0x0, 0x0, 0x0, 0x0, false, []⟩,
  ⟨0x10, 1, 0xFFFFFFFFF, 0x0, 0x0, 0x0, 0x0, false, []⟩,
  ⟨0x18, 1, 0x0, 0x0, 0x0, 0xC000000000000000, 0xFF00FFFFFFFFFF, false, []⟩]

/-- Register rows of CHK. -/
def rowsCHK : List RegRow := [
  ⟨0x0, 1, 0x0, 0xFFFFF0FFFF000000, 0x0, 0x0, 0x0, false, [(56, 8), (48, 8), (44, 4), (32, 8), (28, 4), (24, 4)]⟩,
  ⟨0x8, 1, 0x0, 0xFFFFFFFF0000FFFF, 0x0, 0x0, 0x0, false, [(32, 32), (0, 16)]⟩,
  ⟨0x10, 1, 0x0, 0x3FFFFFFFFFF, 0x0, 0x0, 0x0, false, [(0, 42)]⟩,
  ⟨0x18, 1, 0x0, 0x1F, 0x0, 0x0, 0x0, false, [(0, 5)]⟩,
  ⟨0x20, 1, 0x0, 0x0, 0x0, 0x0, 0xFFFFFFFFFFFFFFFF, false, []⟩,
  ⟨0x28, 1, 0xFFFFFFFF, 0x0, 0x0, 0x0, 0x0, false, []⟩,
  ⟨0x30, 1, 0x0, 0x0, 0x0, 0x0, 0xFFFFFFFFFFFFFFFF, false, []⟩,
  ⟨0x38, 1, 0xFF, 0x0, 0x0, 0x0, 0x0, true, []⟩,
  ⟨0x40, 1, 0x0, 0x0, 0x0, 0x0, 0xFFFFFFFFFFFFFFFF, false, []⟩,
  ⟨0x48, 1, 0xFFF, 0x0, 0x0, 0x0, 0x0, true, []⟩,
  ⟨0x50, 1, 0x0, 0x0, 0x0, 0x0, 0xFFFFFFFF, false, []⟩,
  ⟨0x58, 2, 0x0, 0x0, 0x0, 0x0, 0xFFFFFFFFFFFFFFFF, false, []⟩,
  ⟨0x68, 1, 0x0, 0x3FF03FFFFFFFFFF, 0x0, 0x0, 0x0, false, [(48, 10), (0, 42)]⟩,
  ⟨0x70, 1, 0x0, 0x0, 0x0, 0x0, 0xFFFFFFFFFFFFFFFF, false, []⟩,
  ⟨0x78, 1, 0x0, 0x0, 0x0, 0x0, 0xFFFFFFFFFFFFFFFF, false, []⟩,
  ⟨0x80, 1, 0x0, 0x0, 0x3FF, 0x0, 0x0, false, []⟩,
  ⟨0x100, 16, 0x0, 0x0, 0x0, 0x0, 0xFCFFFFFFFFFFFFFF, false, []⟩]

/-- Register rows of RCV. -/
def rowsRCV : List RegRow := [
  ⟨0x0, 1, 0x0, 0xFFFFFFFF000F07FF, 0x0, 0x0, 0x0, false, [(48, 16), (32, 16), (16, 4), (0, 11)]⟩,
  ⟨0x8, 2, 0x0, 0xFFFFFFFFFFFFFFF, 0x0, 0x0, 0x0, false, [(30, 30), (0, 30)]⟩,
  ⟨0x18, 1, 0x0, 0x0, 0x0, 0x0, 0x3FFFFFFF3FFFFFFF, false, []⟩,
  ⟨0x20, 1, 0x0, 0x0, 0x0, 0x0, 0xFFFFFFFF00000007, false, []⟩,
  ⟨0x28, 1, 0x0, 0x0, 0x0, 0x0, 0xFFFFFFFFFFFFFFFF, false, []⟩,
  ⟨0x30, 1, 0x0, 0x0, 0x0, 0x0, 0xFFFFFFFFFFFFFFFF, false, []⟩,
  ⟨0x38, 1, 0x0, 0x0, 0x0, 0x0, 0xFFFFFFFFFFFFFFFF, false, []⟩,
  ⟨0x40, 1, 0x0, 0x0, 0x0, 0x0, 0xFFFFFFFFFFFFFFFF, false, []⟩,
  ⟨0x48, 1, 0x0, 0x0, 0x0, 0x0, 0xFFFFFFFFFFFFFFFF, false, []⟩,
  ⟨0x50, 1, 0x31FFF, 0x0, 0x0, 0x0, 0x0, true, []⟩,
  ⟨0x58, 1, 0x0, 0x0, 0x0, 0x20000, 0x1FFFF, false, []⟩,
  ⟨0x60, 1, 0x3FF, 0x0, 0x0, 0x0, 0x0, true, []⟩,
  ⟨0x68, 1, 0x3FFFF, 0x0, 0x0, 0x0, 0x3FFFFFFFFC0000, false, []⟩,
  ⟨0x70, 1, 0x0, 0xFFFF, 0x0, 0x0, 0x800FFFFF00000000, false, [(0, 16)]⟩,
  ⟨0x78, 1, 0x0, 0x0, 0x0, 0x0, 0xFFFFFFFFFFFFFFFF, false, []⟩,
  ⟨0x80, 1, 0x0, 0x0, 0x3F, 0x0, 0x0, false, []⟩]

/-- Register rows of MBX. -/
def rowsMBX : List RegRow := [
  ⟨0x0, 8, 0xFFFFFFFFFFFFFFFF, 0x0, 0x0, 0x0, 0x0, false, []⟩,
  ⟨0x40, 1, 0x0, 0x0, 0x0, 0x1, 0x0, false, []⟩,
  ⟨0x48, 1, 0x0, 0x0, 0x0, 0x0, 0xFFFFFFFF00000007, false, []⟩,
  ⟨0x80, 8, 0x0, 0x0, 0x0, 0x0, 0xFFFFFFFFFFFFFFFF, false, []⟩]

/-- Register rows of SEC. -/
def rowsSEC : List RegRow := [
  ⟨0x0, 1, 0x0, 0x0, 0x0, 0x0, 0xFFFFFFFFF9, false, []⟩,
  ⟨0x8, 2, 0x0, 0x0, 0x0, 0x0, 0xFFFFFFFFFFFFFFFF, false, []⟩,
  ⟨0x18, 1, 0x0, 0x0, 0x0, 0x0, 0xFFFFFFFFFFFFFFFF, false, []⟩,
  ⟨0x20, 4, 0x0, 0x0, 0x0, 0x0, 0xFFFFFFFFFFFFFFFF, false, []⟩,
  ⟨0x40, 1, 0x0, 0x0, 0x0, 0x0, 0xFFFFFFFFFFFFFFFF, false, []⟩,
  ⟨0x100, 32, 0x0, 0x0, 0x0, 0x0, 0xFFFFFFFFFFFFFFFF, false, []⟩]

/-- Register rows of MGT. -/
def rowsMGT : List RegRow := [
  ⟨0x0, 1, 0x0, 0x0, 0x0, 0x0, 0xFFFFFFFF00000007, false, []⟩,
  ⟨0x8, 1, 0x0, 0x0, 0x0, 0x0, 0xFFFFFFFFFF, false, []⟩,
  ⟨0x10, 1, 0x0, 0x0, 0x0, 0x0, 0xFFFFFFFFFFFFFFFF, false, []⟩,
  ⟨0x18, 1, 0x0, 0x0, 0x0, 0x0, 0xFFFFFFFFFFFFFFFF, false, []⟩]

/-- Register rows of PWR. -/
def rowsPWR : List RegRow := [
  ⟨0x0, 4, 0x0, 0x1F1F1F1F1F1F1F1F, 0x0, 0x0, 0x0, false, [(0, 5), (8, 5), (16, 5), (24, 5), (32, 5), (40, 5), (48, 5), (56, 5)]⟩,
  ⟨0x20, 4, 0x0, 0x0, 0x0, 0x0, 0x1F1F1F1F1F1F1F1F, false, []⟩,
  ⟨0x40, 1, 0x0, 0xFFFFFFFF, 0x0, 0x0, 0x0, false, [(16, 16), (0, 16)]⟩,
  ⟨0x48, 1, 0x0, 0x0, 0x0, 0x0, 0xFFFF0000FFFFFFFF, false, []⟩,
  ⟨0x50, 1, 0x0, 0x0, 0x0, 0x0, 0xFFFFFFFFF07FF, false, []⟩,
  ⟨0x58, 1, 0x0, 0x0, 0x0, 0x0, 0xFF00FFFF0000FFFF, false, []⟩,
  ⟨0x60, 1, 0x0, 0x0, 0x7, 0x0, 0x0, false, []⟩]

/-- Register rows of THM. -/
def rowsTHM : List RegRow := [
  ⟨0x0, 1, 0x0, 0xF, 0x0, 0x0, 0x0, false, [(0, 4)]⟩,
  ⟨0x8, 1, 0x0, 0x0, 0x0, 0x0, 0xFFFFFFFF000F, false, []⟩,
  ⟨0x10, 1, 0x1FF, 0x0, 0x0, 0x0, 0x0, true, []⟩,
  ⟨0x18, 1, 0x0, 0x0, 0x0, 0x0, 0xFFFFFFFFF301FFFF, false, []⟩,
  ⟨0x20, 5, 0x0, 0x0, 0x0, 0x0, 0xFFFFFFFFFFFFFFFF, false, []⟩,
  ⟨0x48, 1, 0x0, 0x0, 0x0, 0x1, 0xFFFFFFFF0000, false, []⟩,
  ⟨0x50, 1, 0x0, 0x0, 0xF, 0x0, 0x0, false, []⟩]

/-- Register rows of HKA. -/
def rowsHKA : List RegRow := [
  ⟨0x0, 1, 0xFFFFFFFFFFFF, 0x0, 0x0, 0x0, 0x0, false, []⟩,
  ⟨0x8, 1, 0x0, 0x0, 0x0, 0x0, 0xFFFFFFFF0000013F, false, []⟩,
  ⟨0x10, 1, 0xF0F, 0x0, 0x0, 0x0, 0x0, false, []⟩,
  ⟨0x18, 1, 0x0, 0x0, 0xFFFFFFFFFFFF, 0x0, 0x0, false, []⟩]

/-- Register rows of HKA part CH. -/
def rowsHKACH : List RegRow := [
  ⟨0x0, 1, 0x0, 0x0, 0x0, 0x0, 0xFFFFFFFF00000FFF, false, []⟩,
  ⟨0x8, 1, 0x0, 0x0, 0x0, 0x8000000000000000, 0xFFF0FFF, false, []⟩,
  ⟨0x10, 1, 0xFFF0FFF, 0x0, 0x0, 0x0, 0x0, false, []⟩]

/-- Register rows of QP. -/
def rowsQP : List RegRow := [
  ⟨0x0, 1, 0x80FCF00000000000, 0x0, 0x0, 0x0, 0x0, false, []⟩,
  ⟨0x8, 1, 0x0, 0x0, 0x0, 0xFFF, 0x0, false, []⟩,
  ⟨0x10, 1, 0x0, 0x0, 0x0, 0x8000000000000FFF, 0x0, false, []⟩,
  ⟨0x18, 1, 0x0, 0x0, 0x0, 0x0, 0xFFFFFFCFFFFFFFFF, false, []⟩,
  ⟨0x20, 1, 0x0, 0x0, 0x0, 0x0, 0xFFFFFFFFFFFFFFFF, false, []⟩]

/-- Register rows of SYS. -/
def rowsSYS : List RegRow := [
  ⟨0x0, 1, 0x0, 0x0, 0x0, 0x0, 0xFFFFFFFF00000000, false, []⟩,
  ⟨0x8, 1, 0x0, 0x0, 0x0, 0x0, 0xFF8FFFF0000FF0F, false, []⟩,
  ⟨0x10, 1, 0x2, 0x0, 0x0, 0xFFFF000000000001, 0x0, false, []⟩,
  ⟨0x18, 1, 0x0, 0x0, 0x0, 0x0, 0xFFFFFFFF00000001, false, []⟩,
  ⟨0x20, 1, 0x0, 0x0, 0x1F, 0x0, 0x0, false, []⟩,
  ⟨0x28, 1, 0x1FFFF, 0x0, 0x0, 0x0, 0x0, false, []⟩,
  ⟨0x30, 1, 0x0, 0x0, 0x1FFFF, 0x0, 0x0, false, []⟩,
  ⟨0x38, 1, 0x0, 0x0, 0x0, 0x0, 0xFFFFFFFFFFFFFFFF, false, []⟩,
  ⟨0x40, 4, 0x0, 0x0, 0x0, 0x0, 0xFFFFFFFFFFFFFFFF, false, []⟩,
  ⟨0x100, 16, 0xE00003FF00000000, 0x0, 0x0, 0x0, 0x0, false, []⟩]

/-- A byte-per-window default: segment `x` of BAR4 maps tier N at x × 4 GiB (R509). -/
def winReset (x : Nat) : Nat := 0x8000000000000000 + x * 0x100000000

/-- Reset value of the direct BAR0 registers below the region windows (R5; each value from its register's
table). PWR_VCORE's reset is the region's factory code, which no rule gives a number: DESIGN CHOICE 0
(notes/assumptions/6.md). -/
def resetDirect (a : Nat) : Nat :=
  if a = 0x100000 then 0x2C00300 else
  if a = 0x100070 then 0x2 else
  if a = 0x100080 then 0xBC else
  if a = 0x500108 then 0x100000 else
  if a = 0x400000 then 0x400 else
  if a = 0x400008 then 0xEA60 else
  if a = 0x400010 then 0x400040 else
  if a = 0x200000 then 0x1000 else
  if a = 0x600000 then 0xFFFFF else
  if a = 0x600008 then 0x4000FA0 else
  if a = 0x700000 then 0x3E8001000002EE0 else
  if a = 0x800000 then 0x1800 else
  if a = 0x900000 then 0x1810200843000000 else
  if a = 0x900008 then 0x1000000000400 else
  if a = 0x900068 then 0x1000000000000 else
  if a = 0x900070 then 0xFFFFFFFFFFFFFFFF else
  if a = 0xA00000 then 0x12C001400030010 else
  if a = 0xA00020 then 0xFFFFFFFF00000000 else
  if a = 0xD00040 then 0x3205DC else
  if a = 0xF00000 then 0xFFFFFFFF else
  if a = 0x0 then 0x5A08B00100000000 else
  if a = 0x28 then 0x600 else
  if 0x100100 ≤ a ∧ a < 0x100280 then (if a = 0x100100 then 1 else if a = 0x100158 ∨ a = 0x100160 then 3 else 2) else
  if 0x100 ≤ a ∧ a < 0x180 then winReset ((a - 0x100) / 8) else
  if 0x800200 ≤ a ∧ a < 0x800280 then 1 else
  if 0x601000 ≤ a ∧ a < 0x602200 then
    (if a % 0x40 = 0 then 0x60001 else if a % 0x40 = 8 then 1 else 0) else
  if 0xF01000 ≤ a ∧ a < 0xF01600 then
    (if a % 0x20 = 8 then 0xFFF else if a % 0x20 = 0x10 then 0xFFF0000 else 0) else
  0

/-- Reset value of the registers in the region windows (R90, R153, R180). -/
def resetCore (rel : Nat) : Nat :=
  if rel < 0x1000 then (if rel % 0x80 = 0 then 0x180003 else 0)
  else if rel < 0x1800 then (if rel % 0x100 = 0 then 0xFFFF else 0)
  else if rel = 0x5010 then 0x400
  else if 0x5100 ≤ rel ∧ rel < 0x5900 then
    (if rel % 0x40 = 0 then 0xC80200 else if rel % 0x40 = 0x10 then 0x400040004000
     else if rel % 0x40 = 0x20 then 0x8000000 else 0)
  else 0

/-- The starting trims of converter `k` of tile `T` (R91), as the register behind CNV_DATA holds them: the reset value 0 of a trim never
reaches a running pass. -/
def startTrims (T k : Nat) : Nat := if k < 560 then (Config.startTrim T k).toNat % 2 ^ 8 + (Config.startTrim T k).toNat / 2 ^ 8 * 2 ^ 16 else 0

/-- Reset value of the registers reached through BAR2 and of the banks behind selectors: range code 3 (R90),
column scale 1.0 (R154), all enables of RCV_UPWR set (R410), QP_CFG.SIZE_LOG2 4 and QP_STAT.PHASE 1 (R496),
and a port's own 0. -/
def resetFar (a : Nat) : Nat :=
  if 0x100100000 ≤ a ∧ a < 0x100200000 then
    (if a % 0x1000 = 0 then 0x400000000000 else if a % 0x1000 = 0x18 then 0x8000000000 else 0)
  else if 0x100008000 ≤ a ∧ a < 0x100008400 then (if a % 16 = 8 then 0x100000000 else 0)
  else if 0x1000000000 ≤ a ∧ a < 0x1100000000 then startTrims ((a - 0x1000000000) / 0x400) (a % 0x400)
  else if 0x1100000000 ≤ a ∧ a < 0x1200000000 then 0x3000000000000
  else if 0x1200000000 ≤ a ∧ a < 0x1300000000 then 0x3F800000
  else if 0x1700000000 ≤ a ∧ a < 0x1800000000 then 0x3FFFF
  else 0

/-- The value every register holds at reset, by its key. -/
def resetVal (a : Nat) : Word :=
  BitVec.ofNat 64 (if a < 0x2000000 then resetDirect a
    else if a < 0x4000000 then resetCore (a % 0x8000)
    else resetFar a)

/-- The row of a block table that holds offset `o`. -/
def findRow : List RegRow → Nat → Option RegRow
  | [], _ => none
  | r :: rs, o => if r.off ≤ o ∧ o < r.off + 8 * r.n then some r else findRow rs o

/-- The rows of the BAR0 block of group `b` (R492). -/
def blockRows (b : Nat) : List RegRow :=
  match b with
  | 0 => rowsSYS | 1 => rowsPAV | 2 => rowsTXN | 3 => rowsIMG | 4 => rowsSRV | 5 => rowsPGM | 6 => rowsFAB
  | 7 => rowsQDR | 8 => rowsMEM | 9 => rowsCHK | 10 => rowsRCV | 11 => rowsSEC | 12 => rowsMGT | 13 => rowsPWR
  | 14 => rowsTHM | _ => rowsHKA

/-- The register row at offset `rel` of a core window (R493). -/
def coreRow (rel : Nat) : Option RegRow :=
  if rel < 0x1000 then findRow rowsARR (rel % 0x80)
  else if rel < 0x1800 then findRow rowsCNV (rel % 0x100)
  else if rel < 0x2000 then none
  else if rel < 0x2800 then findRow rowsRINGT (rel % 0x100)
  else if rel < 0x2900 then findRow rowsRINGC (rel % 0x100)
  else if rel < 0x3000 then none
  else if rel < 0x3800 then findRow rowsACC (rel % 0x100)
  else if rel < 0x4000 then none
  else if rel < 0x4100 then findRow rowsSPD (rel % 0x100)
  else if rel < 0x5000 then none
  else if rel < 0x5100 then findRow rowsCORC (rel % 0x100)
  else if rel < 0x5900 then findRow rowsCORA (rel % 0x40)
  else none

/-- The register row at a BAR0 offset; none where the offset is reserved (R490, R492, R493). -/
def regRow (a : Nat) : Option RegRow :=
  if a < 0x1000000 then
    if 0x601000 ≤ a ∧ a < 0x602200 then findRow rowsFABPORT (a % 0x40)
    else if 0x800300 ≤ a ∧ a < 0x800400 then findRow rowsMEMPQ (a % 0x20)
    else if 0xF01000 ≤ a ∧ a < 0xF01600 then findRow rowsHKACH (a % 0x20)
    else findRow (blockRows (a / 0x100000)) (a % 0x100000)
  else if a < 0x2000000 then none
  else if a < 0x4000000 then coreRow (a % 0x8000)
  else none

/-- The register group of a BAR0 offset (R41, R492): blocks 0 to 15, region windows 16 to 47. -/
def groupOf (a : Nat) : Nat := if a < 0x2000000 then a / 0x100000 else 16 + (a - 0x2000000) / 0x100000

end Sys2Proof.Machine
end

