-- ==== Sys2Proof/Machine/Sparse.lean ====
section
/-! DEFINITION. Sparse storage: a list of (key, value) pairs, keys rising, that lists only what differs from a
default. Registers, memory, cells and accumulator lanes are all held this way, so equal contents are equal data. -/

namespace Sys2Proof.Machine

/-- The value stored at key `k`; `d k` where none is listed. -/
def sget {α : Type} (d : Nat → α) : List (Nat × α) → Nat → α
  | [], k => d k
  | p :: m, k => if p.1 = k then p.2 else sget d m k

/-- `m` without an entry for key `k`. -/
def serase {α : Type} (m : List (Nat × α)) (k : Nat) : List (Nat × α) := m.filter (fun p => p.1 ≠ k)

/-- `m` with an entry put before the first larger key. -/
def sinsert {α : Type} : List (Nat × α) → Nat → α → List (Nat × α)
  | [], k, v => [(k, v)]
  | p :: m, k, v => if k < p.1 then (k, v) :: p :: m else p :: sinsert m k v

/-- Store `v` at key `k`: the default value removes the entry, any other value takes its place in key order. -/
def sset {α : Type} [DecidableEq α] (d : Nat → α) (m : List (Nat × α)) (k : Nat) (v : α) : List (Nat × α) :=
  if v = d k then serase m k else sinsert (serase m k) k v

/-- The canonical form: keys strictly rising and no entry equal to the default. -/
def scanon {α : Type} [DecidableEq α] (d : Nat → α) : List (Nat × α) → Bool
  | [] => true
  | [p] => decide (p.2 ≠ d p.1)
  | p :: q :: m => decide (p.2 ≠ d p.1) && decide (p.1 < q.1) && scanon d (q :: m)

/-- A key a list names. -/
def sHas {α : Type} (m : List (Nat × α)) (k : Nat) : Bool := m.any (fun p => p.1 = k)

/-- The value a list names under `k`, if any. -/
def sfind {α : Type} (m : List (Nat × α)) (k : Nat) : Option α := (m.find? (fun p => p.1 = k)).map Prod.snd

/-- A list with `v` put under `k`, in place of any entry for `k`. -/
def sput {α : Type} (m : List (Nat × α)) (k : Nat) (v : α) : List (Nat × α) := sinsert (serase m k) k v

end Sys2Proof.Machine
end

