-- ==== Sys2Proof/Machine/State.lean ====
section
/-! DEFINITION. The state of the block: everything the spec gives the package, as plain data, and its value after
reset. Registers live in `regs` under the keys of Regs.lean; every other piece of state has a field of its own. -/

namespace Sys2Proof.Machine

/-- Named stops of the block. A command never refuses; these faults are for accesses no rule describes. -/
inductive Fault where
  /-- Raised by commands whose operand names memory outside every address space of R338. Safe: the model stops
  where the spec says no such byte exists. -/
  | badAddress
  deriving DecidableEq, Repr

/-- Why a command has no meaning. -/
inductive Refusal where
  /-- Raised by a row of the table that has no meaning in the model yet. Safe: nothing can be proved of it. -/
  | notModelled (mnemonic : String)
  deriving DecidableEq, Repr

/-- Supply state of the package (R443, R456, R457); `rom`: no Yarrow slot qualified, and the ROM keeps the compute stacks unpowered and
serves the sideband alone (R421). -/
inductive Power where
  | off | rom | on | latched
  deriving DecidableEq, Repr

/-- What leaves the package: the model's own record of it, oldest first. -/
inductive Out where
  /-- An MSI-X message write (R504, R505). -/
  | msix (addr data : Nat)
  /-- A sequenced or unsequenced flit on a port (R304, R307). -/
  | flit (port : Nat) (f : Flit)
  /-- A serving, mirror or Larkspur message as CTRL flits on a port, and its destination (R526). -/
  | ctrl (port dst : Nat) (m : CtrlMsg)
  /-- An area a command on SB_SEC names, as MCTP messages on the sideband (R436). -/
  | sideband (bytes : List Nat)
  deriving DecidableEq, Repr

/-- The shadow of one register inside a transaction (R264): which bits it sets, to what, and when it was written. -/
structure Shadow where
  key   : Nat
  mask  : Nat
  val   : Nat
  stamp : Nat
  deriving DecidableEq, Repr

/-- A commit round's verdict on a JOB-scope transaction, as far as it is known (R272). -/
inductive Verdict where
  | none | commit | abort
  deriving DecidableEq, Repr

/-- An open transaction (R263, R264). -/
structure TxnOpen where
  q       : Requester
  id      : Nat
  shadows : List Shadow
  deriving DecidableEq, Repr

/-- A PENDING transaction (R265): `mode` 0 NEXT, 1 FRAME, 2 START. -/
structure TxnPend where
  q       : Requester
  id      : Nat
  mode    : Nat
  job     : Bool
  target  : Nat
  stamp   : Nat
  voted   : Bool
  verdict : Verdict
  shadows : List Shadow
  deriving DecidableEq, Repr

/-- A WAIT that holds the package (R36 to R38, R317): its hold passes so far, and whether HELD has been sent for it. -/
structure Wait where
  core  : Nat
  slot  : Nat
  count : Nat
  told  : Bool
  deriving DecidableEq, Repr

/-- What Pavane keeps of the frame in progress (R22, R36 to R38, R45 to R48): pause and hold passes, the pass boundary of the
last hold pass, the idle interval, the local frame end, the WAITs not satisfied, and how many frames have run at which L_job.
`reqHist` holds each change of REQUEST at its stamp, with the value before it. -/
structure Pav where
  pauses      : Nat := 0
  pauseBlocks : Nat := 0
  holds       : Nat := 0
  idleRun     : Bool := false
  idleUntil   : Nat := 0
  lfeDone     : Bool := false
  lfeStamp    : Nat := 0
  latched     : Nat := 0
  skipReq     : Bool := false
  waits       : List Wait := []
  holdAt      : Option Nat := none
  waitDead    : Bool := false
  faulted     : Bool := false
  stopped     : Bool := false
  jobCount    : Nat := 0
  jobLevel    : Nat := 0
  reqHist     : List (Nat × Nat) := []
  deriving DecidableEq, Repr

/-- A programming command queued or running on an array (R83): `erase` for ERASE. -/
structure ProgCmd where
  arr     : Nat
  erase   : Bool
  src     : Nat
  stamp   : Nat
  running : Bool
  paused  : Bool
  deriving DecidableEq, Repr

/-- A result kept in a tile's hold buffer until its REPAIR slot ends (R130). -/
structure Held where
  tile   : Nat
  slot   : Nat
  arr    : Nat
  group  : Nat
  lanes  : List Int
  e      : Int
  split  : Bool
  desc   : Nat
  start  : Nat
  deriving DecidableEq, Repr

/-- A saturation record (R164): the pass, its product's group, exponent and clipped lanes with their gained values,
and the widened inputs the repair needs. -/
structure SatRec where
  tile   : Nat
  slot   : Nat
  arr    : Nat
  group  : Nat
  e      : Int
  lanes  : List (Nat × Int)
  inputs : List (Nat × Int)
  repair : Nat
  start  : Nat
  deriving DecidableEq, Repr

/-- A capture buffer (R358). -/
structure Capture where
  tile   : Nat
  slot   : Nat
  arr    : Nat
  y      : List Int
  raw    : List Int
  mask   : List Bool
  inputs : List (Nat × Int)
  usable : Bool
  deriving DecidableEq, Repr

/-- Sums of one pairing's samples in the frame (R77, R78): count, sums and sums of squares of partner and spare. -/
structure CalSum where
  n  : Nat
  sp : Int
  ss : Int
  qp : Int
  qs : Int
  deriving DecidableEq, Repr

/-- A measurement of a converter (R78, R79): δ in LSB and γ, both in units of 2^−40, and the frame it was made in. -/
structure CalMeas where
  frame : Nat
  delta : Int
  gamma : Int
  deriving DecidableEq, Repr

/-- An error record (R377) on its way to the hub collector or written: severity 0 CORRECTED to 3 FATAL. -/
structure ErrRec where
  sev    : Nat
  cause  : Nat
  kind   : Nat
  unit   : Nat
  detail : Nat
  flags  : Nat
  frame  : Nat
  sfrom  : Nat
  deriving DecidableEq, Repr

/-- A poisoned scratchpad word (R148, R282, R297): address, and the cause and unit its consumer reports. -/
structure Poison where
  addr  : Nat
  cause : Nat
  unit  : Nat
  deriving DecidableEq, Repr

/-- Sums of an array's tracker window (R171 to R173): shadowed passes, lanes that qualify, Σp² and Σpq, mismatches and compared
group-passes, Σ(ŷ − y*)² and Σy*² of this window and of the previous valid one, and whether a HARD or SOFT visit voids it
(R361). -/
structure TrkWin where
  passes : Nat := 0
  lanes  : Nat := 0
  spp    : Num := .zero
  spq    : Num := .zero
  mism   : Nat := 0
  comp   : Nat := 0
  err2   : Num := .zero
  ref2   : Num := .zero
  pErr2  : Num := .zero
  pRef2  : Num := .zero
  spoilt : Bool := false
  deriving DecidableEq, Repr

/-- Request states (R215). -/
inductive ReqSt where
  | active | waitMask | held | paused | resuming | expired | ending
  deriving DecidableEq, Repr

/-- A step in flight (R226, R238): the job frame in which it runs stage 0, its batch slot, bucket, draft depth, tokens fed,
and whether it is the last or an earlier prefill step. -/
structure StepRun where
  frame : Nat
  slot  : Nat
  bkt   : Nat
  depth : Nat
  fed   : Nat
  pre   : Bool
  last  : Bool
  deriving DecidableEq, Repr

/-- Tokens sampled in one step and not released (R240, R242), from position `pos` on. -/
structure Sampled where
  frame : Nat
  pos   : Nat
  toks  : List Nat
  deg   : Bool
  deriving DecidableEq, Repr

/-- A request as this member knows it (R213, R215): scope and tag, home package, queue pair, class, requested and current
draft depth with the runs of R239, its place in ACCEPT order, micro-batch, its tokens in position order (prompt, generated,
appended), MAX_NEW, tokens generated and released, what is sampled and not released, commit horizon, pages as (layer, index,
page), sampling record, seed and step mask, the step in flight and its acceptance count, time to live, idleness, and the
completion that ends its episode. -/
structure Req where
  scope    : Nat
  tag      : Nat
  home     : Nat
  pair     : Nat
  st       : ReqSt := .active
  keep     : Bool := false
  cls      : Nat := 0
  draft    : Nat := 0
  depth    : Nat := 0
  zeros    : Nat := 0
  solo     : Nat := 0
  order    : Nat := 0
  mb       : Nat := 0
  input    : List Nat := []
  maxNew   : Nat := 0
  made     : Nat := 0
  released : Nat := 0
  outq     : List Sampled := []
  horizon  : Nat := 0
  pages    : List (Nat × Nat × Nat) := []
  sample   : List Nat := []
  seed     : Nat := 0
  mask     : List Nat := []
  step     : Option StepRun := none
  count    : Option Nat := none
  ttl      : Nat := 0
  expAt    : Option Nat := none
  expSent  : Bool := false
  idle     : Nat := 0
  idlePaused : Bool := false
  pausing  : Option Nat := none
  resumeTo : Bool := false
  more     : Option Cmd := none
  cause    : Option Nat := none
  degr     : Bool := false
  lost     : Bool := false
  regd     : Nat := 0
  chain    : Nat := 0
  deriving DecidableEq, Repr

/-- A completion the home has to post (R219 to R221): its pair, entry fields and tokens; `own` is the tag of the request whose
journal entry it waits for, the child's for a FORK. -/
structure Post where
  scope : Nat
  tag   : Nat
  pair  : Nat
  typ   : Nat
  code  : Nat
  seq   : Nat
  toks  : List Nat
  deg   : Nat
  own   : Nat
  deriving DecidableEq, Repr

/-- A request's journal chain (R382): its blocks in order, units written, the frame in its END's VALUE, and how many of its
completions the host has consumed (R385). -/
structure Chain where
  scope  : Nat
  tag    : Nat
  blocks : List Nat
  units  : Nat
  ended  : Option Nat
  eaten  : Nat
  deriving DecidableEq, Repr

/-- An arrival at the admission root, stamped (R210): a command, or an expiry cause (R246); after a rollback it is decided no
earlier than tick `due` (R392). -/
structure Arrival where
  stamp  : Nat
  cmd    : Cmd
  expiry : Bool
  due    : Nat
  deriving DecidableEq, Repr

/-- A DEFERRED request (R223): its stamp, the tick it was first tested and its last reason. -/
structure Deferred where
  stamp  : Nat
  cmd    : Cmd
  since  : Nat
  reason : Nat
  deriving DecidableEq, Repr

/-- A prefix index entry (R228): chain value, handle, tokens, last hit and this member's pages of the block. -/
structure Prefix where
  chain  : Nat
  handle : Nat
  toks   : List Nat
  hit    : Nat
  frame  : Nat
  pages  : List (Nat × Nat)
  deriving DecidableEq, Repr

/-- A page on the move (R204, R205): from `src` to `dst`; out of tier N when `outw`, in a migration slot of `core`. -/
structure Moving where
  scope : Nat
  tag   : Nat
  layer : Nat
  idx   : Nat
  src   : Nat
  dst   : Nat
  outw  : Bool
  core  : Nat
  deriving DecidableEq, Repr

/-- A copy-on-write copy (R231): the entries below `upto` of page `src` go into `dst`. -/
structure CowCopy where
  src  : Nat
  dst  : Nat
  upto : Nat
  deriving DecidableEq, Repr

/-- A line of the taint log's frame (R374): ACT 0 written, 1 allocated, 2 released, 3 freed. -/
structure Taint where
  frame : Nat
  pages : List (Nat × Nat)
  refs  : List (Nat × Nat)
  reqs  : List Nat
  deriving DecidableEq, Repr

/-- A sequenced flit in a port's replay store (R306): its transmissions so far and the count at which its deadline
passes. -/
structure TxFlit where
  port  : Nat
  flit  : Flit
  tries : Nat
  due   : Nat
  ctrl  : Option CtrlMsg
  deriving DecidableEq, Repr

/-- What a port remembers (R303, R305, R309, R325): next SEQ to send, next SEQ expected, NAK due, the far end's announced epoch
at its last training, when it last sent a beacon, when a stand-in must have given MATCH, and its FEC count of the frame. -/
structure PortSt where
  nextSeq : Nat := 0
  expSeq  : Nat := 0
  nak     : Option Nat := none
  farEp   : Option Nat := none
  farJob  : Nat := 0
  beacon  : Nat := 0
  standAt : Option Nat := none
  fec     : Nat := 0
  deriving DecidableEq, Repr

/-- An abort round at its root (R321, R387 to R389, R395). -/
structure Round where
  r      : Nat
  s      : Nat
  start  : Nat
  first  : Nat
  acked  : List Nat
  ended  : Bool
  endAt  : Nat
  failed : List Nat
  later  : List Qmsg
  deriving DecidableEq, Repr

/-- Quadrille's state at this package (R315 to R323, R389, R390, R527): the children in force with the members below each; this
package's own arrival and those received; the HELD notices; the last COMPLETE and its skip flag; at the root the round that runs,
at a member its r and s, the chosen fault, this member's own records of the round and the recovery table's entries due at tick s, those
of R389 after the others; the members
lost in the round and when the broadcast came; the rounds a RERUN fault started; at the root the units fenced, as member, KIND, unit and
resume frame (R396); the lost members; and the START round. -/
structure QdrSt where
  kids      : List (Nat × List Nat) := []
  fbParent  : Nat := 127
  own       : Option Qmsg := none
  got       : List (Nat × Qmsg) := []
  sent      : Bool := false
  late      : Bool := false
  held      : List Qmsg := []
  done      : Option Nat := none
  skipNext  : Bool := false
  lostSent  : Bool := false
  leaving   : List Nat := []
  since     : Nat := 0
  round     : Option Round := none
  member    : Option (Nat × Nat) := none
  fault     : Option Qmsg := none
  mine      : List ErrRec := []
  due       : List RecEntry := []
  dueLate   : List RecEntry := []
  reran     : List (Nat × Nat × Nat) := []
  fenced    : List (Nat × Nat × Nat × Nat) := []
  gone      : List Nat := []
  told      : Bool := false
  startVotes : List (Nat × Qmsg) := []
  startFirst : Option Nat := none
  startGo   : Bool := false
  startSent : Bool := false
  excluded  : Bool := false
  deriving DecidableEq, Repr

/-- A pooled-memory command slot's run (R351): operation, bytes asked for so far, requests outstanding (tag, offset, bytes,
sent at, port), the pieces done, whether it is aborting, and its last status. -/
structure PoolRun where
  op    : Nat
  asked : Nat
  wait  : List (Nat × Nat × Nat × Nat × Nat)
  parts : List (Nat × Nat)
  stop  : Bool
  last  : Nat
  deriving DecidableEq, Repr

/-- A mailbox command (R436): the door, its bell stamp, whether Yarrow or Larkspur has taken it up, and whether its response
is made. -/
structure Bell where
  door  : Nat
  stamp : Nat
  run   : Bool
  ready : Bool
  deriving DecidableEq, Repr

/-- What Yarrow keeps of Larkspur (R421, R431, R469): its last start and kick, restarts at boot, whether it has reported READY, the
HANDOVER and the halt of an update, the update's image and its door, the digest of the body that runs, and the slots that qualify. -/
structure LspSt where
  startAt  : Nat := 0
  kickAt   : Nat := 0
  tries    : Nat := 0
  ready    : Bool := false
  handover : Option Nat := none
  haltAt   : Option Nat := none
  src      : Nat := 0
  newVer   : Nat := 0
  newSvn   : Nat := 0
  digest   : List Nat := []
  newDig   : List Nat := []
  door     : Nat := 0
  fit      : List Nat := []
  deriving DecidableEq, Repr

/-- The fuses and what Yarrow keeps in the calibration store (R414, R415, R420, R426): hash of the vendor root key, OWNER slots and the
owner public keys, floors, DEBUG_KILL and FACTORY_LOCK, key slots, and the firmware slots (slot, VERSION, SVN, body digest) with the
one marked preferred. -/
structure Fuses where
  vroot   : List Nat := List.replicate 32 0
  owners  : List (List Nat) := []
  ownerPk : List (List Nat) := []
  floorY  : Nat := 0
  floorL  : Nat := 0
  floorI  : Nat := 0
  dkill   : Bool := false
  flock   : Bool := true
  keys    : List (Nat × List Nat) := []
  yarSlot : List (Nat × Nat × Nat × List Nat) := [(0, 1, 0, List.replicate 32 0)]
  lspSlot : List (Nat × Nat × Nat × List Nat) := [(0, 1, 0, List.replicate 32 0)]
  yarPref : Nat := 0
  lspPref : Nat := 0
  deriving DecidableEq, Repr

/-- Yarrow's own state between resets (R422, R423, R434, R435). -/
structure YarSt where
  mlog   : List (Nat × Nat × List Nat) := []
  lost   : Nat := 0
  nonce  : Option (List Nat × Nat) := none
  keysUp : Bool := false
  deriving DecidableEq, Repr

/-- The calibration audit (R178, R179, R470): whether one runs and since when, the hold on loads, and whether the factory record is
unusable. -/
structure AuditSt where
  running : Bool := false
  began   : Nat := 0
  hold    : Bool := false
  badRec  : Bool := false
  deriving DecidableEq, Repr

/-- Drain and button (R479 to R484): the state R482 numbers (0 NONE, 1 REFUSING, 2 SERVING_OUT, 3 HANDOVER, 4 LEFT), a request
that waits, whether HOST_MGT waits for the answer, DRAIN_WAIT, when REFUSING began; the press stamp, whether the press is
ignored and whether it has asked for its drain; the end of the refused flash. -/
structure DrainSt where
  st      : Nat := 0
  asked   : Bool := false
  door    : Bool := false
  waitMs  : Nat := 30000
  began   : Nat := 0
  press   : Option Nat := none
  ignore  : Bool := false
  fired   : Bool := false
  flash   : Option Nat := none
  deriving DecidableEq, Repr

/-- What start-up and self-test found (R467 to R474): the count at TRANSIT, failed routers, failed converters (tile, converter), sensors
marked at start-up, and whether self-test has ended. -/
structure BootSt where
  transit  : Nat := 0
  routers  : List Nat := []
  convs    : List (Nat × Nat) := []
  broken   : Nat := 0
  tested   : Bool := false
  deriving DecidableEq, Repr

/-- Heat and power history (R450 to R460): the last ten products of the codes of channels 15 and 14, channel 14's last code,
stamps of LEVEL_P's last rise and change, each sensor's last sample stamp, the stamp of a confirmed shutdown, THERM_TRIP_N, and
the housekeeping scan under way: its start, its channels and how many of them are done. -/
structure HeatSt where
  powers  : List Nat := []
  volt    : Nat := 0
  rise    : Option Nat := none
  change  : Option Nat := none
  sampled : List (Nat × Nat) := []
  shut    : Option Nat := none
  trip    : Bool := false
  hkStart : Option Nat := none
  hkList  : List Nat := []
  hkDone  : Nat := 0
  deriving DecidableEq, Repr

/-- The state of the block; each field with its value at reset. -/
structure State where
  pending   : List Instr := []
  now       : Nat := 0
  power     : Power := .off
  regs      : List (Nat × Word) := []
  mem       : List Host.Cell := []
  lastRead  : Word := 0
  out       : List Out := []
  pav       : Pav := {}
  txnOpen   : List TxnOpen := []
  txnPend   : List TxnPend := []
  ownAt     : List (Nat × Nat) := []
  progQ     : List ProgCmd := []
  cells     : List (Nat × List Int) := []
  acc       : List (Nat × Int) := []
  held      : List Held := []
  satRec    : List SatRec := []
  capture   : List Capture := []
  calSum    : List (Nat × CalSum) := []
  calPrev   : List (Nat × CalMeas) := []
  calCycle  : List (Nat × CalMeas) := []
  trimNext  : List (Nat × Int × Int) := []
  lastPass  : List (Nat × Nat) := []
  poison    : List Poison := []
  scrubLog  : List (Nat × List Nat) := []
  clearing  : List (Nat × Nat) := []
  wcCount   : List (Nat × Nat) := []
  pktCount  : List (Nat × Nat) := []
  ran       : List (Nat × Nat) := []
  fenced    : List Nat := []
  img       : Option Image := none
  arrTemp   : List (Nat × Int × Nat) := []
  trkWin    : List (Nat × TrkWin) := []
  trkPrev   : List (Nat × Int × Int) := []
  trkNext   : List (Nat × Nat) := []
  degrade   : List (Nat × Nat × Nat) := []
  records   : List ErrRec := []
  score     : List (Nat × Nat) := []
  wideRep   : List (Nat × Nat) := []
  pxFails   : List (Nat × Nat) := []
  suspLast  : List (Nat × Nat) := []
  railPend  : List Nat := []
  lastSusp  : List (Nat × Nat) := []
  joinSeen  : Option Nat := none
  cfgLoad   : List (Nat × Nat × Nat) := []
  valReq    : List (Nat × Nat) := []
  swTrim    : List (Nat × Nat) := []
  lastClean : List (Nat × Nat) := []
  done      : List Nat := []
  failTile  : List Nat := []
  failCore  : List Nat := []
  loadArrs  : List Nat := []
  reqs      : List Req := []
  posts     : List Post := []
  heldCq    : List (Nat × Post) := []
  fwd       : List Cmd := []
  fwdIn     : List Cmd := []
  undecided : List Cmd := []
  notices   : List (Nat × Nat) := []
  leaves    : List (Nat × Nat) := []
  lspIn     : List (List Nat) := []
  evicts    : List (Nat × List Nat) := []
  arrivals  : List Arrival := []
  deferred  : List Deferred := []
  decisions : List (Nat × Decision) := []
  ctrlQ     : List (Nat × CtrlMsg) := []
  freeRep   : List (Nat × Nat) := []
  nextOrder : Nat := 0
  prefixes  : List Prefix := []
  nextHandle : Nat := 0
  moving    : List Moving := []
  cow       : List CowCopy := []
  kvFail    : List (Nat × Nat) := []
  pqTag     : Nat := 0
  taint     : List Taint := []
  summaries : List (Nat × Nat × Shard × List Nat) := []
  draftTok  : List (Nat × Nat × Nat) := []
  chains    : List Chain := []
  delivered : List (Nat × Nat) := []
  snaps     : List (Nat × List Req × List Prefix) := []
  decLog    : List (Nat × Decision × Bool) := []
  mirUsed   : List Nat := []
  copied    : Nat := 0
  fill      : List (Nat × Nat) := []
  fillNext  : List (Nat × Nat) := []
  staged    : List (Nat × Flit) := []
  tx        : List TxFlit := []
  ports     : List (Nat × PortSt) := []
  planAt    : Option Nat := none
  plan      : List Nat := []
  qdr       : QdrSt := {}
  pool      : List (Nat × PoolRun) := []
  bells     : List Bell := []
  mgtTxn    : Option Nat := none
  lsp       : LspSt := {}
  fuses     : Fuses := {}
  yar       : YarSt := {}
  audit     : AuditSt := {}
  drain     : DrainSt := {}
  boot      : BootSt := {}
  heat      : HeatSt := {}
  halted    : Bool := false
  failSolo  : Bool := false
  staging   : Option Image := none
  imgDigest : List Nat := []
  topoDigest : Nat := 0
  stageBase : Nat := 0
  stageLen  : Nat := 0
  loadStop  : Bool := false
  loadFact  : Bool := false
  crossings : Bool := false
  pllLost   : List Nat := []
  errCap    : List Nat := []
  logSeen   : List (Nat × Nat × Nat) := []
  freeCount : Nat := 0
  deriving DecidableEq, Repr

/-- The block right after reset: with no supply everything is off (R443, R444); every register holds its reset value,
memory lists nothing, no command waits. POWER_ON runs the start-up sequence (R467). -/
def State.reset : State := {}

end Sys2Proof.Machine
end

