-- ==== Sys2Proof/Machine/Ops.lean ====
section
/-! DEFINITION. The named operations over registers, memory, events, interrupts and error records that every
command's meaning is built from. -/

namespace Sys2Proof.Machine

/-! ### Time -/

/-- A command reaches its unit at count `t`: time never runs backwards (R51). -/
def State.at (s : State) (t : Nat) : State := { s with now := max s.now t }

/-! ### Registers -/

/-- The value of the register at a key. -/
def State.reg (s : State) (a : Nat) : Word := sget resetVal s.regs a

/-- Replace the register at a key. -/
def State.setReg (s : State) (a : Nat) (v : Word) : State := { s with regs := sset resetVal s.regs a v }

/-- The bits `lo + w − 1 : lo` of a number. -/
def bits (v lo w : Nat) : Nat := v / 2 ^ lo % 2 ^ w

/-- `v` with bits `lo + w − 1 : lo` replaced by the low `w` bits of `x`. -/
def setBits (v lo w x : Nat) : Nat := v - bits v lo w * 2 ^ lo + x % 2 ^ w * 2 ^ lo

/-- A register field's value. -/
def State.f (s : State) (F : Fld) : Nat := bits (s.reg F.a).toNat F.lo F.w

/-- A one-bit field read as a truth value. -/
def State.b (s : State) (F : Fld) : Bool := s.f F == 1

/-- A field's value read as two's complement. -/
def State.fi (s : State) (F : Fld) : Int :=
  if s.f F < 2 ^ (F.w - 1) then (s.f F : Int) else (s.f F : Int) - 2 ^ F.w

/-- Set a register field. -/
def State.setf (s : State) (F : Fld) (x : Nat) : State :=
  s.setReg F.a (BitVec.ofNat 64 (setBits (s.reg F.a).toNat F.lo F.w x))

/-- Set a field to a signed value, as two's complement. -/
def State.setfi (s : State) (F : Fld) (x : Int) : State := s.setf F (x % 2 ^ F.w).toNat

/-- Add to a saturating counter field. -/
def State.add (s : State) (F : Fld) (n : Nat) : State := s.setf F (min (s.f F + n) (2 ^ F.w - 1))

/-- Count one event in a saturating counter field. -/
def State.inc (s : State) (F : Fld) : State := s.add F 1

/-- Run `f` when `c` holds. -/
def State.when (s : State) (c : Bool) (f : State → State) : State := if c then f s else s

/-- A value the spec leaves open (notes/assumptions/11.md): the next one of the model's own sequence. -/
def State.fresh (s : State) : Nat := (Config.freeWord s.freeCount).toNat

/-- The sequence of free values moves on. -/
def State.used (s : State) : State := { s with freeCount := s.freeCount + 1 }

/-! ### Memory: one byte map over the 44-bit addresses of R338 -/

/-- Tier F's first address. -/
def tierF : Nat := 2 ^ 42

/-- Address of byte `off` of core `c`'s scratchpad. -/
def spd (c off : Nat) : Nat := 3 * 2 ^ 42 + c * 2 ^ 20 + off

/-- A byte nothing has written reads 0 (scratchpads: R146; tiers: notes/assumptions/4.md). -/
def memDefault (_ : Nat) : Byte := 0

/-- The byte at an address. -/
def State.byte (s : State) (a : Nat) : Nat := (sget memDefault s.mem a).toNat

/-- `n` bytes from an address. -/
def State.bytes (s : State) (a n : Nat) : List Nat := (List.range n).map (fun i => s.byte (a + i))

/-- The little-endian number in `n` bytes. -/
def State.num (s : State) (a n : Nat) : Nat := leNat (s.bytes a n)

/-- Store one byte. -/
def setByte (m : List Host.Cell) (a v : Nat) : List Host.Cell := sset memDefault m a (BitVec.ofNat 8 v)

/-- Store bytes from an address up. -/
def setBytes : List Host.Cell → Nat → List Nat → List Host.Cell
  | m, _, [] => m
  | m, a, b :: bs => setBytes (setByte m a b) (a + 1) bs

/-- The memory's canonical form: addresses strictly rising, and no entry equal to what an unlisted address reads as. -/
abbrev Memory.wf (m : List Host.Cell) : Bool := scanon memDefault m

/-- Store bytes into memory. -/
def State.write (s : State) (a : Nat) (bs : List Nat) : State := { s with mem := setBytes s.mem a bs }

/-- Store a little-endian number of `n` bytes. -/
def State.writeNum (s : State) (a n v : Nat) : State := s.write a (leBytes n v)

/-! ### Interrupts and events -/

/-- MSI-X table entry `v`: address, data and mask bit (R494; layout PRESUMED from the PCIe standard). -/
def MSIX_ADDR (v : Nat) : Fld := ⟨bar2 + 0x8000 + 16 * v, 0, 64⟩
def MSIX_DATA (v : Nat) : Fld := ⟨bar2 + 0x8008 + 16 * v, 0, 32⟩
def MSIX_MASK (v : Nat) : Fld := ⟨bar2 + 0x8008 + 16 * v, 32, 1⟩
/-- The pending bit of vector `v` (R494, R505). -/
def MSIX_PEND (v : Nat) : Fld := ⟨bar2 + 0x9000, v, 1⟩
/-- Key of the function's configuration space (R488; offsets PRESUMED from the PCIe standard). -/
def pciCfg : Nat := 0x300000000
/-- Bus Master Enable of the command register (R486). -/
def PCI_BME : Fld := ⟨pciCfg, 34, 1⟩

/-- Raise vector `v`: sent when it is not masked and Bus Master Enable is set, otherwise its pending bit is set
(R486, R504, R505). -/
def State.msix (s : State) (v : Nat) : State :=
  if s.b (MSIX_MASK v) ∨ ¬ s.b PCI_BME then s.setf (MSIX_PEND v) 1
  else { s.setf (MSIX_PEND v) 0 with out := s.out ++ [.msix (s.f (MSIX_ADDR v)) (s.f (MSIX_DATA v))] }

/-- SYS_EVTLATCH under SYS_IRQMASK, bits 0, 11 and 12 ignored (R509, R510). -/
def State.irqBits (s : State) : Nat :=
  Nat.land (Nat.land (s.reg 0x30).toNat (s.f SYS_IRQMASK_MASK)) 0x1E7FE

/-- Set a latch bit; vector 62 is raised when the masked latch changes from zero to nonzero (R510). -/
def State.latch (s : State) (b : Nat) : State :=
  let s' := s.setf ⟨0x30, b, 1⟩ 1
  s'.when (s.irqBits == 0 && s'.irqBits != 0) (·.msix 62)

/-- A block's EVT register gains a bit: the latch bit of the block is set (R510), and SYS_EVT changing from zero
raises vector 63. A bit already set gains nothing. -/
def State.evt (s : State) (F : Fld) : State :=
  if s.b F then s
  else
    let s' := (s.setf F 1).latch (if F.a < 0x2000000 then groupOf F.a else 16)
    s'.when (F.a == 0x20 && s.reg 0x20 == 0) (·.msix 63)

/-- An access counted in SYS_HOSTERR (R487, R490, R491, R507). -/
def State.hostErr (s : State) (F : Fld) : State := (s.inc F).evt SYS_EVT_HOST_ERR

/-! ### Frames -/

/-- An image is active (R269). -/
def State.active (s : State) : Bool := s.f IMG_STATE_STATE == 6

/-- Number of the current frame. -/
def State.frame (s : State) : Nat := s.f PAV_FRAME_FRAME_NUM

/-- The job frame number (R271). -/
def State.jobFrame (s : State) : Nat := s.frame + s.f IMG_JOB_JOB_BASE

/-- The job frame whose barrier runs (R316, R390): s − 1 while a round restores, else the current one. -/
def State.barFrame (s : State) : Nat :=
  match s.qdr.member with
  | some x => x.2 - 1
  | none => s.jobFrame

/-- Work passes of the frame that have started: whole passes since the tick, less pause and hold passes (R22). -/
def State.passNow (s : State) : Nat := (s.now - s.f PAV_TICK_TICK_STAMP) / 64 - s.pav.pauses - s.pav.holds

/-- The settle depth P (R54). -/
def State.settle (s : State) : Nat := 4 * 2 ^ s.f PAV_SETTLE_P_CODE

/-! ### Error records (R376 to R379) -/

/-- A unit sends a record to the hub collector. `sfrom` is the earliest job frame the fault may have touched, never
below FRAME − P + 1 (R371). A JOB_FAULT or FATAL record keeps the member from posting ARRIVE (R372). -/
def State.raiseFrom (s : State) (sev cause kind unit detail flags sfrom : Nat) : State :=
  let f := s.jobFrame
  let r : ErrRec := ⟨sev, cause, kind, unit, detail, flags, f, if sev < 2 then f else max sfrom (f + 1 - s.settle)⟩
  { s with records := s.records ++ [r], pav := { s.pav with faulted := s.pav.faulted || (decide (sev ≥ 2) && s.active) } }

/-- A record whose SUSPECT_FROM is its FRAME. -/
def State.raise (s : State) (sev cause kind unit detail : Nat) : State :=
  s.raiseFrom sev cause kind unit detail 0 s.jobFrame

/-! ### Flagged arrays and suspects (R364 to R370, R528) -/

/-- A flagging event meets array `A` (R528): only a READY array enters FLAGGED. -/
def State.flag (s : State) (A cause group reason : Nat) : State :=
  if s.f (ARR_STATE_STATE A) = 2 then
    let s := ((s.setf (ARR_STATE_STATE A) 3).setf (ARR_STATE_CAUSE A) cause).evt (ARR_EVT_FLAGGED A)
    let s := s.when (cause == 1) (·.setf (ARR_STATE_FLAG_GROUP A) group)
    s.when (cause == 2) fun s =>
      ((s.setf (COR_ERR_FLAG_REASON A) reason).setf (COR_EVT_LAST_ARRAY (A / 32)) (A % 32)).evt (COR_EVT_DRIFT_FLAG (A / 32))
  else s

/-- The region of a suspect unit: kind 1 ARRAY, 3 CORE (R377). -/
def unitRegion (kind unit : Nat) : Nat := if kind = 1 then unit / 1024 else unit / 32

/-- The table entry of a unit, if it has one (R365). -/
def State.suspIdx (s : State) (kind unit : Nat) : Option Nat :=
  (List.range 16).find? (fun i => s.f (CHK_SUSP_STATE i) != 0 && s.f (CHK_SUSP_KIND i) == kind && s.f (CHK_SUSP_UNIT i) == unit)

/-- Whether a unit is an OBSERVING suspect. -/
def State.observing (s : State) (kind unit : Nat) : Bool :=
  match s.suspIdx kind unit with
  | some i => s.f (CHK_SUSP_STATE i) == 1
  | none => false

/-- Whether core `c` holds an OBSERVING array (R369). -/
def State.coreObserves (s : State) (c : Nat) : Bool :=
  (List.range 16).any (fun i => s.f (CHK_SUSP_STATE i) == 1 && s.f (CHK_SUSP_KIND i) == 1 && s.f (CHK_SUSP_UNIT i) / 32 == c)

/-- A SUSPECT_FENCE record; an array so fenced enters FLAGGED with cause FORCED (R368). -/
def State.suspFence (s : State) (kind unit since : Nat) : State :=
  (s.raiseFrom 2 0x05 kind unit since 2 since).when (kind == 1) (·.flag unit 4 0 0)

/-- A 24-bit job frame number of the table widened to the current job frame's neighbourhood. -/
def State.since (s : State) (i : Nat) : Nat :=
  let f := s.jobFrame
  f - (f - s.f (CHK_SUSP_SINCE i)) % 2 ^ 24

/-- A suspect event on a unit (R365, R367, R369, R370): it enters the table, turns to FENCE_REQ, or is fenced at once;
its region's rail takes a step at the next tick. Two events on one unit in one cycle count as one. -/
def State.suspect (s : State) (kind unit : Nat) : State :=
  let key := kind * 2 ^ 32 + unit
  if sfind s.suspLast key = some s.now then s
  else
    let s := { s with suspLast := sput s.suspLast key s.now,
                      railPend := s.railPend ++ [unitRegion kind unit],
                      lastSusp := sput s.lastSusp (unitRegion kind unit) s.jobFrame }
    match s.suspIdx kind unit with
    | some i =>
      if s.f (CHK_SUSP_STATE i) = 1 then
        ((s.setf (CHK_SUSP_STATE i) 2).evt CHK_EVT_FENCE_REQ).suspFence kind unit (s.since i)
      else s
    | none =>
      match (List.range 16).find? (fun i => s.f (CHK_SUSP_STATE i) == 0) with
      | some i =>
        if kind = 1 ∧ s.coreObserves (unit / 32) then (s.suspFence kind unit s.jobFrame).evt CHK_EVT_SUSP_FULL
        else
          ((((s.setf (CHK_SUSP_STATE i) 1).setf (CHK_SUSP_KIND i) kind).setf (CHK_SUSP_UNIT i) unit).setf
            (CHK_SUSP_SINCE i) s.jobFrame).evt CHK_EVT_SUSPECT
      | none => (s.suspFence kind unit s.jobFrame).evt CHK_EVT_SUSP_FULL

/-- Add to a unit's soft score; reaching SOFT_LIMIT makes it a suspect with a SHADOW_SOFT record (R364). -/
def State.addScore (s : State) (kind unit n : Nat) : State :=
  let key := kind * 2 ^ 32 + unit
  let v := sget (fun _ => 0) s.score key + n
  if v ≥ s.f CHK_CFG_SOFT_LIMIT then
    ({ s with score := sset (fun _ => 0) s.score key 0 }.raiseFrom 0 0x04 kind unit 0 1 s.jobFrame).suspect kind unit
  else { s with score := sset (fun _ => 0) s.score key v }

end Sys2Proof.Machine
end

