-- ==== Sys2Proof/Machine/Slots.lean ====
section
/-! DEFINITION. The slot tables in force, the mesh, and scratchpad accesses by slots: R29 to R33, R39, R143, R147 to
R152, R279, R296, R297. -/

namespace Sys2Proof.Machine

/-- The variant in force of the active image (R39). -/
def State.sched (s : State) : Option Sched :=
  if s.active then s.img.bind (fun i => i.scheds[s.f PAV_SEL_VARIANT]?) else none

/-- The patches enabled, in ascending register order (R39). -/
def State.patchList (s : State) : List Nat :=
  ((List.range 8).filter (fun i => s.b (PAV_PATCH_EN i))).map (fun i => s.f (PAV_PATCH_PATCH i))

/-- The replacements the enabled patches make, later ones last (R39). -/
def State.patched (s : State) : List (Nat × Nat × Word) :=
  match s.img with
  | none => []
  | some im => (s.patchList.map (fun p => ((im.patches[p]?).map Patch.slots).getD [])).flatten

/-- The slot entry at index `i` of core `c`'s table in force (R30, R39); 0 where it is EMPTY. -/
def State.entry (s : State) (c i : Nat) : Nat :=
  match (s.patched.filter (fun r => r.1 = c ∧ r.2.1 = i)).getLast? with
  | some r => r.2.2.toNat
  | none =>
    match s.sched with
    | none => 0
    | some sc => (((sfind sc.slots c).getD []).getD i 0).toNat

/-- Fields of a slot entry (R30). -/
def slotClass (e : Nat) : Nat := bits e 60 4
def slotStart (e : Nat) : Nat := bits e 47 13
def slotLen (e : Nat) : Nat := bits e 34 13 + 1
def slotTarget (e : Nat) : Nat := bits e 24 10
def slotDesc (e : Nat) : Nat := bits e 0 24

/-- Indices core `c`'s table may use in the combination in force. -/
def State.slotIdxs (s : State) (c : Nat) : List Nat :=
  let base := match s.sched with
    | none => 0
    | some sc => ((sfind sc.slots c).getD []).length
  List.range base ++ ((s.patched.filter (fun r => r.1 = c ∧ base ≤ r.2.1)).map (fun r => r.2.1)).eraseDups

/-- A work pass runs now: no pause pass is due or under way and no WAIT holds the package (R22, R37, R45). -/
def State.working (s : State) : Bool :=
  s.pav.waits.isEmpty && (s.f PAV_THR_LATCHED == 0 ||
    (decide (16 * s.pav.pauseBlocks ≤ s.passNow) && decide (s.passNow < 16 * (s.pav.pauseBlocks + 1))))

/-- The pause passes due in a frame of `n` work passes have run (R26, R45). -/
def State.paused (s : State) (n : Nat) : Bool := s.f PAV_THR_LATCHED == 0 || decide (n ≤ 16 * s.pav.pauseBlocks)

/-- The router stub answers for core `c`: it is fenced or in reset (R297). -/
def State.stubbed (s : State) (c : Nat) : Bool := s.fenced.contains c || s.b (RCV_EPDATA_IN_RESET 0 c)

/-- Core `c`'s region has no clock (R292). -/
def State.dark (s : State) (c : Nat) : Bool := s.pllLost.contains (c / 32)

/-- Whether the slot at (c, i) is of class `cls` and its time has come: the member runs, the core is not fenced, the
current pass is a work pass of the slot, and it has not run in this frame (R29, R33, R38, R296). -/
def State.slotDue (s : State) (c i cls : Nat) : Bool :=
  let e := s.entry c i
  s.active && s.working && !s.failSolo && !s.pav.stopped && !s.pav.waitDead && !s.stubbed c && !s.dark c &&
  !s.ran.contains (c, i) &&
  slotClass e == cls && decide (slotStart e ≤ s.passNow) && decide (s.passNow < slotStart e + slotLen e)

/-- The slot at (c, i) has run in this frame. -/
def State.mark (s : State) (c i : Nat) : State := { s with ran := s.ran ++ [(c, i)] }

/-- What the image notes of a slot. -/
def State.note (s : State) (c i : Nat) : SlotNote :=
  match s.sched with
  | none => ⟨c, i, 0, []⟩
  | some sc => (sc.notes.find? (fun n => n.core = c ∧ n.idx = i)).getD ⟨c, i, 0, []⟩

/-- The stream `id` of core `c`; without one, the widest window and no wide copy area. -/
def State.stream (s : State) (c id : Nat) : Stream :=
  match s.img with
  | none => ⟨c, id, 1, 250, 0, 0, 0⟩
  | some im => (im.streams.find? (fun x => x.core = c ∧ x.id = id)).getD ⟨c, id, 1, 250, 0, 0, 0⟩

/-! ### The mesh (R279, R143) -/

/-- Die of package core `p`. -/
def coreDie (p : Nat) : Nat := p / 512
/-- Column of package core `p`. -/
def coreX (p : Nat) : Nat := 8 * (p / 32 % 4) + p % 8
/-- Row of package core `p`. -/
def coreY (p : Nat) : Nat := 4 * (p / 32 % 16 / 4) + p % 32 / 8
/-- The package core at (x, y) of a die. -/
def coreAt (die x y : Nat) : Nat := 32 * (16 * die + (4 * (y / 4) + x / 8)) + (8 * (y % 4) + x % 8)

/-- The core a selector of R143 names; none at the edge of the mesh and for reserved codes. -/
def reach (c sel : Nat) : Option Nat :=
  let x := coreX c
  let y := coreY c
  let d := coreDie c
  match sel with
  | 0 => some c
  | 1 => if y = 0 then none else some (coreAt d x (y - 1))
  | 2 => if x = 31 then none else some (coreAt d (x + 1) y)
  | 3 => if y = 15 then none else some (coreAt d x (y + 1))
  | 4 => if x = 0 then none else some (coreAt d (x - 1) y)
  | _ => none

/-! ### Scratchpad protection (R147 to R152) -/

/-- Bank `b` of core `c` holds SECDED (R147). -/
def State.secded (s : State) (c b : Nat) : Bool :=
  s.f (SPD_CFG_MODE c) == 1 && bits (s.f (SPD_CFG_WEIGHT_BANKS c)) b 1 == 1

/-- Bank `b` of core `c` is being rewritten after a change of protection (R152). -/
def State.isClearing (s : State) (c b : Nat) : Bool :=
  match sfind s.clearing (16 * c + b) with
  | some p => decide (s.passNow < p)
  | none => false

/-- This package's global address of a local address (R338). -/
def State.gaddr (s : State) (a : Nat) : Nat := s.f FAB_ID_PKG_ID * 2 ^ 44 + a

/-- A corrected word: counted, logged, kept in the bank's correction log while it has room (R149, R151). -/
def State.spdCorrected (s : State) (c off : Nat) : State :=
  let s := ((s.inc (SPD_ERR_CORRECTED c)).setf (SPD_LOG_KIND c) 1).setf (SPD_LOG_OFFSET c) off
  let s := (s.evt (SPD_EVT_CORRECTED c)).raise 0 0x0E 3 c (s.gaddr (spd c off))
  let bk := 16 * c + off / 65536
  let log := (sfind s.scrubLog bk).getD []
  if log.contains off ∨ log.length ≥ 8 then s
  else { s with scrubLog := sput s.scrubLog bk (log ++ [off]) }.setf (SPD_PEND c (off / 65536)) (log.length + 1)

/-- A parity error on a read poisons the word; `tell` raises its JOB_FAULT, once per packet (R148, R364). -/
def State.spdParity (s : State) (c off : Nat) (tell : Bool) : State :=
  let s := ((s.inc (SPD_ERR_PARITY c)).setf (SPD_LOG_KIND c) 2).setf (SPD_LOG_OFFSET c) off
  let s := s.evt (SPD_EVT_PARITY c)
  let s := { s with poison := s.poison.filter (fun (p : Poison) => p.addr ≠ spd c off) ++ [(⟨spd c off, 0x0F, c⟩ : Poison)] }
  s.when tell fun s => (s.raise 2 0x0F 3 c (s.gaddr (spd c off))).addScore 3 c 4

/-- A double-bit error in a SECDED bank (R149, R364). -/
def State.spdUncorr (s : State) (c off : Nat) (tell : Bool) : State :=
  let s := ((s.inc (SPD_ERR_UNCORR c)).setf (SPD_LOG_KIND c) 3).setf (SPD_LOG_OFFSET c) off
  let s := s.evt (SPD_EVT_UNCORR c)
  s.when tell fun s => (s.raise 2 0x10 3 c (s.gaddr (spd c off))).addScore 3 c 4

/-- What a read of scratchpad bytes gives: the state, the bytes, and whether a poisoned or uncorrectable word was met. -/
structure Rd where
  s   : State
  bs  : List Nat
  bad : Bool

/-- A word whose beat failed its CRC on a link (R282, R364): counted, and poisoned where it lies if the link leads there; `tell` raises
its JOB_FAULT. -/
def State.nocCrc (s : State) (c off link : Nat) (tell : Bool) : State :=
  let s := s.inc (CHK_NDATA_CRC_ERRS link)
  let s := if reach (link / 4) (link % 4 + 1) = some c then
    { s with poison := s.poison.filter (fun (p : Poison) => p.addr ≠ spd c off) ++ [(⟨spd c off, 0x11, link⟩ : Poison)] } else s
  s.when tell fun s => (s.raise 2 0x11 6 link (s.gaddr (spd c off))).addScore 3 (link / 4) 4

/-- The errors met in a read, one word after another; the first bad one is reported (R148: one error). -/
def meetErrs : List WordErr → Rd → Rd
  | [], r => r
  | e :: es, r =>
    if e.link.isSome then meetErrs es ⟨r.s.nocCrc e.core e.off (e.link.getD 0) (!r.bad), r.bs, true⟩
    else if r.s.secded e.core (e.off / 65536) then
      (if e.double then meetErrs es ⟨r.s.spdUncorr e.core e.off (!r.bad), r.bs, true⟩
       else meetErrs es ⟨r.s.spdCorrected e.core e.off, r.bs, r.bad⟩)
    else meetErrs es ⟨r.s.spdParity e.core e.off (!r.bad), r.bs, true⟩

/-- The record a consumer of a poisoned word raises, by the word's cause (R148, R282, R297, R344). -/
def State.tellPoison (s : State) (reader : Nat) (p : Poison) : State :=
  if p.cause = 0x11 then (s.raise 2 0x11 6 p.unit (s.gaddr p.addr)).addScore 3 (p.unit / 4) 4
  else if p.cause = 0x0F then (s.raise 2 0x0F 3 p.unit (s.gaddr p.addr)).addScore 3 p.unit 4
  else s.raise 2 0x0A 3 reader (s.gaddr p.addr)

/-- A beat of a scratchpad read can have failed on a link: one that leads to the scratchpad, or the one to the reader (R282). -/
def onWay (c reader link : Nat) : Bool :=
  reach (link / 4) (link % 4 + 1) == some c || (link / 4 == c && c != reader && reach c (link % 4 + 1) == some reader)

/-- A read by core `reader` of `n` bytes at `off` of the scratchpad `sel` names; `errs` are the errors met in those
words. A clearing bank gives zeros; a stub gives zeros marked FENCED, taken as poisoned (R297); what a core without a clock
gives is not stated (R292): free bytes. -/
def State.readSpd (s : State) (reader sel off n : Nat) (errs : List WordErr) : Rd :=
  match reach reader sel with
  | none => ⟨s, List.replicate n 0, false⟩
  | some c =>
    if s.dark c ∧ c / 32 ≠ reader / 32 then
      ⟨s.used, (List.range n).map (fun i => s.fresh / (i + 1) % 256), false⟩
    else if s.stubbed c ∧ c ≠ reader then
      ⟨(s.raise 2 0x24 3 c (s.gaddr (spd c off))).inc RCV_STALE_FENCED_REPLIES, List.replicate n 0, true⟩
    else if s.isClearing c (off / 65536) then ⟨s.evt (SPD_EVT_CLR_CONFLICT c), List.replicate n 0, false⟩
    else
      match s.poison.find? (fun (p : Poison) => spd c off ≤ p.addr ∧ p.addr < spd c off + n) with
      | some p => ⟨s.tellPoison reader p, s.bytes (spd c off) n, true⟩
      | none => meetErrs (errs.filter (fun e => e.core = c ∧ off ≤ e.off ∧ e.off < off + n ∧ e.link.all (onWay c reader))) ⟨s, s.bytes (spd c off) n, false⟩

/-- A write by core `w` of whole words to the scratchpad `sel` names: fresh check bits clear poison; a fenced core's
stub discards it (R297), and a clearing bank loses it (R152). -/
def State.writeSpd (s : State) (w sel off : Nat) (bs : List Nat) : State :=
  match reach w sel with
  | none => s
  | some c =>
    if (s.stubbed c ∨ s.dark c) ∧ c ≠ w then s
    else if s.isClearing c (off / 65536) then s.evt (SPD_EVT_CLR_CONFLICT c)
    else { s with poison := s.poison.filter (fun (p : Poison) => ¬ (spd c off ≤ p.addr ∧ p.addr < spd c off + bs.length)) }.write (spd c off) bs

end Sys2Proof.Machine
end

