-- ==== Sys2Proof/Machine/Packets.lean ====
section
/-! DEFINITION. Blocks, packets and wide copies: R92 to R107, and the consumer's checks of R102 to R104, R110. -/

namespace Sys2Proof.Machine

/-- A block as a packet carries it (R93, R97): flag (0 none, 1 ZERO, 2 UNDERFLOW, 3 SATURATE), exponent and codes. -/
structure Blk where
  flag  : Nat
  e     : Nat
  codes : List Int
  deriving DecidableEq, Repr

/-- A ZERO block. -/
def Blk.zero : Blk := ⟨1, 0, List.replicate 32 0⟩

/-- The exponent weight of a code: A4 x × 2^(e − 127), A8 x × 2^(e − 131) (R93). -/
def codeBias (a8 : Bool) : Int := if a8 then 131 else 127
/-- Largest code magnitude: 7 or 127 (R92). -/
def codeMax (a8 : Bool) : Int := if a8 then 127 else 7

/-- A w-bit two's complement code. -/
def signed (w v : Nat) : Int := if v % 2 ^ w < 2 ^ (w - 1) then (v % 2 ^ w : Nat) else ((v % 2 ^ w : Nat) : Int) - 2 ^ w

/-! ### Encoding (R94, R96, R97) -/

/-- The smallest exponent at which a nonzero magnitude `m × 2^x` fits: R96 step 1. -/
def fitExp (a8 : Bool) (m : Nat) (x : Int) : Int :=
  let l : Int := (Nat.log2 m : Int) + x
  let e : Int := l + 125
  let w : Int := e - codeBias a8
  -- m × 2^(x − w) < 7.5 or 127.5
  if magLtHalf m (x - w) (if a8 then 255 else 15) 0 then e else e + 1

/-- The largest exponent any element of a block asks for; `none` when every element is zero. -/
def blockFit (a8 : Bool) : List Num → Option Int
  | [] => none
  | .fin _ m x :: r =>
    if m = 0 then blockFit a8 r
    else match blockFit a8 r with
      | none => some (fitExp a8 m x)
      | some e => some (max e (fitExp a8 m x))
  | _ :: r => match blockFit a8 r with
      | none => some 100000
      | some e => some (max e 100000)

/-- One element's code at exponent `e`: rounded ties away from zero and clipped (R96); NaN is 0 (R94). -/
def codeOf (a8 : Bool) (e : Nat) : Num → Int
  | .nan => 0
  | .inf n => if n then -codeMax a8 else codeMax a8
  | .fin n m x => max (-codeMax a8) (min (codeMax a8) (quantAway n m x ((e : Int) - codeBias a8)))

/-- Encode one block of 32 sources in the window [lo, hi] (R96, R97); a NaN source gives SATURATE (R94). -/
def encBlock (a8 : Bool) (lo hi : Nat) (v : List Num) : Blk :=
  match blockFit a8 v with
  | none => Blk.zero
  | some es =>
    if v.contains .nan ∨ es > hi then ⟨3, hi, v.map (codeOf a8 hi)⟩
    else if es < lo then
      let c := v.map (codeOf a8 lo)
      if c.all (· == 0) then ⟨2, lo, c⟩ else ⟨0, lo, c⟩
    else ⟨0, es.toNat, v.map (codeOf a8 es.toNat)⟩

/-- The bytes of a packet without its CHECK: elements, then EXP, with FLAGS and the reserved byte apart (R98, R101). -/
def pktElems (a8 : Bool) (bs : List Blk) : List Nat :=
  (bs.map (fun b =>
    if a8 then b.codes.map (fun c => (c % 256).toNat)
    else (List.range 16).map (fun i => ((b.codes.getD (2 * i) 0) % 16).toNat + 16 * ((b.codes.getD (2 * i + 1) 0) % 16).toNat))).flatten
  ++ bs.map Blk.e

/-- FLAGS of a packet's four blocks (R98). -/
def pktFlags (bs : List Blk) : Nat :=
  (bs.getD 0 .zero).flag + 4 * (bs.getD 1 .zero).flag + 16 * (bs.getD 2 .zero).flag + 64 * (bs.getD 3 .zero).flag

/-- A whole packet of four blocks (R98 to R101). -/
def encPkt (a8 : Bool) (bs : List Blk) : List Nat :=
  let el := pktElems a8 bs
  let fl := [pktFlags bs, 0]
  el ++ leBytes 2 (crc16 (el ++ fl)) ++ fl

/-- Bytes of a packet. -/
def pktLen (a8 : Bool) : Nat := if a8 then 136 else 72

/-- Block `b` of a packet's bytes (R98, R99, R101). -/
def decBlk (a8 : Bool) (p : List Nat) (b : Nat) : Blk :=
  if a8 then
    ⟨p.getD 134 0 / 4 ^ b % 4, p.getD (128 + b) 0, (List.range 32).map (fun i => signed 8 (p.getD (32 * b + i) 0))⟩
  else
    ⟨p.getD 70 0 / 4 ^ b % 4, p.getD (64 + b) 0,
     (List.range 32).map (fun i => signed 4 (p.getD (16 * b + i / 2) 0 / (if i % 2 = 0 then 1 else 16)))⟩

/-- A malformed block (R103). -/
def badBlk (a8 : Bool) (b : Blk) : Bool :=
  let nz := b.codes.any (· != 0)
  (b.flag == 1 && (b.e != 0 || nz)) || (b.flag != 1 && b.e == 0) || decide (b.e > 250) ||
  b.codes.contains (-(codeMax a8) - 1) || (b.flag == 2 && nz) || (b.flag == 0 && !nz)

/-- The packet's CHECK matches (R100, R101). -/
def checkOk (a8 : Bool) (p : List Nat) : Bool :=
  let n := if a8 then 132 else 68
  crc16 (p.take n ++ (p.drop (n + 2)).take 2) == leNat ((p.drop n).take 2)

/-- Four ZERO blocks. -/
def zeroBlks : List Blk := [Blk.zero, Blk.zero, Blk.zero, Blk.zero]

/-- A consumer in core `c` takes the packet at `off` of the scratchpad `sel` (R102 to R104, R148): a bad packet counts as
four ZERO blocks and raises its error. -/
def State.takePkt (s : State) (c sel off : Nat) (a8 : Bool) (errs : List WordErr) : State × List Blk :=
  let r := s.readSpd c sel off (pktLen a8) errs
  let s := r.s
  let ga := s.gaddr (spd ((reach c sel).getD c) off)
  if r.bad then (s, zeroBlks)
  else if checkOk a8 r.bs then
    let bs := [decBlk a8 r.bs 0, decBlk a8 r.bs 1, decBlk a8 r.bs 2, decBlk a8 r.bs 3]
    if bs.any (badBlk a8) then ((s.raise 2 0x0B 3 c ga).inc (RING_CNT_COUNT c 8), zeroBlks)
    else (s, bs)
  else ((s.raise 2 0x0A 3 c ga).inc (RING_CNT_COUNT c 7), zeroBlks)

/-- `n` consecutive packets. -/
def State.takePkts (s : State) (c sel : Nat) (a8 : Bool) (errs : List WordErr) : Nat → Nat → State × List Blk
  | 0, _ => (s, [])
  | n + 1, off =>
    let r := s.takePkt c sel off a8 errs
    let q := r.1.takePkts c sel a8 errs n (off + pktLen a8)
    (q.1, r.2 ++ q.2)

/-! ### Wide copies (R105 to R107, R110) -/

/-- The payload of a wide copy record (R105): format 1 A8 or 2 BF16, exponent, own flag and 64 bytes. -/
def wcPayload (a8 : Bool) (v : List Num) : Nat × Nat × Nat × List Nat :=
  if a8 then
    let big (x : Num) : Bool := match x with
      | .inf _ => true
      | .fin n m e => (match roundBits 8 n m e with
        | .inf _ => true
        | _ => false)
      | .nan => false
    let enc (x : Num) : List Nat :=
      leBytes 2 (if big x then (match x with
        | .inf n => if n then 0xFF7F else 0x7F7F
        | .fin n _ _ => if n then 0xFF7F else 0x7F7F
        | .nan => 0x7FC0) else bf16Bits (round16 x))
    (2, 0, if v.any big then 3 else 0, (v.map enc).flatten)
  else
    let b := encBlock true 1 250 v
    (1, b.e, b.flag, b.codes.map (fun c => (c % 256).toNat) ++ List.replicate 32 0)

/-- An 80-byte wide copy record (R106). -/
def wcRecord (a8 : Bool) (v : List Num) (primary blk pkt frame : Nat) : List Nat :=
  let p := wcPayload a8 v
  let body := p.2.2.2 ++ [p.2.1, p.1 + 4 * primary + 16 * p.2.2.1, blk, 0] ++ leBytes 4 pkt ++ leBytes 4 frame
  body ++ leBytes 2 (crc16 (body ++ [0, 0])) ++ [0, 0]

/-- Key of a stream in the per-frame counts. -/
def streamKey (c id : Nat) : Nat := c * 65536 + id

/-- Write the wide copy of a flagged block, or count it as dropped when the area is full (R105, R107, R124). -/
def State.wideCopy (s : State) (c : Nat) (st : Stream) (a8 : Bool) (v : List Num) (primary blk pkt : Nat) : State :=
  let k := streamKey c st.id
  let n := sget (fun _ => 0) s.wcCount k
  if n < st.wcDepth then
    ({ s with wcCount := sset (fun _ => 0) s.wcCount k (n + 1) }.writeSpd c 0 (st.wcOff + 80 * n)
      (wcRecord a8 v primary blk pkt s.jobFrame)).inc (RING_CNT_COUNT c 3)
  else s.inc (RING_CNT_COUNT c 4)

/-- Count a block's flag and write its wide copy where it needs one (R105, R124). -/
def State.tallyBlk (s : State) (c : Nat) (st : Stream) (a8 : Bool) (v : List Num) (b : Blk) (blk pkt : Nat) : State :=
  let s := s.when (b.flag == 1) (·.inc (RING_CNT_COUNT c 0))
  let s := s.when (b.flag == 2) (fun s => (s.inc (RING_CNT_COUNT c 1)).wideCopy c st a8 v 2 blk pkt)
  s.when (b.flag == 3) (fun s => (s.inc (RING_CNT_COUNT c 2)).wideCopy c st a8 v 3 blk pkt)

/-- Encode source lanes, 32 to a block and four blocks to a packet, an unused block ZERO (R138): blocks in order, with
the counts and wide copies of each; `i` is the block's number from the slot's first. -/
def State.encLanes (s : State) (c : Nat) (st : Stream) (a8 : Bool) (pkt0 : Nat) : Nat → Nat → List Num → State × List Blk
  | 0, _, _ => (s, [])
  | n + 1, i, v =>
    let src := v.take 32
    let b := encBlock a8 st.expLo st.expHi src
    let s := s.tallyBlk c st a8 src b (i % 4) (pkt0 + i / 4)
    let s := s.when (src.contains .nan) (fun s => (s.raise 2 0x09 3 c st.id).inc (RING_CNT_COUNT c 9))
    let r := s.encLanes c st a8 pkt0 n (i + 1) (v.drop 32)
    (r.1, b :: r.2)

/-- The bytes of a run of blocks as packets. -/
def pktBytes (a8 : Bool) : Nat → List Blk → List Nat
  | 0, _ => []
  | n + 1, bs =>
    let p := bs.take 4
    encPkt a8 (p ++ List.replicate (4 - p.length) .zero) ++ pktBytes a8 n (bs.drop 4)

/-- Encode lanes as packets of a stream and write them at `off` of the scratchpad `sel` (R96, R105, R138). -/
def State.putPkts (s : State) (c sel off id : Nat) (a8 : Bool) (v : List Num) : State :=
  let st := s.stream c id
  let k := streamKey c id
  let pkt0 := sget (fun _ => 0) s.pktCount k
  let nb := (v.length + 31) / 32
  let np := (nb + 3) / 4
  let r := s.encLanes c st a8 pkt0 nb 0 v
  { r.1 with pktCount := sset (fun _ => 0) r.1.pktCount k (pkt0 + np) }.writeSpd c sel off (pktBytes a8 np r.2)

/-- What the search for a wide copy record gives (R110). -/
inductive WcFind where
  | missing
  | broken (off : Nat)
  | found (a8 : Bool) (e own : Nat) (vals : List Num)
  deriving DecidableEq, Repr

/-- Look a flagged block's record up in its stream's area by packet, block and frame, and test its CHECK (R110). -/
def State.findWc (s : State) (c : Nat) (st : Stream) (pkt blk : Nat) : WcFind :=
  let hit := (List.range st.wcDepth).find? (fun i =>
    let a := spd c (st.wcOff + 80 * i)
    s.byte (a + 66) % 4 == blk && s.num (a + 68) 4 == pkt % 2 ^ 32 && s.num (a + 72) 4 == (s.jobFrame - st.lag) % 2 ^ 32)
  match hit with
  | none => .missing
  | some i =>
    let a := spd c (st.wcOff + 80 * i)
    let bs := s.bytes a 80
    if crc16 (bs.take 76 ++ (bs.drop 78)) = leNat ((bs.drop 76).take 2) then
      let info := bs.getD 65 0
      let e := bs.getD 64 0
      if info % 4 = 1 then
        .found true e (info / 16 % 4) ((List.range 32).map (fun j => numOfInt (signed 8 (bs.getD j 0)) ((e : Int) - 131)))
      else .found false e (info / 16 % 4) ((List.range 32).map (fun j => bf16Of (leNat ((bs.drop (2 * j)).take 2))))
    else .broken (st.wcOff + 80 * i)

/-- The exact values of a block's elements. -/
def blkVals (a8 : Bool) (b : Blk) : List Num := b.codes.map (fun c => numOfInt c ((b.e : Int) - codeBias a8))

end Sys2Proof.Machine
end

