-- ==== Sys2Proof/Machine/Acc.lean ====
section
/-! DEFINITION. Accumulator groups: L64 lanes, the exact merge, deposits, spill and fill (R117 to R122, R127 to R132). -/

namespace Sys2Proof.Machine

/-- Key of lane `j` of group `g` of package tile `T`. -/
def laneKey (T g j : Nat) : Nat := (16 * T + g) * 256 + j

/-- A lane's value. -/
def State.lane (s : State) (T g j : Nat) : Int := sget (fun _ => 0) s.acc (laneKey T g j)

/-- All 256 lanes of a group. -/
def State.lanes (s : State) (T g : Nat) : List Int := (List.range 256).map (s.lane T g)

/-- Store lanes from lane `j` up. -/
def putLanes : List (Nat × Int) → Nat → List Int → List (Nat × Int)
  | m, _, [] => m
  | m, k, v :: vs => putLanes (sset (fun _ => 0) m k v) (k + 1) vs

/-- Store a group's lanes. -/
def State.setLanes (s : State) (T g : Nat) (v : List Int) : State := { s with acc := putLanes s.acc (laneKey T g 0) v }

/-- Saturate at the ends of L64 (R118). -/
def sat64 (v : Int) : Int := max (-(2 : Int) ^ 63) (min ((2 : Int) ^ 63 - 1) v)

/-- A group saturated: ACC_OVF, event, counter and JOB_FAULT (R118, R124). -/
def State.accOvf (s : State) (T g : Nat) : State :=
  let s := ((s.setf (ACC_STAT_ACC_OVF T g) 1).setf (ACC_EVT_LAST_GROUP T) g).evt (ACC_EVT_OVF T)
  (s.inc (RING_CNT_COUNT (T / 8) 10)).raise 2 0x0D 2 T g

/-- One lane of a merge: the stored value shifted by `sa`, the result by `sy`, added, each saturating (R118). -/
def mergeLane (a y : Int) (sa sy : Nat) : Int := sat64 (sat64 (a * 2 ^ sa) + sat64 (y * 2 ^ sy))

/-- Whether a lane's merge saturates. -/
def mergeOvf (a y : Int) (sa sy : Nat) : Bool :=
  sat64 (a * 2 ^ sa) != a * 2 ^ sa || sat64 (y * 2 ^ sy) != y * 2 ^ sy ||
  sat64 (sat64 (a * 2 ^ sa) + sat64 (y * 2 ^ sy)) != sat64 (a * 2 ^ sa) + sat64 (y * 2 ^ sy)

/-- Merge a result at exponent `e` into a group (R118). -/
def State.merge (s : State) (T g : Nat) (y : List Int) (e : Int) : State :=
  if s.b (ACC_STAT_TAG_VALID T g) then
    let t := s.fi (ACC_STAT_TAG T g)
    let sa := (t - e).toNat
    let sy := (e - t).toNat
    let a := s.lanes T g
    let r := s.setLanes T g ((List.range 256).map (fun j => mergeLane (a.getD j 0) (y.getD j 0) sa sy))
    let r := r.setfi (ACC_STAT_TAG T g) (min t e)
    r.when ((List.range 256).any (fun j => mergeOvf (a.getD j 0) (y.getD j 0) sa sy)) (·.accOvf T g)
  else
    let r := s.setLanes T g ((List.range 256).map (fun j => sat64 (y.getD j 0)))
    let r := (r.setfi (ACC_STAT_TAG T g) e).setf (ACC_STAT_TAG_VALID T g) 1
    r.when ((List.range 256).any (fun j => sat64 (y.getD j 0) != y.getD j 0)) (·.accOvf T g)

/-- Clear a group: lanes 0, TAG_VALID 0 and ACC_OVF 0 (R154, ACC_CLR). -/
def State.clearGroup (s : State) (T g : Nat) : State :=
  ((s.setLanes T g (List.replicate 256 0)).setf (ACC_STAT_TAG_VALID T g) 0).setf (ACC_STAT_ACC_OVF T g) 0

/-- Clear the groups whose bits are set in a mask. -/
def State.clearGroups (s : State) (T mask : Nat) : State :=
  (List.range 16).foldl (fun s g => s.when (bits mask g 1 == 1) (·.clearGroup T g)) s

/-! ### Spill and fill (R119 to R122) -/

/-- The smallest shift, up to 32, at which every lane fits in 32 bits (R120). -/
def spillShift (v : List Int) : Nat :=
  ((List.range 33).find? (fun k => v.all (fun a => decide (a.natAbs ≤ (2 ^ 31 - 1) * 2 ^ k)))).getD 32

/-- The bytes of an S32 group: TAG, SHIFT, FLAGS and rounded lanes (R119 to R121). -/
def State.spillBytes (s : State) (T g off : Nat) : List Nat :=
  if s.b (ACC_STAT_TAG_VALID T g) then
    let v := s.lanes T g
    let k := spillShift v
    let m (j : Nat) : Int :=
      let r : Int := (philox (s.f (RING_RKEY_RKEY (T / 8))) (s.frame % 2 ^ 32) off j 0 % 2 ^ k : Nat)
      max (-(2 ^ 31 - 1)) (min (2 ^ 31 - 1) ((v.getD j 0 + r) / (2 ^ k : Nat)))
    leBytes 2 ((s.fi (ACC_STAT_TAG T g)) % 65536).toNat ++ [k, 1 + 2 * s.f (ACC_STAT_ACC_OVF T g)] ++ [0, 0, 0, 0] ++
      ((List.range 256).map (fun j => leBytes 4 ((m j) % 2 ^ 32).toNat)).flatten
  else leBytes 2 ((s.fi (ACC_STAT_TAG T g)) % 65536).toNat ++ [0, 2 * s.f (ACC_STAT_ACC_OVF T g)] ++ List.replicate 1028 0

/-- Restore a group from an S32 group's bytes; a bad SHIFT or TAG is refused with PKT_FORMAT (R122, R139). -/
def State.fillGroup (s : State) (T g : Nat) (bs : List Nat) (ga : Nat) : State :=
  let tag := signed 16 (leNat (bs.take 2))
  let k := bs.getD 2 0
  let fl := bs.getD 3 0
  if k > 32 ∨ tag < -7 ∨ tag > 254 then
    (((s.setf (ACC_STAT_TAG_VALID T g) 0).raise 2 0x0B 3 (T / 8) ga)).inc (RING_CNT_COUNT (T / 8) 8)
  else
    let s := s.setLanes T g ((List.range 256).map (fun j => signed 32 (leNat ((bs.drop (8 + 4 * j)).take 4)) * 2 ^ k))
    ((s.setfi (ACC_STAT_TAG T g) tag).setf (ACC_STAT_TAG_VALID T g) (fl % 2)).setf (ACC_STAT_ACC_OVF T g) (fl / 2 % 2)

end Sys2Proof.Machine
end

