-- ==== Sys2Proof/Machine/Arrays.lean ====
section
/-! DEFINITION. The tile pass: cells, drive, conversion, recombination, gain, checksum, calibration samples, saturation
records, capture and merge (R56 to R73, R77, R125 to R130, R155, R161, R163, R164, R170, R177, R356, R358). -/

namespace Sys2Proof.Machine

/-- The signed level of an array's physical column at a row (R57). -/
def State.level (s : State) (A col row : Nat) : Int := ((sfind s.cells A).getD []).getD (col * 1024 + row) 0

/-- Rows of one pass: 128 × 2^code (R62, R90). -/
def State.rowBudget (s : State) (A : Nat) : Nat := 128 * 2 ^ s.f (ARR_CFG_ROW_BUDGET A)

/-- The outlier rows of an array's factor record (R160, R161). -/
def State.outRows (s : State) (A : Nat) : List Nat :=
  let a := s.f (COR_FACT_ADDR A)
  (List.range (min 16 (s.byte (a + 3)))).map (fun i => s.num (a + 16 + 2 * i) 2)

/-- The high part h of an input, x = 4h + l with h = sign(x) × ⌊|x|/4⌋ (R63). -/
def highPart (x : Int) : Int := if x < 0 then -((x.natAbs / 4 : Nat) : Int) else ((x.natAbs / 4 : Nat) : Int)
/-- The low part l (R63). -/
def lowPart (x : Int) : Int := x - 4 * highPart x

/-- The ideal signal of a physical column in one sub-phase, in unit products. -/
def State.signal (s : State) (A col : Nat) (drive : List (Nat × Int)) : Int :=
  drive.foldl (fun acc p => acc + p.2 * s.level A col p.1) 0

/-- A conversion (R67): signal in 1/1,024 unit products and range code give the code and whether it clipped. -/
def convert (sig : Int) (rc : Nat) : Int × Bool :=
  let l : Int := 1024 * 2 ^ rc
  if 2 * sig ≥ 63 * l then (31, true)
  else if 2 * sig < -65 * l then (-32, true)
  else ((2 * sig + l) / (2 * l), false)

/-- The four numbers a physical column gives in a pass: high code, low code, and whether either clipped. `dev` holds the
analogue deviations of the pass in 1/1,024 unit products, keyed by sub-phase × 1,024 + converter (R176: noise, drift). -/
def State.convCol (s : State) (A col : Nat) (hi lo : List (Nat × Int)) (dev : List (Nat × Int)) : Int × Int × Bool :=
  let rc := s.f (RANGE_CODE A col)
  let d (k : Nat) : Int := (sfind dev k).getD 0
  let h := convert (1024 * s.signal A col hi + d col) rc
  let l := convert (1024 * s.signal A col lo + d (1024 + col)) rc
  (h.1, l.1, h.2 || l.2)

/-- The recombination of a coarse and a fine column (R68). -/
def recombine (rcC rcF : Nat) (c f : Int × Int × Bool) : Int :=
  16 * 2 ^ rcC * c.1 + 4 * 2 ^ rcF * f.1 + 4 * 2 ^ rcC * c.2.1 + 2 ^ rcF * f.2.1

/-- The gain of R155: y = ⌊y_raw × G / 2^14⌉, ties away from zero. -/
def gained (g : Nat) (y : Int) : Int := divAway (y * g) 16384

/-- Batch slots a core degrades in the frame, by cause: 0 unrepaired lane, 1 unrepaired repeat, 2 no factors,
3 temperature (R177). The core's first mark of the frame counts it and sets the event. -/
def State.degradeMark (s : State) (c cause : Nat) (batch : List Nat) : State :=
  let first := s.degrade.all (fun d => d.1 ≠ c)
  let s := { s with degrade := s.degrade ++ (if batch.isEmpty then [(c, cause, 0xFFFF)] else batch.map (fun b => (c, cause, b))) }
  s.when first fun s => ((s.inc (COR_DEG_DEG_FRAMES c)).setf (COR_DEG_LAST_DEG c) s.frame).evt (COR_EVT_DEGRADED c)

/-- A region's array-die reading lies outside 40 to 85 °C (R169, R170; 0.25 °C units). -/
def State.tempOut (s : State) (r : Nat) : Bool :=
  match sfind s.arrTemp r with
  | none => false
  | some (sum, n) => decide (sum < 160 * n) || decide (sum > 340 * n)

/-! ### Shadow visits of the frame (R354 to R356, R366) -/

/-- The SHADOW slot of a core and its descriptor, if the combination in force has one. -/
def State.shadowSlot (s : State) (c : Nat) : Option (Nat × Nat) :=
  match s.sched with
  | none => none
  | some sc =>
    match (s.slotIdxs c).find? (fun i => slotClass (s.entry c i) == 7) with
    | none => none
    | some i => some (i, (sc.shadow.getD (slotDesc (s.entry c i)) 0).toNat)

/-- The package array a TILE_PASS slot of core `c` names (R30, R125). -/
def State.slotArr (s : State) (c i : Nat) : Nat := 32 * c + slotTarget (s.entry c i) % 32

/-- The core's visit sequence: each entry once, those of an OBSERVING array four times in succession (R356, R366). -/
def State.visitSeq (s : State) (c desc : Nat) : List (Word × Word) :=
  match s.img with
  | none => []
  | some im =>
    (((im.arrVisit.drop (bits desc 18 19)).take (bits desc 48 11)).map (fun v =>
      List.replicate (if s.observing 1 (s.slotArr c (bits v.1.toNat 48 16)) then 4 else 1) v)).flatten

/-- The array visits of the frame in core `c` (R356). -/
def State.visits (s : State) (c : Nat) : List (Word × Word) :=
  match s.shadowSlot c with
  | none => []
  | some (_, desc) =>
    let seq := s.visitSeq c desc
    let ways := bits desc 62 2 + 1
    if seq.isEmpty then []
    else (List.range ways).filterMap (fun w => seq[(s.jobFrame * ways + w) % seq.length]?)

/-! ### The pass -/

/-- Everything a pass is computed from. -/
structure PassIn where
  core  : Nat
  slot  : Nat
  tile  : Nat
  arr   : Nat
  desc  : Nat
  blks  : List Blk
  dev   : List (Nat × Int)

/-- Exponent of the pass's block-scale group: that of its first block that is not ZERO (R65). -/
def winExp (bs : List Blk) : Nat := ((bs.find? (fun b => b.flag != 1)).map Blk.e).getD 0

/-- Two blocks that are not ZERO differ in exponent (R65). -/
def isSplit (bs : List Blk) : Bool := bs.any (fun b => b.flag != 1 && b.e != winExp bs)

/-- The pass is a repeated pass (R65, R108). -/
def isRepeated (bs : List Blk) : Bool := isSplit bs || bs.any (fun b => decide (b.flag ≥ 2))

/-- Rows the pass drives and their input codes: rows of ZERO blocks are not driven (R64), nor outlier rows when the
factors are valid (R161, R163). -/
def State.driven (s : State) (A window : Nat) (bs : List Blk) : List (Nat × Int) :=
  let base := window * s.rowBudget A
  let out := if s.b (COR_ACFG_FACT_VALID A) then s.outRows A else []
  ((List.range bs.length).map (fun k =>
    let b := bs.getD k .zero
    if b.flag = 1 then [] else (List.range 32).map (fun i => (base + 32 * k + i, b.codes.getD i 0)))).flatten.filter
      (fun p => !out.contains p.1)

/-- The result of converting and recombining a pass: raw and gained values of the 256 logical columns and the 16
checksum weights, and which of them clipped. -/
structure PassOut where
  raw   : List Int
  y     : List Int
  clip  : List Bool
  craw  : List Int
  cy    : List Int
  cclip : List Bool

/-- Convert and recombine all columns of a pass (R66 to R69, R155). -/
def State.runPass (s : State) (A : Nat) (drive : List (Nat × Int)) (dev : List (Nat × Int)) : PassOut :=
  let hi := (drive.map (fun p => (p.1, highPart p.2))).filter (fun p => p.2 != 0)
  let lo := (drive.map (fun p => (p.1, lowPart p.2))).filter (fun p => p.2 != 0)
  let cols := (List.range 544).map (fun k => s.convCol A k hi lo dev)
  let rc (k : Nat) : Nat := s.f (RANGE_CODE A k)
  let col (k : Nat) := cols.getD k (0, 0, false)
  let one (k : Nat) : Int := recombine (rc k) (rc (k + 1)) (col k) (col (k + 1))
  let place (j : Nat) : Nat := 34 * (j / 16) + 2 * (j % 16)
  let g := s.f (COR_GAIN_G A)
  let raw := (List.range 256).map (fun j => one (place j))
  let craw := (List.range 16).map (fun k => one (34 * k + 32))
  let cl (k : Nat) : Bool := (col k).2.2 || (col (k + 1)).2.2
  ⟨raw, raw.map (gained g), (List.range 256).map (fun j => cl (place j)), craw, craw.map (gained g),
   (List.range 16).map (fun k => cl (34 * k + 32))⟩

/-- The checksum difference of a group (R70): y_chk − ⌊Σ y / 16⌉. -/
def chkDiff (o : PassOut) (g : Nat) : Int :=
  o.cy.getD g 0 - divAway (((List.range 16).map (fun j => o.y.getD (16 * g + j) 0)).sum) 16

/-- Update an array's tracker window. -/
def State.trk (s : State) (A : Nat) : TrkWin := (sfind s.trkWin A).getD {}
def State.setTrk (s : State) (A : Nat) (w : TrkWin) : State := { s with trkWin := sput s.trkWin A w }

/-- One group's checksum comparison (R70, R71, R362). -/
def State.chkGroup (s : State) (A : Nat) (o : PassOut) (g : Nat) : State :=
  if o.cclip.getD g false ∨ (List.range 16).any (fun j => o.clip.getD (16 * g + j) false) then s
  else
    let d := chkDiff o g
    let tol := s.f (ARR_TOL A g)
    let s := s.setTrk A { s.trk A with comp := (s.trk A).comp + 1 }
    if d.natAbs > tol then
      let s := s.setTrk A { s.trk A with mism := (s.trk A).mism + 1 }
      let old := s.f (ARR_CHKCNT A g)
      let s := (s.inc (ARR_CHKCNT A g)).inc (ARR_CNT_MISMATCH A)
      let s := s.when (decide (old < s.f (ARR_CFG_CHK_LIMIT A)) && decide (s.f (ARR_CFG_CHK_LIMIT A) ≤ old + 1) && decide (old < 255))
        (fun s => ((s.flag A 1 g 0).raiseFrom 0 0x01 1 A g 1 s.jobFrame).suspect 1 A)
      s.when (decide (d.natAbs > s.f CHK_CFG_CHK_GROSS * tol))
        (fun s => (s.raiseFrom 2 0x02 1 A ((d % 2 ^ 32).toNat * 2 ^ 32 + g) 1 s.jobFrame).suspect 1 A)
    else s

/-- A CAL slot covers the tile at the current pass (R77). -/
def State.calCovers (s : State) (c tile : Nat) : Bool :=
  (s.slotIdxs c).any (fun i =>
    let e := s.entry c i
    slotClass e == 6 && slotTarget e == tile && decide (slotStart e ≤ s.passNow) && decide (s.passNow < slotStart e + slotLen e))

/-- Rotation position p of the frame (R76). -/
def State.rot (s : State) : Nat := s.frame % 35

/-- One sample of a pairing: partner and spare code of one sub-phase, dropped when either clipped (R77). -/
def addSample (m : CalSum) (p sp : Int × Bool) : CalSum :=
  if p.2 ∨ sp.2 then m else ⟨m.n + 1, m.sp + p.1, m.ss + sp.1, m.qp + p.1 * p.1, m.qs + sp.1 * sp.1⟩

/-- The calibration samples of a pass: each enabled group's spare converts its partner's column in both sub-phases at the
partner's range code (R76, R77, R81). Keys are 16 × tile + group. -/
def State.calSample (s : State) (T A : Nat) (drive : List (Nat × Int)) (dev : List (Nat × Int)) : State :=
  let hi := drive.map (fun p => (p.1, highPart p.2))
  let lo := drive.map (fun p => (p.1, lowPart p.2))
  (List.range 16).foldl (fun s g =>
    if bits (s.f (CNV_CAL_CAL_EN T)) g 1 = 1 ∧ ¬ s.b (CNV_SUBST_EN T g) ∧ s.rot < 34 then
      let k := 34 * g + s.rot
      let rc := s.f (RANGE_CODE A k)
      let d (x : Nat) : Int := (sfind dev x).getD 0
      let sh := 1024 * s.signal A k hi
      let sl := 1024 * s.signal A k lo
      let m := (sfind s.calSum (16 * T + g)).getD ⟨0, 0, 0, 0, 0⟩
      let m := addSample m (convert (sh + d k) rc) (convert (sh + d (544 + g)) rc)
      let m := addSample m (convert (sl + d (1024 + k)) rc) (convert (sl + d (1568 + g)) rc)
      { s with calSum := sput s.calSum (16 * T + g) m }
    else s) s

/-- A pass that keeps its analogue result is what R163 and R170 count: no factors, and temperature out of envelope. -/
def State.passMarks (s : State) (c A : Nat) (batch : List Nat) : State :=
  let s := s.when (!s.b (COR_ACFG_FACT_VALID A)) (fun s =>
    ((s.degradeMark c 2 batch).setf (COR_EVT_LAST_ARRAY c) (A % 32)).evt (COR_EVT_NO_FACTORS c))
  s.when (s.tempOut (A / 1024)) (fun s =>
    ((s.degradeMark c 3 batch).setf (COR_EVT_LAST_ARRAY c) (A % 32)).evt (COR_EVT_TEMP_OUT c))

/-- A pass whose array is driven, after its packets have been taken (R64 to R71, R77, R108, R118, R127, R130, R164, R358). -/
def State.passBody (s : State) (p : PassIn) : State :=
  let g := bits p.desc 24 4
  let A := p.arr
  let T := p.tile
  let s := s.when (bits p.desc 23 1 == 1) (·.setf (ACC_STAT_TAG_VALID T g) 0)
  if p.blks.all (fun b => b.flag == 1) then s
  else
    let drive := s.driven A (bits p.desc 16 3) p.blks
    let o := s.runPass A drive p.dev
    let e : Int := winExp p.blks
    let nt := s.note p.core p.slot
    let visited := (s.visits p.core).any (fun v => bits v.1.toNat 48 16 == p.slot)
    let rep := isRepeated p.blks
    let cap : Capture := ⟨T, p.slot, A, o.y, o.raw, o.clip, drive, !rep⟩
    let s := s.when (visited && decide ((s.capture.filter (fun (x : Capture) => x.tile == T)).length < 8))
      (fun s => { s with capture := s.capture ++ [cap] })
    if rep then
      let s := s.when (isSplit p.blks) (·.evt (ARR_EVT_SCALE_SPLIT A))
      let s := s.inc (ARR_CNT_REPEATED A)
      { s with held := s.held ++ [⟨T, p.slot, A, g, o.y, e, isSplit p.blks, p.desc, slotStart (s.entry p.core p.slot)⟩] }
    else
      let s := s.when (s.b (ARR_CFG_CHK_EN A)) (fun s => (List.range 16).foldl (fun s k => s.chkGroup A o k) s)
      let s := s.when (s.calCovers p.core (T % 8)) (·.calSample T A drive p.dev)
      let s := s.when (o.clip.any id) (fun s =>
        { s with satRec := s.satRec ++ [⟨T, p.slot, A, g, e,
            ((List.range 256).filter (fun j => o.clip.getD j false)).map (fun j => (j, o.y.getD j 0)), drive, bits p.desc 48 16,
            slotStart (s.entry p.core p.slot)⟩] })
      (s.merge T g o.y e).passMarks p.core A nt.batch

/-- Passes at which a tile's TILE_PASS slots start after pass `p` (R34). -/
def State.tileStarts (s : State) (core tile p : Nat) : List Nat :=
  (s.slotIdxs core).filterMap (fun i =>
    let e := s.entry core i
    if slotClass e = 1 ∧ slotTarget e / 4 % 8 = tile ∧ p < slotStart e then some (slotStart e) else none)

/-- After a tile pass that ends with pass `last`, the bank stays powered only when the next tile pass comes before 16 idle
passes have gone by (R34). -/
def State.bankAfter (s : State) (core tile last : Nat) : State :=
  s.setf (CNV_STAT_POWERED (8 * core + tile)) (if (s.tileStarts core tile last).any (fun p => decide (p ≤ last + 16)) then 1 else 0)

/-- The package tile of a TILE_PASS slot. -/
def State.passTile (s : State) (core slot : Nat) : Nat := 8 * core + slotTarget (s.entry core slot) / 4 % 8

/-- The tile descriptor of a TILE_PASS slot (R126). -/
def State.passDesc (s : State) (core slot : Nat) : Nat := ((s.sched.map (fun sc => (sc.tile.getD (slotDesc (s.entry core slot)) 0).toNat))).getD 0

/-- What a tile pass does before anything is read: its slot has run, and the bank's power until the next pass is known (R34). -/
def State.passHead (s : State) (core slot : Nat) : State :=
  let e := s.entry core slot
  let s : State := { s.mark core slot with lastPass := sput s.lastPass (s.passTile core slot) s.passNow }
  s.bankAfter core (slotTarget e / 4 % 8) (slotStart e + slotLen e - 1)

/-- The packets of a pass over array `A` (R62, R126). -/
def State.passPkts (s : State) (core A desc : Nat) (errs : List WordErr) : State × List Blk :=
  s.takePkts core (bits desc 45 3) false errs (s.rowBudget A / 128) (8 * bits desc 28 17)

/-- TILE_PASS (R66): slot `slot` of core `core` runs; `dev` are the pass's analogue deviations and `errs` the bit errors
met in the packets it reads. -/
def execTilePass (t core slot : Nat) (dev : List (Nat × Int)) (errs : List WordErr) (s : State) :
    Host.Outcome State Fault Refusal :=
  let s := s.at t
  if s.slotDue core slot 1 then
    let tile := s.passTile core slot
    let A := s.slotArr core slot
    let desc := s.passDesc core slot
    let s := s.passHead core slot
    let st := s.f (ARR_STATE_STATE A)
    if st = 0 ∨ st = 1 ∨ st = 4 then
      let s := s.when (bits desc 23 1 == 1) (·.setf (ACC_STAT_TAG_VALID tile (bits desc 24 4)) 0)
      .next ((s.evt (ARR_EVT_NOT_READY A)).raise 2 0x08 1 A 0)
    else
      let r := s.passPkts core A desc errs
      .next (r.1.passBody ⟨core, slot, tile, A, desc, r.2, dev⟩)
  else .next s

end Sys2Proof.Machine
end

