-- ==== Sys2Proof/Machine/Link.lean ====
section
/-! DEFINITION. Ports, flits and the link layer: R300 to R311, R324, R329, R348, R526. -/

namespace Sys2Proof.Machine

/-! ### Payload layouts -/

/-- `n` zero bytes. -/
def zeros (n : Nat) : List Nat := List.replicate n 0
/-- Bytes padded with zeros to a length. -/
def padTo (n : Nat) (bs : List Nat) : List Nat := bs ++ zeros (n - bs.length)
/-- A bit as a number. -/
def bit (b : Bool) : Nat := if b then 1 else 0

/-- A vote record (R324). -/
def voteBytes (v : Vote) : List Nat :=
  [v.req, v.state, 0, 0] ++ leBytes 4 v.id ++ leBytes 8 v.target ++ leBytes 16 v.digest ++ leBytes 4 v.count ++ zeros 4

/-- A Quadrille message's 224 bytes (R324). -/
def qmsgBytes (m : Qmsg) : List Nat :=
  let fl := bit m.skip + 2 * bit m.part + 4 * bit m.many + 8 * bit m.supp + 16 * bit m.bcast + 32 * bit m.join
  let miss := (m.missing.take 4 ++ zeros 4).take 4
  [m.kind, fl, m.level, min m.missing.length 4] ++ leBytes 4 m.jobId ++ leBytes 8 m.frame ++ leBytes 4 m.arrived ++
  (miss.map (leBytes 4)).flatten ++ leBytes 4 m.member ++ leBytes 8 m.aux ++ leBytes 4 m.cause ++ leBytes 4 m.unit ++
  leBytes 8 m.detail ++ padTo 160 (((m.votes.take 4).map voteBytes).flatten)

/-- `n` little-endian bytes at `o` of a payload. -/
def pNum (p : List Nat) (o n : Nat) : Nat := leNat ((p.drop o).take n)

/-- The Quadrille message a payload spells (R324). -/
def qmsgOf (p : List Nat) : Qmsg :=
  let fl := pNum p 1 1
  let vote (v : Nat) : Vote :=
    let o := 64 + 40 * v
    ⟨pNum p o 1, pNum p (o + 1) 1, pNum p (o + 4) 4, pNum p (o + 8) 8, pNum p (o + 32) 4, 0⟩
  { kind := pNum p 0 1, skip := bits fl 0 1 == 1, part := bits fl 1 1 == 1, many := bits fl 2 1 == 1, supp := bits fl 3 1 == 1,
    bcast := bits fl 4 1 == 1, join := bits fl 5 1 == 1, level := pNum p 2 1 % 16,
    missing := (List.range (min 4 (pNum p 3 1))).map (fun i => pNum p (20 + 4 * i) 4), jobId := pNum p 4 4, frame := pNum p 8 8,
    arrived := pNum p 16 4, member := pNum p 36 4, aux := pNum p 40 8, cause := pNum p 48 4, unit := pNum p 52 4,
    detail := pNum p 56 8,
    votes := ((List.range 4).map (fun v => { vote v with digest := pNum p (64 + 40 * v + 16) 16, count := pNum p (64 + 40 * v + 32) 4 })).filter
      (fun v => v.req != 0) }

/-- A pooled-memory message's payload (R348). -/
def poolBytes (m : Pool) : List Nat :=
  [m.op, m.status, m.lines, 0] ++ leBytes 4 m.tag ++ leBytes 8 m.gaddr ++ leBytes 4 m.src ++ zeros 12 ++ padTo 192 m.data

/-- The pooled-memory message a payload spells (R348). -/
def poolOf (p : List Nat) : Pool :=
  ⟨pNum p 0 1, pNum p 1 1, pNum p 2 1, pNum p 4 4, pNum p 8 8, pNum p 16 4 % 2 ^ 20, (p.drop 32).take (64 * min 3 (pNum p 2 1))⟩

/-- The bytes a flit's CRC covers: 0 to 251 (R304). -/
def flitBody (f : Flit) : List Nat :=
  [f.typ, f.words] ++ leBytes 2 f.epoch ++ leBytes 4 f.seq ++
  leBytes 8 (f.buffer * 2 ^ 40 + f.dst * 2 ^ 20 + f.word) ++ (padTo 224 f.payload).take 224 ++ leBytes 4 f.ack ++ leBytes 4 f.nak ++
  leBytes 4 f.frame

/-- A flit with its CRC (R304). -/
def sealFlit (f : Flit) : Flit := { f with crc := crc32 (flitBody f) }

/-! ### Ports -/

/-- What a port remembers. -/
def State.prt (s : State) (p : Nat) : PortSt := (sfind s.ports p).getD {}
/-- Replace it. -/
def State.setPrt (s : State) (p : Nat) (x : PortSt) : State := { s with ports := sput s.ports p x }

/-- The port carries flits: UP, or a spare in service (R333). -/
def State.portUp (s : State) (p : Nat) : Bool := s.f (FAB_PSTAT_STATE p) == 3 || s.f (FAB_PSTAT_STATE p) == 6

/-- The spare standing in for a port, or the port itself (R303); a spare that a cable lights cannot (R522). -/
def State.onPort (s : State) (p : Nat) : Nat :=
  if p < 64 ∧ s.b (FAB_SPARE_EN (p % 8)) ∧ s.f (FAB_SPARE_POS (p % 8)) = p / 8 ∧ s.f (FAB_PSTAT_STATE (64 + p % 8)) ≠ 3 then 64 + p % 8
  else p

/-- The port a spare stands in for. -/
def State.stoodFor (s : State) (p : Nat) : Nat := if p < 64 then p else p % 8 + 8 * s.f (FAB_SPARE_POS (p - 64))

/-- An event of FAB_EVT at a port (R333). -/
def State.fabEvt (s : State) (F : Fld) (p : Nat) : State := ((s.setf FAB_LAST_CAUSE F.lo).setf FAB_LAST_PORT p).evt F

/-- Ports the slots of the combination in force name (R30, R329, R526). -/
def State.slotPorts (s : State) : List Nat :=
  match s.sched, s.img with
  | some sc, some im =>
    ((sc.slots.map (fun p => (s.slotIdxs p.1).map (fun i => (p.1, i)))).flatten.filterMap (fun ci =>
      let e := s.entry ci.1 ci.2
      if slotClass e = 4 ∨ (slotClass e = 9 ∧ slotTarget e < 72) then some (slotTarget e)
      else if slotClass e = 5 then (im.bufs[slotDesc e]?).map RxBuf.port
      else none)).eraseDups
  | _, _ => []

/-- A port is in use (R329): the combination in force or the Quadrille tree names it. -/
def State.portInUse (s : State) (p : Nat) : Bool :=
  s.active && (let q := s.stoodFor p
    s.f QDR_TREE_PARENT == q || s.qdr.kids.any (fun k => k.1 == q) || s.slotPorts.contains q)

/-- IN_USE of every port follows the combination and the tree (R329, R333). -/
def State.refreshUse (s : State) : State :=
  (List.range 72).foldl (fun s p =>
    s.setf (FAB_PSTAT_IN_USE p) (bit ((p < 64 || s.b (FAB_SPARE_EN (p - 64))) && s.portInUse p))) s

/-- The port names itself by the fibre it holds: a spare in service by the port it stands in for. -/
def State.portName (s : State) (p : Nat) : Nat := if s.f (FAB_PSTAT_STATE p) = 6 then s.stoodFor p else p

/-! ### Promenade (R326 to R328) -/

/-- A neighbour: KIND, ID and port. -/
abbrev Nbr := Nat × Nat × Nat

/-- The neighbour a port sees; KIND 0 for none. -/
def State.sees (s : State) (p : Nat) : Nbr := (s.f (FAB_PNBR_KIND p), s.f (FAB_PNBR_ID p), s.f (FAB_PNBR_PORT p))

/-- The neighbour the plan expects on a port's fibre (R303, R326). -/
def State.expects (s : State) (p : Nat) : Nbr :=
  let e := s.plan.getD (s.portName p) 0
  (bits e 62 2, bits e 32 20, bits e 0 16)

/-- The port that `p` is swapped with (R327). -/
def State.swapped (s : State) (p : Nat) : Option Nat :=
  (List.range 72).find? (fun q => q != p && s.portUp p && s.portUp q && (s.sees p).1 != 0 && (s.sees q).1 != 0 &&
    s.sees p == s.expects q && s.sees q == s.expects p)

/-- The report of a port (R327, R328): 0 PENDING, 1 MATCH, 2 MISMATCH, 3 SWAPPED, 4 DARK, 6 NO_PLAN. -/
def State.verdictOf (s : State) (p : Nat) : Nat :=
  match s.planAt with
  | none => 6
  | some a =>
    if ¬ s.portUp p then
      (if (s.expects p).1 = 0 then 1
       else if s.f (FAB_PSTAT_REPORT p) = 0 ∧ s.now < a + 2000000000 then 0
       else 4)
    else if (s.sees p).1 = 0 then 0
    else if (s.swapped p).isSome then 3
    else if s.sees p = s.expects p then 1
    else 2

/-- Every port is judged again (R327, R328); changes set REPORT. Promenade does not run while PKG_ID is unassigned. -/
def State.rejudge (s : State) : State :=
  if s.f FAB_ID_PKG_ID = 0xFFFFF then s
  else
    let rs := (List.range 72).map (fun p => (p, s.verdictOf p, (s.swapped p).getD 0))
    rs.foldl (fun s x =>
      if s.f (FAB_PSTAT_REPORT x.1) = x.2.1 ∧ s.f (FAB_PSTAT_PARTNER x.1) = (if x.2.1 = 3 then x.2.2 else 0) then s
      else
        ((s.setf (FAB_PSTAT_REPORT x.1) x.2.1).setf (FAB_PSTAT_PARTNER x.1) (if x.2.1 = 3 then x.2.2 else 0)).fabEvt FAB_EVT_REPORT x.1) s

/-! ### Sending (R305 to R307) -/

/-- The link fails (R306): FAILED, counted, LINK_FAIL raised, and the ports judged again (R328). -/
def State.linkFail (s : State) (p : Nat) : State :=
  let s := ((s.setf (FAB_PSTAT_STATE p) 4).inc (FAB_PERR_LINK_FAILS p)).fabEvt FAB_EVT_LINK_FAIL p
  (s.raise (if s.portInUse p then 2 else 0) 0x19 7 p 0).rejudge

/-- A flit with the port's EPOCH, SEQ, ACK, NAK, FRAME and CRC (R304, R305). -/
def State.dress (s : State) (p : Nat) (f : Flit) : Flit :=
  let x := s.prt p
  sealFlit { f with epoch := s.f (FAB_PSTAT_EPOCH p), seq := x.nextSeq, ack := (x.expSeq + 2 ^ 32 - 1) % 2 ^ 32,
                    nak := x.nak.getD 0xFFFFFFFF, frame := s.jobFrame % 2 ^ 32 }

/-- When an unacknowledged flit's deadline passes (R306). -/
def State.deadline (s : State) (p : Nat) : Nat := s.now + s.f (FAB_PSTAT_RTT_NS p) + s.f FAB_CFG_LINK_TIMER

/-- Flits of a port in its replay store. -/
def State.txOf (s : State) (p : Nat) : List TxFlit := s.tx.filter (fun (x : TxFlit) => x.port == p)

/-- R314 keeps a flit off a port: this package has no image and the port's far end is in a job, where only a join's QDR flits go. -/
def State.barred (s : State) (p : Nat) (f : Flit) : Bool := !s.active && (s.prt p).farJob != 0 && f.typ != 3

/-- Send a sequenced flit on a port (R305 to R307): a full replay store fails the link; a port not UP, draining, or kept free by R314
sends nothing new (R330, R332). -/
def State.sendSeq (s : State) (port : Nat) (f : Flit) (c : Option CtrlMsg) : State :=
  let p := s.onPort port
  if s.portUp p ∧ ¬ s.b (FAB_PCTL_DRAINING p) ∧ ¬ s.barred p f then
    if 4096 ≤ (s.txOf p).length then s.linkFail p
    else
      let g := s.dress p f
      let x := s.prt p
      let s := s.setPrt p { x with nextSeq := (x.nextSeq + 1) % 2 ^ 32, nak := none }
      { s with tx := s.tx ++ [⟨p, g, 1, s.deadline p, c⟩],
               out := s.out ++ [match c with | some m => .ctrl p f.dst m | none => .flit p g] }
  else s

/-- Send a Quadrille message (R315, R324). -/
def State.sendQdr (s : State) (port : Nat) (m : Qmsg) : State :=
  if port < 72 then s.sendSeq port { typ := 3, payload := qmsgBytes m } none else s

/-- Transmit a flit again, or fail the link at the fourth failure (R306). -/
def State.again (s : State) (x : TxFlit) : State :=
  if 4 ≤ x.tries then s.linkFail x.port
  else
    let y : TxFlit := { x with tries := x.tries + 1, due := s.deadline x.port }
    { (s.inc (FAB_PCNT_RETRANS x.port)) with
      tx := s.tx.map (fun (z : TxFlit) => if z = x then y else z),
      out := s.out ++ [match x.ctrl with | some m => .ctrl x.port x.flit.dst m | none => .flit x.port x.flit] }

/-- `a` is at or before `b` in SEQ order. -/
def seqLe (a b : Nat) : Bool := decide ((b + 2 ^ 32 - a) % 2 ^ 32 < 2 ^ 31)

/-- ACK and NAK of a received flit (R305, R306). -/
def State.takeAck (s : State) (p ack nak : Nat) : State :=
  let s : State := { s with tx := s.tx.filter (fun (x : TxFlit) => x.port ≠ p || !seqLe x.flit.seq ack) }
  match s.tx.find? (fun (x : TxFlit) => x.port == p && nak != 0xFFFFFFFF && x.flit.seq == nak) with
  | some x => s.again x
  | none => s

/-- A flit discarded and counted as STALE (R309). -/
def State.stale (s : State) (p : Nat) : State := (s.inc (FAB_PCNT_STALE p)).fabEvt FAB_EVT_STALE p

/-- The port hears a flit: it is UP, or it is an idle spare and the flit a beacon (R325). -/
def State.hears (s : State) (p : Nat) (f : Flit) : Bool := s.portUp p || (f.typ % 16 == 4 && s.f (FAB_PSTAT_STATE p) == 5)

/-- A received flit passes the link layer (R305, R309): CRC, epoch and type, and for sequenced types the SEQ order; `full` when it
would find no room. -/
def State.rx (s : State) (p : Nat) (f : Flit) (seqd full : Bool) : State × Bool :=
  if ¬ s.hears p f then (s, false)
  else if f.crc ≠ crc32 (flitBody f) then
    (s.setPrt p { s.prt p with nak := some (s.prt p).expSeq }, false)
  else if (s.prt p).farEp ≠ some f.epoch ∨ 7 ≤ f.typ % 16 then (s.stale p, false)
  else
    let s := s.takeAck p f.ack f.nak
    let x := s.prt p
    if ¬ seqd then (s, true)
    else if f.seq = x.expSeq then
      (if full then (s.setPrt p { x with nak := some f.seq }, false)
       else (s.setPrt p { x with expSeq := (x.expSeq + 1) % 2 ^ 32, nak := none }, true))
    else if seqLe f.seq x.expSeq then (s, false)
    else (s.setPrt p { x with nak := some x.expSeq }, false)

/-- What the code of a codeword carrying a flit reports (R305, R333): corrected symbols, counted and judged against
FEC_THR; none for an uncorrectable codeword, which makes the flit a bad one. -/
def State.fec (s : State) (p : Nat) (c : Option Nat) : State :=
  match c with
  | none => (s.inc (FAB_PERR_UNCORR p)).setPrt p { s.prt p with nak := some (s.prt p).expSeq }
  | some n =>
    let x := s.prt p
    let s := (s.add (FAB_PERR_CORR_SYM p) n).setPrt p { x with fec := x.fec + n }
    s.when (decide (s.f FAB_CFG_FEC_THR < x.fec + n)) (·.fabEvt FAB_EVT_FEC_MARGIN p)

/-- A received flit of a sequenced type that stores nothing at the port. -/
def State.rxMsg (s : State) (p : Nat) (f : Flit) (typ : Nat) (k : State → State) : State :=
  if f.typ % 16 = typ then (let r := s.rx p f true false
    if r.2 then k r.1 else r.1) else s

/-! ### Relays (R314) -/

/-- The port to a slot of this package's rack (R312). -/
def State.rackPort (s : State) (d : Nat) : Nat := (d % 32 + 32 - s.f FAB_ID_PKG_ID % 32) % 32 - 1

/-- A flit for another slot of this rack, which a package without an image relays where its own port to that slot is UP; one
without a package number relays nothing (R476). -/
def State.relays (s : State) (f : Flit) : Bool :=
  !s.active && s.f FAB_ID_PKG_ID != 0xFFFFF && f.dst != s.f FAB_ID_PKG_ID && f.dst / 32 == s.f FAB_ID_PKG_ID / 32 && s.portUp (s.onPort (s.rackPort f.dst))

/-- Relay it, with what the next link adds. -/
def State.relay (s : State) (f : Flit) (c : Option CtrlMsg) : State := s.sendSeq (s.rackPort f.dst) f c

/-! ### Receive buffers (R311) -/

/-- Fill count of a buffer for the current job frame. -/
def State.fillOf (s : State) (b : Nat) : Nat := (sfind s.fill b).getD 0

/-- The receive buffer `b`. -/
def State.rxBuf (s : State) (b : Nat) : Option RxBuf := s.img.bind (fun im => im.bufs[b]?)

/-- One staged flit moves into its buffer and its fill count (R311). -/
def State.moveFlit (s : State) (x : Nat × Flit) : State :=
  match s.rxBuf x.2.buffer with
  | none => { s with staged := s.staged.filter (fun y => y ≠ x) }
  | some b =>
    let n := 8 * x.2.words
    let s : State := { s with staged := s.staged.filter (fun y => y ≠ x) }
    let s := s.writeSpd b.core 0 (8 * (b.word + x.2.word)) (x.2.payload.take n)
    if x.2.frame = s.jobFrame % 2 ^ 32 then { s with fill := sput s.fill x.2.buffer (s.fillOf x.2.buffer + n) }
    else { s with fillNext := sput s.fillNext x.2.buffer ((sfind s.fillNext x.2.buffer).getD 0 + n) }

/-- The staged payload of a buffer moves into it (R311, R36). -/
def State.moveStaged (s : State) (b : Nat) : State :=
  (s.staged.filter (fun x => x.2.buffer = b)).foldl State.moveFlit s

/-- FAB_RECV (R311): a FAB_RECV slot moves its buffer's staged payload in. -/
def execFabRecv (t core slot : Nat) (s : State) : Host.Outcome State Fault Refusal :=
  let s := s.at t
  if s.slotDue core slot 5 then
    let e := s.entry core slot
    let r := s.moveStaged (slotDesc e)
    .next (if s.passNow + 1 = slotStart e + slotLen e then r.mark core slot else r)
  else .next s

/-- Send `bs` as DATA flits from word `w` of a buffer (R304, R310). -/
def State.sendData (s : State) (p buf dst : Nat) : Nat → Nat → List Nat → State
  | 0, _, _ => s
  | n + 1, w, bs =>
    if bs.isEmpty then s
    else
      let c := bs.take 224
      (s.sendSeq p { typ := 1, words := c.length / 8, buffer := buf, dst := dst, word := w, payload := c } none).sendData p buf dst n
        (w + 28) (bs.drop 224)

/-- Send one serving, mirror or Larkspur message on a port (R526). -/
def State.sendCtrl (s : State) (p dst : Nat) (m : CtrlMsg) : State := s.sendSeq p { typ := 5, dst := dst } (some m)

/-- Messages of the queue a slot sends leave it. -/
def State.flush (s : State) (p : Nat) (sel : Nat × CtrlMsg → Bool) : State :=
  (s.ctrlQ.filter sel).foldl (fun s m => s.sendCtrl p m.1 m.2) { s with ctrlQ := s.ctrlQ.filter (fun m => !sel m) }

/-- Queue a message for every other member that is not lost (R210). -/
def State.toAll (s : State) (m : CtrlMsg) : State :=
  match s.img with
  | none => s
  | some im =>
    let ms := (List.range im.topo.members.length).filter (fun i => i != im.topo.self && !s.qdr.gone.contains i)
    { s with ctrlQ := s.ctrlQ ++ ms.filterMap (fun i => (im.topo.members[i]?).map (fun (x : Member) => (x.pkg, m))) }

/-- Package `d` is reached on port `p`: a plane delivers anywhere (R313); a direct fibre ends at its neighbour (R312, R325). -/
def State.reaches (s : State) (p d : Nat) : Bool :=
  decide (32 ≤ s.stoodFor p) || (s.f (FAB_PNBR_KIND p) == 1 && s.f (FAB_PNBR_ID p) == d)

/-- A mirror write of a latent entry (R196). -/
def isLatent : CtrlMsg → Bool
  | .latent _ _ _ => true
  | _ => false

/-- FAB_SEND (R310): the slot sends its scratchpad range; mirror writes for the same package go with it (R196). `errs`
are bit errors met in the words read. -/
def execFabSend (t core slot : Nat) (errs : List WordErr) (s : State) : Host.Outcome State Fault Refusal :=
  let s := s.at t
  if s.slotDue core slot 4 then
    let e := s.entry core slot
    match s.img.bind (fun im => im.sends[slotDesc e]?) with
    | none => .next (s.mark core slot)
    | some (w0, w1) =>
      let a := w0.toNat
      let b := w1.toNat
      let dst := bits b 20 20
      let r := (s.mark core slot).readSpd core (bits a 61 3) (8 * bits a 44 17) (bits a 23 21) errs
      let s := r.s.sendData (slotTarget e) (bits b 40 24) dst (bits a 23 21) (bits b 0 17) r.bs
      .next (s.flush (slotTarget e) (fun m => m.1 == dst && isLatent m.2))
  else .next s

/-- DATA_FLIT (R309, R311): a received DATA flit is staged, discarded as STALE or FRAME_SKEW, misrouted, or finds the
staging store full. -/
def execDataFlit (t port : Nat) (f : Flit) (fec : Option Nat) (s : State) : Host.Outcome State Fault Refusal :=
  let s := (s.at t).fec port fec
  if fec.isNone then .next s
  else if f.typ % 16 = 1 then
    let full := decide (512 ≤ (s.staged.filter (fun x => x.1 = port)).length)
    let ok := s.rx port f true full
    if full ∧ f.crc = crc32 (flitBody f) ∧ (s.prt port).farEp = some f.epoch ∧ f.seq = (s.prt port).expSeq ∧ s.portUp port then
      .next ((ok.1.inc (FAB_PCNT_STAGE_FULL port)).fabEvt FAB_EVT_STAGE_FULL port)
    else if ok.2 then
      let s : State := ok.1
      let d : Nat := (f.frame + 2 ^ 32 - s.jobFrame % 2 ^ 32) % 2 ^ 32
      if 2 ^ 31 ≤ d then .next (s.stale port)
      else if 1 < d then .next ((s.fabEvt FAB_EVT_FRAME_SKEW port).raise 2 0x1C 7 port f.frame)
      else if f.dst ≠ s.f FAB_ID_PKG_ID then .next ((s.fabEvt FAB_EVT_MISROUTE port).raise 2 0x1D 7 port f.dst)
      else .next { s with staged := s.staged ++ [(port, f)] }
    else .next ok.1
  else if 7 ≤ f.typ % 16 then .next (s.rx port f false false).1
  else .next s

/-- ACK_FLIT (R305, R306). -/
def execAckFlit (t port : Nat) (f : Flit) (fec : Option Nat) (s : State) : Host.Outcome State Fault Refusal :=
  let s := (s.at t).fec port fec
  if fec.isNone then .next s
  else if f.typ % 16 = 2 ∨ f.typ % 16 = 0 then .next (s.rx port f false false).1 else .next s

/-- LINK_TIMER_EXPIRE (R306): the lowest SEQ of the port whose deadline has passed is sent again. -/
def execLinkTimerExpire (t port : Nat) (s : State) : Host.Outcome State Fault Refusal :=
  let s := s.at t
  if s.portUp port then
    match (s.txOf port).find? (fun (x : TxFlit) => decide (x.due ≤ s.now)) with
    | some x => .next (s.again x)
    | none => .next s
  else .next s

end Sys2Proof.Machine
end

