-- ==== Sys2Proof/Machine/Ranges.lean ====
section
/-! DEFINITION. The value ranges of the register fields: a write outside them is answered RANGE (R42, R55; each limit
from its register's table). -/

namespace Sys2Proof.Machine

/-- Tier F channel `c`'s capacity in bytes (R340, R352). -/
def State.chanSize (s : State) (c : Nat) : Nat :=
  match s.f (MEM_FCH_SIZE c) with
  | 1 => 32 * 2 ^ 30 | 2 => 64 * 2 ^ 30 | 3 => 128 * 2 ^ 30 | _ => 0

/-- Channel `c` is populated: not ABSENT (R352). -/
def State.populated (s : State) (c : Nat) : Bool := s.f (MEM_FCH_STATE c) != 4

/-- INTERLEAVE is valid: 1, 2, 4, 8 or 16 populated channels of one capacity (R340). -/
def State.interleaveOk (s : State) : Bool :=
  let ps := (List.range 16).filter s.populated
  [1, 2, 4, 8, 16].contains ps.length && ps.all (fun c => s.chanSize c == s.chanSize (ps.headD 0))

/-- Ranges of the PAV, TXN, IMG, CHK and SYS registers (R54, R277, R278, R381, R509). -/
def State.rangeHub (s : State) (a v : Nat) : Bool :=
  if a = 0x100000 then
    let n := bits v 0 14
    let w := bits v 16 14
    n % 16 == 0 && decide (256 ≤ n) && decide (n ≤ 8192) && w % 16 == 0 && decide (16 ≤ w) && decide (w + 16 ≤ n)
  else if a = 0x100020 then
    match s.active, s.img with
    | true, some im => decide (bits v 0 12 < im.scheds.length)
    | _, _ => bits v 0 12 == 0
  else if 0x100028 ≤ a ∧ a < 0x100068 then
    match s.active, s.img with
    | true, some im => decide (bits v 0 10 < im.patches.length) || (bits v 63 1 == 0 && bits v 0 10 == 0)
    | _, _ => bits v 63 1 == 0
  else if a = 0x100070 then decide (bits v 0 3 < 5)
  else if a = 0x100080 then decide (1 ≤ bits v 0 16)
  else if 0x100100 ≤ a ∧ a < 0x100280 then decide (bits v 0 4 ≤ 4)
  else if a = 0x200000 then decide (2 ≤ bits v 0 16)
  else if a = 0x300010 then bits v 0 2 != 3
  else if a = 0x300020 then bits v 0 1 == 0 || s.f IMG_STATE_STATE == 5
  else if a = 0x900000 then
    decide (8 ≤ bits v 56 8) && decide (bits v 48 8 < bits v 56 8) && decide (1 ≤ bits v 44 4) && decide (1 ≤ bits v 32 8) &&
      decide (2 ≤ bits v 28 4) && decide (1 ≤ bits v 24 4)
  else if a = 0x900008 then decide (1 ≤ bits v 32 32) && decide (16 ≤ bits v 0 16)
  else if a = 0x900010 then bits v 0 6 == 0
  else if a = 0x900018 then bits v 0 5 == 0 || (decide (8 ≤ bits v 0 5) && decide (bits v 0 5 ≤ 20))
  else if a = 0x900028 then
    let tl := s.f CHK_LOGTAIL_TAIL
    decide ((bits v 0 32 + 2 ^ 32 - tl) % 2 ^ 32 ≤ (s.f CHK_LOGHEAD_HEAD + 2 ^ 32 - tl) % 2 ^ 32)
  else if a = 0x900068 then decide (1 ≤ bits v 48 10) && bits v 0 12 == 0
  else if 0x100 ≤ a ∧ a < 0x180 then decide (bits v 61 2 ≤ 1)
  else true

/-- Ranges of the registers in a core window, by their offset in it (R90, R154, R180). -/
def rangeCore (rel v : Nat) : Bool :=
  if rel < 0x1000 then
    if rel % 0x80 = 0 then decide (1 ≤ bits v 16 8)
    else if rel % 0x80 = 0x18 then bits v 0 6 == 0
    else true
  else if rel < 0x1800 then
    if rel % 0x100 = 0x08 ∨ rel % 0x100 = 0x10 then (List.range 8).all (fun m => decide (bits v (8 * m) 6 ≤ 33))
    else if rel % 0x100 = 0x28 then decide (bits v 0 10 ≤ 559)
    else true
  else if 0x2000 ≤ rel ∧ rel < 0x2800 ∧ rel % 0x100 = 8 then bits v 23 8 != 255
  else if rel = 0x4000 then decide (bits v 0 2 ≤ 1)
  else if rel = 0x4008 then bits v 0 3 == 0
  else if rel = 0x5010 then decide (1 ≤ bits v 0 16)
  else if 0x5100 ≤ rel ∧ rel < 0x5900 then
    let o := rel % 0x40
    if o = 0 then decide (1 ≤ bits v 16 16) && decide (bits v 16 16 ≤ 250)
    else if o = 8 then bits v 0 6 == 0
    else if o = 0x10 then decide (0x2000 ≤ bits v 0 16)
    else if o = 0x18 then bits v 0 5 == 0
    else if o = 0x20 then decide (4 ≤ bits v 24 8) && decide (bits v 24 8 ≤ 64)
    else true
  else true

/-- Ranges of the memory registers (R340, R352). -/
def State.rangeMem (s : State) (a v : Nat) : Bool :=
  if a = 0x800000 then decide (1 ≤ bits v 8 8) && decide (bits v 8 8 ≤ 168)
  else if a = 0x800008 then bits v 0 1 == 0 || s.interleaveOk
  else if 0x800300 ≤ a ∧ a < 0x800400 then
    if a % 0x20 = 0 then bits v 0 6 == 0
    else if a % 0x20 = 8 then bits v 0 6 == 0
    else if a % 0x20 = 0x10 then bits v 0 36 != 0 && bits v 0 6 == 0
    else true
  else true

/-- Bytes of one page (R184). -/
def pageBytes : Nat := 139264

/-- Bytes of tier F: what its populated channels hold (R340). -/
def State.tierFSize (s : State) : Nat := ((List.range 16).map s.chanSize).sum

/-- Ranges of the serving and page registers (R208, R248). -/
def State.rangeServe (s : State) (a v : Nat) : Bool :=
  let endsBy (size : Nat) : Bool := decide (4096 * bits v 22 30 + pageBytes * bits v 0 22 ≤ size)
  if a = 0x400000 then bits v 0 16 != 0
  else if a = 0x400008 then decide (1000 ≤ bits v 0 27) && decide (bits v 0 27 ≤ 86400000)
  else if a = 0x400010 then bits v 16 16 != 0 && bits v 0 16 != 0
  else if a = 0x500000 ∨ a = 0x500010 then endsBy (2 ^ 39)
  else if a = 0x500008 then endsBy s.tierFSize
  else if a = 0x500018 then bits v 0 4 == 0
  else if a = 0x500108 then decide (1 ≤ bits v 16 11) && decide (bits v 16 11 ≤ 1024)
  else true

/-- Ranges of the fabric, Quadrille and recovery registers (R333, R334, R410). -/
def rangeLink (a v : Nat) : Bool :=
  if a = 0x600008 then decide (1000 ≤ bits v 0 13) && decide (bits v 0 13 ≤ 5000)
  else if a = 0x600010 then bits v 0 6 == 0
  else if a = 0x700000 then
    decide (100 ≤ bits v 48 16) && decide (bits v 48 16 ≤ 10000) && bits v 32 8 != 0 && decide (2000 ≤ bits v 0 20) && decide (bits v 0 20 ≤ 500000)
  else if a = 0xA00000 then
    decide (10 ≤ bits v 48 16) && decide (bits v 48 16 ≤ 1000) && decide (5 ≤ bits v 32 16) && decide (bits v 32 16 ≤ 100) && bits v 16 4 != 0 &&
      decide (1 ≤ bits v 0 11) && decide (bits v 0 11 ≤ 1024)
  else if a = 0xA00008 ∨ a = 0xA00010 then decide (4096 * (bits v 0 30 + bits v 30 30) ≤ 2 ^ 39)
  else if a = 0xA00050 then
    (match bits v 16 2 with | 1 => true | 3 => true | _ => decide (bits v 0 13 < 1024))
  else if a = 0xA00070 then decide (bits v 0 16 < 256)
  else true

/-- The factory record's VCORE code of a region (R446): 0 to 16. -/
def factoryCode (n : Nat) : Nat := (Config.vcoreCode n).toNat % 17

/-- Ranges of the power, thermal and housekeeping registers (R446, R463 to R465). -/
def rangeHouse (a v : Nat) : Bool :=
  if 0xD00000 ≤ a ∧ a < 0xD00020 then
    (List.range 8).all (fun i => decide (factoryCode (a % 0x20 + i) ≤ bits v (8 * i) 5) && decide (bits v (8 * i) 5 ≤ 16))
  else if a = 0xD00040 then
    decide (10 ≤ bits v 16 16) && decide (bits v 16 16 ≤ 200) && decide (600 ≤ bits v 0 16) && decide (bits v 0 16 ≤ 1500)
  else if a = 0xE00000 then decide (bits v 0 4 ≤ 11)
  else if a = 0xE00010 then decide (bits v 0 9 ≤ 295)
  else if 0xF01000 ≤ a ∧ a < 0xF01600 ∧ a % 0x20 = 0x10 then decide (bits v 0 12 ≤ bits v 16 12)
  else true

/-- A value is inside the ranges of the register at BAR0 offset `a`. -/
def State.rangeOk (s : State) (a v : Nat) : Bool :=
  if a < 0x2000000 then s.rangeHub a v && s.rangeMem a v && s.rangeServe a v && rangeLink a v && rangeHouse a v else rangeCore (a % 0x8000) v

end Sys2Proof.Machine
end

