-- ==== Sys2Proof/Machine/Doors.lean ====
section
/-! DEFINITION. The mailbox doors and the measurement registers (R422, R423, R436, R437, R440). -/

namespace Sys2Proof.Machine

/-! ### Doors: 0 HOST_SEC, 1 HOST_MGT, 2 LSP_SEC, 3 SB_SEC -/

/-- The command that waits or runs at a door. -/
def State.bell (s : State) (d : Nat) : Option Bell := s.bells.find? (fun (b : Bell) => b.door = d)

/-- Yarrow takes one bell before another: by stamp, then HOST_SEC, LSP_SEC, SB_SEC (R436). -/
def bellBefore (a b : Bell) : Bool := decide (a.stamp < b.stamp) || (a.stamp == b.stamp && decide (a.door < b.door))

/-- Larkspur starts or is not ready yet: HOST_MGT's command waits. -/
def State.lspStarting (s : State) : Bool := s.f MGT_LSTATE_STATE == 1

/-- The command at a door is the one its server takes next (R436): Yarrow runs one at a time in bell order, Larkspur serves
HOST_MGT. -/
def State.mayRun (s : State) (d : Nat) : Bool :=
  match s.bell d with
  | none => false
  | some b => !b.run && (if d = 1 then !s.lspStarting
      else !s.bells.any (fun (x : Bell) => x.door != 1 && x.door != d && (x.run || bellBefore x b)))

/-- Request word `i` of a door, and its CMD and TAG. -/
def State.reqWord (s : State) (d i : Nat) : Nat := s.f (MBX_REQ_WORD d i)
def State.reqCmd (s : State) (d : Nat) : Nat := bits (s.reqWord d 0) 56 8
def State.reqTag (s : State) (d : Nat) : Nat := bits (s.reqWord d 0) 0 32

/-- A command is taken up. -/
def State.takeBell (s : State) (d : Nat) : State :=
  { s with bells := s.bells.map (fun (b : Bell) => if b.door = d then { b with run := true } else b) }

/-- The response of the command at a door is made (R437, R440): STATUS, CMD and TAG in word 0, `ws` after it. It becomes valid
at MAILBOX_DONE. -/
def State.reply (s : State) (d st : Nat) (ws : List Nat) : State :=
  let w0 := st * 2 ^ 56 + s.reqCmd d * 2 ^ 48 + s.reqTag d
  let s := (List.range 8).foldl (fun s i => s.setf (MBX_RSP_WORD d i) ((w0 :: ws).getD i 0)) s
  { s with bells := s.bells.map (fun (b : Bell) => if b.door = d then { b with ready := true } else b) }

/-- Yarrow takes up command `cmd` at door `d`; a door that does not permit it answers NOT_ALLOWED (R438). With no Yarrow slot fit to
run, the ROM serves GET_ID and YARROW_STAGE on the sideband alone (R421). -/
def State.secDoor (s : State) (d cmd : Nat) (doors : List Nat) (f : State → State) : State :=
  if (s.power = .on ∨ (s.power = .rom ∧ d = 3)) ∧ d ≠ 1 ∧ s.mayRun d ∧ s.reqCmd d = cmd then
    let s := s.takeBell d
    if ¬ doors.contains d ∨ (s.power = .rom ∧ ¬ [0x01, 0x0B].contains cmd) then s.reply d 0x02 [] else f s
  else s

/-- Larkspur takes up command `cmd` of HOST_MGT, which answers LARKSPUR_DOWN while Larkspur is OFF or FAILED and UPDATING during an
update (R432, R439). -/
def State.mgtDoor (s : State) (cmd : Nat) (f : State → State) : State :=
  if s.power = .on ∧ s.mayRun 1 ∧ s.reqCmd 1 = cmd then
    let s := s.takeBell 1
    let l := s.f MGT_LSTATE_STATE
    if l = 0 ∨ l = 4 then s.reply 1 0x0C [] else if l = 3 then s.reply 1 0x0D [] else f s
  else s

/-- A ring of a door's bell (R437): ignored while BUSY, which sets OVERRUN. -/
def State.ring (s : State) (d : Nat) : State :=
  if s.b (MBX_STAT_BUSY d) then s.setf (MBX_STAT_OVERRUN d) 1
  else
    let s := ((s.setf (MBX_STAT_BUSY d) 1).setf (MBX_STAT_OVERRUN d) 0).setf (MBX_STAT_DONE d) 0
    { s with bells := s.bells ++ [⟨d, s.now, false, false⟩] }

/-- The command at a door finishes (R437, R503). -/
def State.bellDone (s : State) (d : Nat) : State :=
  let s := ((s.setf (MBX_STAT_BUSY d) 0).setf (MBX_STAT_DONE d) 1).inc (MBX_STAT_DONE_CNT d)
  let s : State := { s with bells := s.bells.filter (fun (b : Bell) => b.door ≠ d) }
  s.when (decide (d < 2)) (·.msix (60 + d))

/-! ### Measurements (R422, R423) -/

/-- The 32 bytes of a measurement register. -/
def State.mr (s : State) (i : Nat) : List Nat := ((List.range 4).map (fun w => leBytes 8 (s.f (SEC_MR_VALUE i w)))).flatten

/-- The job frame as a measurement or a quote gives it: all ones without an image. -/
def State.frameOrOnes (s : State) : Nat := if s.active then s.jobFrame else 2 ^ 64 - 1

/-- Extend MRi with a digest: MR := SHA-256(MR ‖ D); a log entry while there is room, counted in LOST otherwise. -/
def State.extend (s : State) (i : Nat) (d : List Nat) : State :=
  let v := sha256 (s.mr i ++ d)
  let s := (List.range 4).foldl (fun s w => s.setf (SEC_MR_VALUE i w) (leNat ((v.drop (8 * w)).take 8))) s
  if 1024 ≤ s.yar.mlog.length then { s with yar := { s.yar with lost := min 65535 (s.yar.lost + 1) } }
  else { s with yar := { s.yar with mlog := s.yar.mlog ++ [(i, s.frameOrOnes, d)] } }.inc SEC_CNT_MLOG

end Sys2Proof.Machine
end

