-- ==== Sys2Proof/Machine/Txn.lean ====
section
/-! DEFINITION. Register accesses and transactions: ownership, transaction state, range, shadows, and the transaction
ports (R4 to R7, R41 to R44, R256, R262 to R266, R276, R297, R487, R491, R525). -/

namespace Sys2Proof.Machine

/-! ### Who may write -/

/-- The group of a BAR0 offset belongs to the requester (R41). -/
def State.owns (s : State) (q : Requester) (a : Nat) : Bool := s.f (PAV_OWN_OWNER (groupOf a)) == q.code

/-- The requester's open transaction (R263). -/
def State.openTxn (s : State) (q : Requester) : Option TxnOpen := s.txnOpen.find? (fun (x : TxnOpen) => x.q = q)

/-- Replace or remove the requester's open transaction. -/
def State.setOpen (s : State) (q : Requester) (x : Option TxnOpen) : State :=
  let s : State := { s with txnOpen := s.txnOpen.filter (fun (y : TxnOpen) => y.q ≠ q) ++ x.toList }
  match x with
  | some y => (s.setf (TXNP_STAT_OPEN q.code) 1).setf (TXNP_STAT_OPEN_ID q.code) y.id
  | none => (s.setf (TXNP_STAT_OPEN q.code) 0).setf (TXNP_STAT_OPEN_ID q.code) 0

/-- A rejected write: its code in LAST_REJ (R276, R491); NOT_OWNER is counted in PAV_REJ and sets the event (R41). -/
def State.reject (s : State) (q : Requester) (a code : Nat) : State :=
  let s := s.setf (TXNP_STAT_LAST_REJ q.code) code
  s.when (code == 0x0E) fun s =>
    (((s.inc PAV_REJ_COUNT).setf PAV_REJ_LAST_REQ q.code).setf PAV_REJ_LAST_GROUP (groupOf a)).evt PAV_EVT_NOT_OWNER

/-- The first failure of a write (R42): ownership, then transaction state where an RWT field is written, then range. -/
def State.firstFailure (s : State) (q : Requester) (a : Nat) (rwt ok : Bool) : Option Nat :=
  if !s.owns q a then some 0x0E
  else if rwt && (s.openTxn q).isNone then some 0x04
  else if !ok then some 0x06
  else none

/-- The core a BAR0 offset lies in, for offsets of the region windows (R493). -/
def coreOf (a : Nat) : Nat := (a - 0x2000000) / 0x8000

/-- An access that ends before any register sees it: the package is off; the host comes early (R487); or the core is
fenced and its stub answers (R297, R491). -/
def State.gate (s : State) (q : Requester) (a : Nat) : Option State :=
  if s.power ≠ .on then some s
  else if q = .host ∧ s.f SYS_STATUS_PHASE < 3 ∧ groupOf a ≠ 0 ∧ groupOf a ≠ 11 ∧ groupOf a ≠ 12 then some (s.hostErr SYS_HOSTERR_EARLY)
  else if 0x2000000 ≤ a ∧ s.stubbed (coreOf a) then some (s.when (q == .host) (·.hostErr SYS_HOSTERR_FENCED))
  else none

/-- A checked write (R41, R42): `f` runs when no check fails. -/
def State.guarded (s : State) (q : Requester) (a : Nat) (rwt ok : Bool) (f : State → State) : State :=
  match s.gate q a with
  | some r => r
  | none => match s.firstFailure q a rwt ok with
    | some code => s.reject q a code
    | none => f s

/-! ### Shadows -/

/-- The bounds entries that cover a field (R256). -/
def boundOf (bs : List Bound) (a lo w : Nat) : Option Bound := bs.find? (fun b => b.off = a ∧ b.lo = lo ∧ b.w = w)

/-- The bounds table judges a write of RWT fields by HOST, LARKSPUR or SERVING while an image is active (R256): every
RWT field of the register needs an entry, and its value must lie inside. -/
def State.boundsOk (s : State) (q : Requester) (a v : Nat) (fs : List (Nat × Nat)) : Bool :=
  match s.active, s.img with
  | true, some im => q == .yarrow || fs.all (fun p => match boundOf im.bounds a p.1 p.2 with
      | none => false
      | some b => decide (b.min ≤ bits v p.1 p.2) && decide (bits v p.1 p.2 ≤ b.max))
  | _, _ => true

/-- Put a register's shadow into the open transaction; a 4,097th register is TXN_FULL (R264). -/
def State.shadow (s : State) (q : Requester) (a key mask v : Nat) : State :=
  match s.openTxn q with
  | none => s.reject q a 0x04
  | some x =>
    let rest := x.shadows.filter (fun (w : Shadow) => w.key ≠ key)
    if rest.length = x.shadows.length ∧ 4096 ≤ x.shadows.length then s.reject q a 0x07
    else s.setOpen q (some { x with shadows := rest ++ [⟨key, mask, Nat.land v mask, s.now⟩] })

/-! ### Transactions (R263 to R266) -/

/-- The requester's answer to a command on its port (R276). -/
def State.answer (s : State) (q : Requester) (code : Nat) : State := s.setf (TXNP_STAT_RESULT q.code) code

/-- PENDING transactions of a requester. -/
def State.pendOf (s : State) (q : Requester) : List TxnPend := s.txnPend.filter (fun (x : TxnPend) => x.q = q)

/-- Keep the PENDING count of each port in step with the list (R276). -/
def State.setPend (s : State) (ps : List TxnPend) : State :=
  let s : State := { s with txnPend := ps }
  [Requester.host, .larkspur, .yarrow, .serving].foldl (fun s q => s.setf (TXNP_STAT_PENDING q.code) (s.pendOf q).length) s

/-- A transaction ends with a final result (R276, R277): TXNP_DONE, the counters and the events; a
REG_WRITE of HOST_MGT that waited for it is answered (R439). -/
def State.endTxn (s : State) (q : Requester) (id code : Nat) : State :=
  let s := ((s.setf (TXNP_DONE_RESULT q.code) code).setf (TXNP_DONE_FRAME_LO q.code) s.jobFrame).setf (TXNP_DONE_ID q.code) id
  let s := s.when (code == 0x02) (·.inc TXN_CNT_APPLIED)
  let s := s.when ([0x05, 0x06, 0x08, 0x09, 0x0A, 0x0B].contains code) (·.inc TXN_CNT_FAILED)
  let s := s.when (code == 0x05) (·.evt TXN_EVT_LATE)
  let s := s.when (code == 0x09) (·.evt TXN_EVT_UNLISTED)
  let s := s.when (code == 0x0A) (·.evt TXN_EVT_ROUND_ABORT)
  if q = .larkspur ∧ s.mgtTxn = some id then
    State.reply { s with mgtTxn := none } 1 (if code = 0x02 then 0x00 else 0x0E) (if code = 0x02 then [] else [code])
  else s

/-- The frame a FRAME target is compared with (R271, R275): the job frame on a member, and on a joiner once the forwarded COMPLETEs tell
it; before the first of them none in JOB scope, and the package's own frame in LOCAL scope. -/
def State.targetFrame (s : State) (job : Bool) : Option Nat :=
  if s.active then some s.jobFrame
  else match s.joinSeen with
    | some f => some (f + 1)
    | none => if job then none else some s.frame

/-- The COMMIT is stamped too late for its target (R53, R265): at or after tick F; for a JOB-scope FRAME commit at or
after the local frame end of frame F − 2; a joiner's at or after COMPLETE for frame F − 3 reached it (R275); a START
commit once the START round has completed. -/
def State.commitLate (s : State) (mode : Nat) (job : Bool) (F : Nat) : Bool :=
  mode == 2 && s.qdr.startGo || mode == 1 && (match s.targetFrame job with
    | none => false
    | some f => decide (F ≤ f) || (job && (if s.active then decide (F < f + 2) || (F == f + 2 && s.pav.lfeDone) else decide (F < f + 3))))

/-- The COMMIT is answered RANGE (R265). -/
def State.commitRange (s : State) (q : Requester) (mode : Nat) (job : Bool) (F : Nat) : Bool :=
  mode == 3 || (mode == 1 && (match s.targetFrame job with
    | none => false
    | some f => decide (F > f + s.f TXN_CFG_AHEAD_MAX))) ||
  (mode == 2 && s.active) || (job && mode == 0) ||
  (job && mode == 1 && !(s.active || s.f IMG_STATE_STATE == 5)) ||
  (job && (s.pendOf q).any (fun x => x.job && ((mode == 1 && x.mode == 1 && x.target == F) || x.mode == 2))) ||
  (mode == 2 && (s.pendOf q).any (fun x => x.mode == 2))

/-- A VARIANT_LATE event: a variant or patch commit failed with LATE (R40). -/
def touchesVariant (sh : List Shadow) : Bool := sh.any (fun w => decide (0x100020 ≤ w.key) && decide (w.key < 0x100068))

/-- BEGIN (R263). -/
def State.begin (s : State) (q : Requester) (id : Nat) : State :=
  if (s.openTxn q).isSome then s.answer q 0x03
  else if id = 0 then s.answer q 0x06
  else (s.setOpen q (some ⟨q, id, []⟩)).answer q 0x00

/-- COMMIT (R265). -/
def State.commit (s : State) (q : Requester) (mode : Nat) (job : Bool) : State :=
  match s.openTxn q with
  | none => s.answer q 0x04
  | some x =>
    let F := s.f (TXNP_FRAME_TARGET q.code)
    if s.commitRange q mode job F then s.answer q 0x06
    else if 8 ≤ (s.pendOf q).length then s.answer q 0x0D
    else if s.commitLate mode job F then
      (((s.setOpen q none).endTxn q x.id 0x05).answer q 0x05).when (touchesVariant x.shadows) (·.evt PAV_EVT_VARIANT_LATE)
    else
      let p : TxnPend := ⟨q, x.id, mode, job, F, s.now, false, .none, x.shadows⟩
      ((s.setOpen q none).setPend (s.txnPend ++ [p])).answer q 0x01

/-- Withdraw a PENDING transaction, unless its target tick or its round's local frame end has passed (R266). -/
def State.withdraw (s : State) (q : Requester) (p : TxnPend) : State :=
  if p.mode = 1 ∧ s.commitLate 1 p.job p.target then s.answer q 0x05
  else ((s.setPend (s.txnPend.filter (fun x => x ≠ p))).endTxn q p.id 0x0C).answer q 0x00

/-- ROLLBACK (R266, R276): an ID that a PENDING transaction has, and the open one has not, withdraws that; any other is of the open
transaction; NO_TXN without one. -/
def State.rollbackTxn (s : State) (q : Requester) (id : Nat) : State :=
  match (if (s.openTxn q).any (fun x => x.id = id) then none else (s.pendOf q).find? (fun p => p.id = id)) with
  | some p => s.withdraw q p
  | none => if (s.openTxn q).isSome then (s.setOpen q none).answer q 0x00 else s.answer q 0x04

/-! ### The port commands -/

/-- A port answers while the package is on: the host's is among what answers early (R487). -/
def State.port (s : State) (f : State → State) : State := if s.power = .on then f s else s

/-- TXN_BEGIN (R263). -/
def State.wrBegin (s : State) (q : Requester) (id : Nat) : State :=
  s.port (·.begin q (id % 2 ^ 32))

/-- TXN_BEGIN: that write, as a command. -/
def execTxnBegin (t : Nat) (q : Requester) (id : Nat) (s : State) : Host.Outcome State Fault Refusal :=
  .next ((s.at t).wrBegin q id)

/-- TXN_ROLLBACK (R266). -/
def State.wrRollback (s : State) (q : Requester) (id : Nat) : State :=
  s.port (·.rollbackTxn q (id % 2 ^ 32))

/-- TXN_ROLLBACK: that write, as a command. -/
def execTxnRollback (t : Nat) (q : Requester) (id : Nat) (s : State) : Host.Outcome State Fault Refusal :=
  .next ((s.at t).wrRollback q id)

end Sys2Proof.Machine
end

