-- ==== Sys2Proof/Machine/Tiers.lean ====
section
/-! DEFINITION. Memory tiers, channels, pooled memory and the tier window: R335 to R352, R412, R506 to R508. -/

namespace Sys2Proof.Machine

/-! ### Where an offset lies (R339, R340) -/

/-- The stack of a tier N offset (R339). -/
def State.stackOf (s : State) (a : Nat) : Nat :=
  if s.b MEM_NCFG_MODE then bits a 8 3 else 4 * bits a 38 1 + bits a 8 2

/-- The tier F channel of an offset, and the byte within it; none where it is unmapped (R340). -/
def State.chanOf (s : State) (a : Nat) : Option (Nat × Nat) :=
  if s.b MEM_FCFG_MODE then
    let ps := (List.range 16).filter s.populated
    let u := a / 4096
    match ps[u % ps.length]? with
    | some c => if u / ps.length * 4096 < s.chanSize c then some (c, u / ps.length * 4096 + a % 4096) else none
    | none => none
  else
    let c := bits a 37 4
    if a < 2 ^ 41 ∧ a % 2 ^ 37 < s.chanSize c then some (c, a % 2 ^ 37) else none

/-- The byte map's address of a tier offset. -/
def tierAddr (isF : Bool) (a : Nat) : Nat := if isF then tierF + a else a

/-- A byte of a tier exists (R338, R340). -/
def State.tierHas (s : State) (isF : Bool) (a : Nat) : Bool :=
  if isF then (s.chanOf a).isSome else decide (a < 2 ^ 39)

/-- A whole range of a tier exists: judged at its 4 KiB units. -/
def State.rangeHas (s : State) (isF : Bool) (a n : Nat) : Bool :=
  decide (0 < n) && (List.range ((a + n - 1) / 4096 - a / 4096 + 1)).all (fun i => s.tierHas isF (max a (4096 * (a / 4096 + i))))

/-! ### Errors (R344) -/

/-- An uncorrectable line of tier N, or of tier F where the pages met become LOST elsewhere (R344). `slot` when a slot,
page read or command met it: a BAR4 read raises no record (R507). -/
def State.tierUncorr (s : State) (isF : Bool) (a : Nat) (slot : Bool) : State :=
  let ga := s.gaddr (tierAddr isF (a / 64 * 64))
  let s := if isF then (match s.chanOf a with
      | some c => s.inc (MEM_FCH_UNCORR c.1)
      | none => s) else s.inc (MEM_NSTK_UNCORR (s.stackOf a))
  s.when slot fun s =>
    let s := ((s.setf MEM_ERRLOG_GADDR ga).setf MEM_ERRCAUSE_CAUSE (if isF then 3 else 1)).evt (if isF then MEM_EVT_F_UNCORR else MEM_EVT_N_UNCORR)
    if isF then s.raise 2 0x21 9 (match s.chanOf a with | some c => c.1 | none => 0) ga
    else s.raise 2 0x1F 8 (s.stackOf a) ga

/-- Bytes of a tier read by a slot, with the offsets of the uncorrectable lines it meets: poisoned where one lies in the
range (R344). -/
def State.readTier (s : State) (isF : Bool) (a n : Nat) (lines : List Nat) : Rd :=
  match lines.find? (fun l => decide (a / 64 * 64 ≤ l) && decide (l < a + n)) with
  | some l => ⟨s.tierUncorr isF l true, s.bytes (tierAddr isF a) n, true⟩
  | none => ⟨s, s.bytes (tierAddr isF a) n, false⟩

/-- HBM_LOST (R344): a stack stops answering or leaves UP. -/
def execHbmLost (t stack : Nat) (s : State) : Host.Outcome State Fault Refusal :=
  let s := s.at t
  if s.power = .on ∧ s.f (MEM_NSTK_STATE stack) = 2 then
    let s := ((s.setf (MEM_NSTK_STATE stack) 3).setf MEM_ERRCAUSE_CAUSE 2).evt MEM_EVT_STACK_FAIL
    .next (s.raise 3 0x20 8 stack 0)
  else .next s

/-- PATROL_SCRUB (R344): the patrol of a stack meets the lines listed: corrected ones are counted and rewritten. An address of tier F is
an error that its devices or its link corrected since: its channel counts it (notes/assumptions/13.md). -/
def execPatrolScrub (t stack : Nat) (corrected : List Nat) (s : State) : Host.Outcome State Fault Refusal :=
  let s := s.at t
  if s.power = .on ∧ s.f (MEM_NSTK_STATE stack) = 2 then
    let n := (corrected.filter (fun a => decide (a < 2 ^ 39) && s.stackOf a == stack)).length
    let s := s.when (decide (0 < n)) (fun s => (s.add (MEM_NSTK_CORRECTED stack) n).evt MEM_EVT_CORRECTED)
    .next ((corrected.filterMap (fun a => if tierF ≤ a then s.chanOf (a - tierF) else none)).foldl
      (fun s x => (s.inc (MEM_FCH_CORRECTED x.1)).evt MEM_EVT_CORRECTED) s)
  else .next s

/-! ### Tier F channels (R343 to R345) -/

/-- A channel starts a reset: its epoch rises and it trains (R345). -/
def State.chanTrain (s : State) (c : Nat) : State :=
  (s.setf (MEM_FCH_EPOCH c) (s.f (MEM_FCH_EPOCH c) + 1)).setf (MEM_FCH_STATE c) 1

/-- FCH_EN_WRITE (R345): a write of a channel's EN. -/
def State.wrFchEn (s : State) (q : Requester) (ch : Nat) (en : Bool) : State :=
  (s.guarded q (0x800200 + 8 * ch) false (en || !s.active) (fun s =>
    if en then
      (if s.b (MEM_FCH_DRAINING ch) then s.setf (MEM_FCH_PEND_ON ch) 1
       else
         let s := s.setf (MEM_FCH_EN ch) 1
         s.when (s.f (MEM_FCH_STATE ch) == 0) (·.chanTrain ch))
    else
      (let s := (s.setf (MEM_FCH_EN ch) 0).setf (MEM_FCH_PEND_ON ch) 0
       s.when (s.f (MEM_FCH_STATE ch) == 2 || s.f (MEM_FCH_STATE ch) == 1 || s.f (MEM_FCH_STATE ch) == 3) (·.setf (MEM_FCH_DRAINING ch) 1))))

/-- FCH_EN_WRITE: that write, as a command. -/
def execFchEnWrite (t : Nat) (q : Requester) (ch : Nat) (en : Bool) (s : State) : Host.Outcome State Fault Refusal :=
  .next ((s.at t).wrFchEn q ch en)

/-- CHANNEL_DRAIN_DONE (R345): self-refresh and OFF, or training again where PEND_ON is set. -/
def execChannelDrainDone (t ch : Nat) (s : State) : Host.Outcome State Fault Refusal :=
  let s := s.at t
  if s.b (MEM_FCH_DRAINING ch) then
    let s := (s.setf (MEM_FCH_DRAINING ch) 0).setf (MEM_FCH_STATE ch) 0
    .next (if s.b (MEM_FCH_PEND_ON ch) then ((s.setf (MEM_FCH_PEND_ON ch) 0).setf (MEM_FCH_EN ch) 1).chanTrain ch else s)
  else .next s

/-- A channel becomes FAILED at training (R343): FATAL when the image in force expects it. -/
def State.chanFailed (s : State) (c : Nat) : State :=
  let exp := match (if s.active then s.img else s.staging) with
    | some im => im.tfExpect.contains c
    | none => false
  ((s.setf (MEM_FCH_STATE c) 3).evt MEM_EVT_CH_FAIL).raise (if exp then 3 else 0) 0x23 9 c 0

/-- CHANNEL_TRAIN_DONE (R343, R345): training ends UP with its capacity code, ABSENT with code 0, or FAILED. -/
def execChannelTrainDone (t ch : Nat) (up : Option Nat) (s : State) : Host.Outcome State Fault Refusal :=
  let s := s.at t
  if s.f (MEM_FCH_STATE ch) = 1 then
    match up with
    | some z => .next ((s.setf (MEM_FCH_STATE ch) (if z = 0 then 4 else 2)).setf (MEM_FCH_SIZE ch) z)
    | none => .next (s.chanFailed ch)
  else .next s

/-! ### Pooled memory: the server (R347 to R349) -/

/-- The bytes of a request that start in tier `isF` lie in its window (R352). -/
def State.inWindow (s : State) (isF : Bool) (a n : Nat) : Bool :=
  let i := bit isF
  let b := 4096 * s.f (MEM_PWIN_BASE_4K i)
  decide (b ≤ a) && decide (a + n ≤ b + 4096 * s.f (MEM_PWIN_PAGES_4K i))

/-- Some channel a tier F range touches is draining, OFF, FAILED or in reset (R345). -/
def State.chanDown (s : State) (a n : Nat) : Bool :=
  (List.range (n / 64 + 1)).any (fun i => match s.chanOf (a + min (64 * i) (n - 1)) with
    | some c => s.f (MEM_FCH_STATE c.1) != 2 || s.b (MEM_FCH_DRAINING c.1)
    | none => false)

/-- The code a pooled request is refused with, in the order of R347; 0 for none. UNCORR: `lines` are uncorrectable. -/
def State.poolCode (s : State) (m : Pool) (lines : List Nat) : Nat :=
  let isF := bits m.gaddr 42 2 == 1
  let a := m.gaddr % 2 ^ 42
  let n := 64 * m.lines
  let st := s.f IMG_STATE_STATE
  if s.f MEM_POOL_EN = 0 ∨ s.f FAB_ID_PKG_ID = 0xFFFFF ∨ s.halted then 0x01
  else if st = 6 then 0x02
  else if 1 ≤ st ∧ st ≤ 4 then 0x03
  else if s.audit.running then 0x04
  else if 2 ≤ bits m.gaddr 42 2 ∨ m.gaddr / 2 ^ 44 ≠ s.f FAB_ID_PKG_ID then 0x05
  else if ¬ s.inWindow isF a n then 0x06
  else if m.op = 2 ∧ ¬ isF ∧ s.stageLen ≠ 0 ∧ s.stageBase < a + n ∧ a < s.stageBase + s.stageLen then 0x07
  else if ¬ s.rangeHas isF a n then 0x08
  else if m.op = 1 ∧ lines.any (fun l => decide (a ≤ l) && decide (l < a + n)) then 0x09
  else if isF ∧ s.chanDown a n then 0x0A
  else 0

/-- The server answers a request on the port on which it came (R348, R349). -/
def State.serve (s : State) (p : Nat) (m : Pool) (lines : List Nat) : State :=
  let code := s.poolCode m lines
  let isF := bits m.gaddr 42 2 == 1
  let a := tierAddr isF (m.gaddr % 2 ^ 42)
  let s := if code = 0 then s.inc MEM_PCNT_SERVED else (s.inc MEM_PCNT_REFUSED).evt MEM_EVT_POOL_REFUSED
  let s := s.when (code == 0 && m.op == 2) (·.write a m.data)
  let s := s.when (code == 9) (·.tierUncorr isF (m.gaddr % 2 ^ 42) true)
  let answer : Pool := ⟨m.op + 2, code, m.lines, m.tag, m.gaddr, s.f FAB_ID_PKG_ID,
    if code = 0 ∧ m.op = 1 then s.bytes a (64 * m.lines) else []⟩
  s.sendSeq p { typ := 6, dst := m.src, payload := poolBytes answer } none

/-- A POOL flit for another slot is relayed (R314); one whose operation is reserved is discarded and counted as STALE (R348). -/
def State.poolRx (s : State) (p : Nat) (f : Flit) (op : Nat) (k : Pool → State → State) : State :=
  s.rxMsg p f 6 (fun s =>
    let m := poolOf f.payload
    if s.relays f then s.relay f none else if m.op = op then k m s else if m.op = 0 ∨ 4 < m.op then s.stale p else s)

/-- READ (R347 to R349): `lines` are the uncorrectable lines met. -/
def execRead (t port : Nat) (f : Flit) (lines : List Nat) (s : State) : Host.Outcome State Fault Refusal :=
  .next ((s.at t).poolRx port f 1 (fun m s => s.serve port m lines))

/-- WRITE (R347 to R349). -/
def execWrite (t port : Nat) (f : Flit) (s : State) : Host.Outcome State Fault Refusal :=
  .next ((s.at t).poolRx port f 2 (fun m s => s.serve port m []))

/-! ### Pooled memory: the requester (R350 to R352) -/

/-- A command's run. -/
def State.poolRun (s : State) (q : Nat) : Option PoolRun := sfind s.pool q

/-- The port of a command's requests: the rack port, or the spine port named (R312, R350); none for NO_ROUTE. Where the direct port is
not UP, the lowest-numbered other slot whose ports to both ends are UP relays (R314); its own port is no part of this package, and a free
value. -/
def State.poolPort (s : State) (q : Nat) : Option Nat :=
  let me := s.f FAB_ID_PKG_ID
  let peer := s.f (MEM_PQADDR_GADDR q) / 2 ^ 44
  if peer = me then none
  else if peer / 32 = me / 32 then
    if s.portUp (s.onPort (s.rackPort peer)) then some (s.rackPort peer)
    else (((List.range 32).filter (fun b => b != me % 32 && b != peer % 32 && s.portUp (s.onPort (s.rackPort b)) &&
      Config.farPortUp s.now b (peer % 32))).head?).map s.rackPort
  else
    let p := s.f (MEM_PQLOCAL_PORT q)
    if s.portUp (s.onPort p) then some p else none

/-- Length of the leading part that completed without a gap (R351). -/
def leading (parts : List (Nat × Nat)) : Nat → Nat → Nat
  | 0, a => a
  | n + 1, a => match parts.find? (fun p => p.1 = a) with
    | some p => leading parts n (a + p.2)
    | none => a

/-- The command ends with a status (R351). -/
def State.poolEnd (s : State) (q code : Nat) : State :=
  { s.setf (MEM_PQCMD_STATUS q) code with pool := serase s.pool q }.evt MEM_EVT_PQ_DONE

/-- Send one request of a command: 3 lines, or the shorter last one. -/
def State.poolAsk (s : State) (q : Nat) (r : PoolRun) (port : Nat) : State × PoolRun :=
  let off := r.asked
  let n := min 192 (s.f (MEM_PQLEN_LEN q) - off)
  let tag := s.pqTag
  let g := s.f (MEM_PQADDR_GADDR q) + off
  let m : Pool := ⟨r.op, 0, n / 64, tag, g, s.f FAB_ID_PKG_ID,
    if r.op = 2 then s.bytes (s.f (MEM_PQLOCAL_LOCAL q) + off) n else []⟩
  let on := s.onPort port
  let s := s.sendSeq port { typ := 6, dst := g / 2 ^ 44, payload := poolBytes m } none
  ({ s with pqTag := (tag + 1) % 2 ^ 32 }, { r with asked := off + n, wait := r.wait ++ [(tag, off, n, s.now, on)] })

/-- Send requests while fewer than 64 are outstanding (R351). -/
def State.poolPump (s : State) (q : Nat) (port : Nat) : Nat → PoolRun → State × PoolRun
  | 0, r => (s, r)
  | n + 1, r =>
    if r.stop ∨ 64 ≤ r.wait.length ∨ s.f (MEM_PQLEN_LEN q) ≤ r.asked then (s, r)
    else
      let x := s.poolAsk q r port
      x.1.poolPump q port n x.2

/-- Keep a run going: ask more, and end it when nothing is outstanding and nothing more is to ask. -/
def State.poolGo (s : State) (q : Nat) (r : PoolRun) : State :=
  if ¬ r.stop ∧ r.asked < s.f (MEM_PQLEN_LEN q) ∧ s.poolPort q = none then s.poolEnd q 0x0C
  else
    let x := s.poolPump q ((s.poolPort q).getD 0) 64 r
    if x.2.wait.isEmpty then x.1.poolEnd q x.2.last else { x.1 with pool := sput x.1.pool q x.2 }

/-- A READ or WRITE written to a command slot (R351, R352). -/
def State.poolStart (s : State) (q op : Nat) : State :=
  let s := (s.setf (MEM_PQCMD_STATUS q) 0x0D).setf (MEM_PQCMD_DONE_BYTES q) 0
  s.poolGo q ⟨op, 0, [], [], false, 0⟩

/-- The conditions of a READ or WRITE write (R352): the slot is free, no image active, LEN nonzero, a spine port where
one is used. -/
def State.poolMay (s : State) (q : Nat) : Bool :=
  s.f (MEM_PQCMD_STATUS q) != 0x0D && !s.active && s.f (MEM_PQLEN_LEN q) != 0 &&
    (s.f (MEM_PQADDR_GADDR q) / 2 ^ 44 / 32 == s.f FAB_ID_PKG_ID / 32 ||
     (decide (32 ≤ s.f (MEM_PQLOCAL_PORT q)) && decide (s.f (MEM_PQLOCAL_PORT q) ≤ 63)))

/-- POOL_CMD_READ (R351, R352). -/
def State.wrPoolRead (s : State) (q : Requester) (slot : Nat) : State :=
  s.guarded q (pqSlot slot + 0x18) false (s.poolMay slot) (·.poolStart slot 1)

/-- POOL_CMD_READ: that write, as a command. -/
def execPoolCmdRead (t : Nat) (q : Requester) (slot : Nat) (s : State) : Host.Outcome State Fault Refusal :=
  .next ((s.at t).wrPoolRead q slot)

/-- POOL_CMD_WRITE (R351, R352). -/
def State.wrPoolWrite (s : State) (q : Requester) (slot : Nat) : State :=
  s.guarded q (pqSlot slot + 0x18) false (s.poolMay slot) (·.poolStart slot 2)

/-- POOL_CMD_WRITE: that write, as a command. -/
def execPoolCmdWrite (t : Nat) (q : Requester) (slot : Nat) (s : State) : Host.Outcome State Fault Refusal :=
  .next ((s.at t).wrPoolWrite q slot)

/-- POOL_CMD_ABORT (R352): no further requests; the command ends after those outstanding. -/
def State.wrPoolAbort (s : State) (q : Requester) (slot : Nat) : State :=
  (s.guarded q (pqSlot slot + 0x18) false true (fun s =>
    match s.poolRun slot with
    | none => s
    | some r => if r.wait.isEmpty then s.poolEnd slot r.last else { s with pool := sput s.pool slot { r with stop := true } }))

/-- POOL_CMD_ABORT: that write, as a command. -/
def execPoolCmdAbort (t : Nat) (q : Requester) (slot : Nat) (s : State) : Host.Outcome State Fault Refusal :=
  .next ((s.at t).wrPoolAbort q slot)

/-- A response of a command: the data is stored, the command goes on or ends (R351). -/
def State.poolTake (s : State) (m : Pool) : State :=
  match s.pool.find? (fun x => x.2.wait.any (fun w => w.1 == m.tag) && x.2.op + 2 == m.op) with
  | none => s
  | some (q, r) =>
    match r.wait.find? (fun w => w.1 = m.tag) with
    | none => s
    | some (_, off, n, _, _) =>
      if m.status = 0 then
        let s := s.when (m.op == 3) (·.write (s.f (MEM_PQLOCAL_LOCAL q) + off) (m.data.take n))
        let parts := r.parts ++ [(off, n)]
        let s := s.setf (MEM_PQCMD_DONE_BYTES q) (leading parts parts.length 0)
        s.poolGo q { r with wait := r.wait.filter (fun w => w.1 ≠ m.tag), parts := parts }
      else s.poolEnd q m.status

/-- READ_RSP (R348, R351). -/
def execReadRsp (t port : Nat) (f : Flit) (s : State) : Host.Outcome State Fault Refusal :=
  .next ((s.at t).poolRx port f 3 (fun m s => s.poolTake m))

/-- WRITE_RSP (R348, R351). -/
def execWriteRsp (t port : Nat) (f : Flit) (s : State) : Host.Outcome State Fault Refusal :=
  .next ((s.at t).poolRx port f 4 (fun m s => s.poolTake m))

/-- POOL_TIMEOUT (R351): a request of the command has waited 10 ms. -/
def execPoolTimeout (t slot : Nat) (s : State) : Host.Outcome State Fault Refusal :=
  let s := s.at t
  match s.poolRun slot with
  | none => .next s
  | some r => if r.wait.any (fun w => decide (w.2.2.2.1 + 10000000 ≤ s.now)) then .next (s.poolEnd slot 0x0B) else .next s

/-- A port's epoch rises: commands with requests outstanding on it end with TIMEOUT (R351, R405). -/
def State.poolEpoch (s : State) (p : Nat) : State :=
  (s.pool.filter (fun x => x.2.wait.any (fun w => w.2.2.2.2 == p))).foldl (fun s x => s.poolEnd x.1 0x0B) s

/-! ### The tier window and protected areas (R412, R506 to R508) -/

/-- The areas of R412 as (first offset, bytes). -/
def State.protected (s : State) : List (Nat × Nat) :=
  [(4096 * s.f RCV_JRNL_BASE_4K, 4096 * s.f RCV_JRNL_BLOCKS), (4096 * s.f RCV_JMIR_BASE_4K, 4096 * s.f RCV_JMIR_BLOCKS),
   (s.f CHK_TAINT_ADDR, 66 * 4096 * s.f CHK_TAINT_STRIDE_4K),
   (s.f PGM_DIR_ADDR, 16 * (s.f PGM_POOLN_PAGES + s.f PGM_POOLF_PAGES)),
   (s.f CHK_LOGBASE_ADDR, if s.f CHK_LOGSZ_LOG2 = 0 then 0 else 32 * 2 ^ s.f CHK_LOGSZ_LOG2), (s.stageBase, s.stageLen)]

/-- A tier N range touches one of the areas. -/
def meets (areas : List (Nat × Nat)) (a n : Nat) : Bool := areas.any (fun x => decide (x.1 < a + n) && decide (a < x.1 + x.2))

/-- The host queue area (R495). -/
def queueArea : Nat × Nat := (0x7FF0000000, 0x10000000)

/-- LARKSPUR_TIER_WRITE (R412). -/
def execLarkspurTierWrite (t off : Nat) (data : List Nat) (s : State) : Host.Outcome State Fault Refusal :=
  let s := s.at t
  if s.power = .on ∧ s.f MGT_LSTATE_STATE ≠ 0 ∧ s.f MGT_LSTATE_STATE ≠ 4 then
    if s.active ∧ meets s.protected off data.length then .next ((s.inc MGT_ACL_DENIED).setf MGT_ACL_LAST off)
    else if data.isEmpty then .next s
    else if 2 ^ 39 < off + data.length then .fault .badAddress
    else .next (s.write off data)
  else .next s

/-- Where a BAR4 access goes (R506, R507): tier and offset; none for a disabled segment or an offset that is not there. -/
def State.winAt (s : State) (off n : Nat) : Option (Bool × Nat) :=
  let g := off / 2 ^ 32 % 16
  let a := s.f (SYS_WIN_BASE_4G g) * 2 ^ 32 + off % 2 ^ 32
  let isF := s.f (SYS_WIN_SPACE g) == 1
  if s.b (SYS_WIN_EN g) ∧ s.rangeHas isF a n then some (isF, a) else none

/-- BAR4_READ (R344, R506, R507): `lines` are the uncorrectable lines met. The answer, as far as 8 bytes show it, stands in
`lastRead`. -/
def execBar4Read (t off n : Nat) (lines : List Nat) (s : State) : Host.Outcome State Fault Refusal :=
  let s := s.at t
  match s.gate .host 0x800000 with
  | some r => .next { r with lastRead := 0 }
  | none =>
    match s.winAt off n with
    | none => .next { s.hostErr SYS_HOSTERR_WINDOW with lastRead := 0 }
    | some (isF, a) =>
      match lines.find? (fun l => decide (a / 64 * 64 ≤ l) && decide (l < a + n)) with
      | some l => .next { s.tierUncorr isF l false with lastRead := BitVec.ofNat 64 (2 ^ 64 - 1) }
      | none => .next { s with lastRead := BitVec.ofNat 64 (s.num (tierAddr isF a) (min n 8)) }

/-- BAR4_WRITE (R506 to R508). -/
def execBar4Write (t off : Nat) (data : List Nat) (s : State) : Host.Outcome State Fault Refusal :=
  let s := s.at t
  match s.gate .host 0x800000 with
  | some r => .next r
  | none =>
    match s.winAt off data.length with
    | none => .next (s.hostErr SYS_HOSTERR_WINDOW)
    | some (isF, a) =>
      if s.active ∧ ¬ isF ∧ meets (queueArea :: s.protected) a data.length then .next (s.hostErr SYS_HOSTERR_WINDOW)
      else .next (s.write (tierAddr isF a) data)

end Sys2Proof.Machine
end

