-- ==== Sys2Proof/Machine/Pages.lean ====
section
/-! DEFINITION. Latent entries and pages: R181 to R189, R195, R196, R200 to R206, R374. -/

namespace Sys2Proof.Machine

/-! ### The page directory (R184, R185): tier N pages first, tier F pages after them -/

/-- Pages in all. -/
def State.pageCount (s : State) : Nat := s.f PGM_POOLN_PAGES + s.f PGM_POOLF_PAGES
/-- Address of a page's directory entry. -/
def State.dirAt (s : State) (p : Nat) : Nat := s.f PGM_DIR_ADDR + 16 * p
/-- A page's state: 0 FREE, 1 ACTIVE, 2 QUARANTINE, 3 MIGRATING_OUT, 4 MIGRATING_IN, 5 LOST. -/
def State.pageSt (s : State) (p : Nat) : Nat := bits (s.num (s.dirAt p) 8) 61 3
/-- A page lies in tier F. -/
def State.pageF (s : State) (p : Nat) : Bool := decide (s.f PGM_POOLN_PAGES ≤ p)
/-- A page's offset in its tier. -/
def State.pageOff (s : State) (p : Nat) : Nat :=
  if s.pageF p then 4096 * s.f PGM_POOLF_BASE_4K + 139264 * (p - s.f PGM_POOLN_PAGES) else 4096 * s.f PGM_POOLN_BASE_4K + 139264 * p
/-- The byte map's address of a page. -/
def State.pageAt (s : State) (p : Nat) : Nat := tierAddr (s.pageF p) (s.pageOff p)
/-- A page's reference count. -/
def State.refs (s : State) (p : Nat) : Nat := s.num (s.dirAt p + 14) 2
/-- The frame in which a page entered QUARANTINE. -/
def State.freedAt (s : State) (p : Nat) : Nat := s.num (s.dirAt p + 8) 4

/-- Write a page's entry. -/
def State.putPage (s : State) (p st refs freed : Nat) : State :=
  (s.writeNum (s.dirAt p) 8 (st * 2 ^ 61 + bit (s.pageF p) * 2 ^ 59 + s.pageOff p)).writeNum (s.dirAt p + 8) 8
    (refs % 2 ^ 16 * 2 ^ 48 + freed % 2 ^ 32)

/-- Keep PGM_FREE, PGM_QUAR and IN_FLIGHT in step with a page's change of state (R208). -/
def State.countPage (s : State) (p old new : Nat) : State :=
  let free := if s.pageF p then PGM_FREE_TIER_F else PGM_FREE_TIER_N
  let quar := if s.pageF p then PGM_QUAR_TIER_F else PGM_QUAR_TIER_N
  let step (F : Fld) (k : Nat → Bool) (s : State) : State := s.setf F (s.f F + bit (k new) - bit (k old))
  (step PGM_MIG_IN_FLIGHT (fun x => x == 3 || x == 4) (step quar (· == 2) (step free (· == 0) s)))

/-- Change a page's state and reference count. -/
def State.setPage (s : State) (p st refs freed : Nat) : State := (s.countPage p (s.pageSt p) st).putPage p st refs freed

/-- A line of the frame's taint record: ACT and page, and the reference count before a release (R374). -/
def State.taintPage (s : State) (act p refs : Nat) : State :=
  let f := s.jobFrame
  let cur := (s.taint.find? (fun (x : Taint) => x.frame = f)).getD ⟨f, [], [], []⟩
  let nxt : Taint := if cur.pages.contains (act, p) then cur
    else { cur with pages := cur.pages ++ [(act, p)], refs := if act = 2 then cur.refs ++ [(p, refs)] else cur.refs }
  { s with taint := s.taint.filter (fun (x : Taint) => x.frame ≠ f) ++ [nxt] }

/-- A request the frame steps (R374). -/
def State.taintReq (s : State) (tag : Nat) : State :=
  let f := s.jobFrame
  let cur := (s.taint.find? (fun (x : Taint) => x.frame = f)).getD ⟨f, [], [], []⟩
  { s with taint := s.taint.filter (fun (x : Taint) => x.frame ≠ f) ++ [{ cur with reqs := (cur.reqs ++ [tag]).eraseDups }] }

/-- The first FREE page from `p` on, among `n` (R187). -/
def State.firstFree (s : State) : Nat → Nat → Option Nat
  | 0, _ => none
  | n + 1, p => if s.pageSt p = 0 then some p else s.firstFree n (p + 1)

/-- The lowest-numbered FREE page of a pool (R187). -/
def State.freePage (s : State) (isF : Bool) : Option Nat :=
  if isF then s.firstFree (s.f PGM_POOLF_PAGES) (s.f PGM_POOLN_PAGES) else s.firstFree (s.f PGM_POOLN_PAGES) 0

/-- Allocate a page (R187); none for POOL_EMPTY (R189). -/
def State.allocPage (s : State) (isF : Bool) (st : Nat) : State × Option Nat :=
  match s.freePage isF with
  | none => (s, none)
  | some p => ((s.setPage p st 1 0).taintPage 1 p 0, some p)

/-- One more reference on a page. -/
def State.addRef (s : State) (p : Nat) : State := s.putPage p (s.pageSt p) (s.refs p + 1) (s.freedAt p)

/-- Drop a reference: a page without one enters QUARANTINE, at its migration's end when it is moving (R188). -/
def State.dropRef (s : State) (p : Nat) : State :=
  let n := s.refs p - 1
  let st := s.pageSt p
  if n = 0 ∧ (st = 1 ∨ st = 5) then (s.taintPage 2 p (s.refs p)).setPage p 2 0 s.jobFrame
  else s.putPage p st n (s.freedAt p)

/-- A page becomes FREE at once (R202). -/
def State.freeNow (s : State) (p : Nat) : State := (s.taintPage 3 p 0).setPage p 0 0 0

/-- QUARANTINE pages whose FREED frame has settled become FREE (R188). -/
def State.quarFree (s : State) : State :=
  if s.f PGM_QUAR_TIER_N = 0 ∧ s.f PGM_QUAR_TIER_F = 0 then s
  else
    let h := s.f PAV_HORIZON_HORIZON + s.f IMG_JOB_JOB_BASE
    (List.range s.pageCount).foldl (fun s p =>
      s.when (s.pageSt p == 2 && decide (s.freedAt p < h % 2 ^ 32)) (·.freeNow p)) s

/-- A page is marked LOST (R183, R206). -/
def State.pageLost (s : State) (p : Nat) : State :=
  if s.pageSt p = 5 then s
  else
    let s := (s.setPage p 5 (s.refs p) (s.freedAt p)).evt PGM_EVT_LOST
    let s := (s.inc PGM_LOST_COUNT).setf PGM_LOST_LAST_PAGE p
    let hit (r : Req) : Bool := r.pages.any (fun x => x.2.2 == p)
    let s := (s.reqs.filter hit).foldl (fun s (r : Req) => s.toAll (.lost r.scope r.tag)) s
    { s with reqs := s.reqs.map (fun (r : Req) => if hit r then { r with lost := true } else r) }

/-! ### Latent entries (R181 to R183) -/

/-- The 544 bytes of an entry (R181, R182): 16 A8 blocks in the window [1, 250]. -/
def latentBytes (v : List Num) (frame : Nat) : List Nat :=
  let bs := (List.range 16).map (fun b => encBlock true 1 250 ((v.drop (32 * b)).take 32))
  let head := (bs.map (fun b => b.codes.map (fun c => (c % 256).toNat))).flatten ++ bs.map Blk.e ++
    (List.range 4).map (fun k => ((List.range 4).map (fun i => (bs.getD (4 * k + i) .zero).flag * 4 ^ i)).sum) ++ [1, 0, 0, 0] ++
    leBytes 4 frame
  head ++ leBytes 2 (crc16 (head ++ [0, 0])) ++ [0, 0]

/-- Block `b` of an entry. -/
def latentBlk (e : List Nat) (b : Nat) : Blk :=
  ⟨e.getD (528 + b / 4) 0 / 4 ^ (b % 4) % 4, e.getD (512 + b) 0, (List.range 32).map (fun i => signed 8 (e.getD (32 * b + i) 0))⟩

/-- An entry passes CHECK, the blocks' form and VALID (R183). -/
def latentOk (e : List Nat) : Bool :=
  crc16 (e.take 540 ++ (e.drop 542).take 2) == leNat ((e.drop 540).take 2) &&
    (List.range 16).all (fun b => !badBlk true (latentBlk e b)) && e.getD 532 0 % 2 == 1

/-- FRAME of an entry. -/
def latentFrame (e : List Nat) : Nat := leNat ((e.drop 536).take 4)

/-- A failed entry met by core `c` (R183). -/
def State.kvCheck (s : State) (c p slot : Nat) (frame : Nat) : State :=
  let s := ((s.inc PGM_KV_CHECK).evt PGM_EVT_KV_CHECK).raise 2 0x16 3 c (slot * 2 ^ 32 + p)
  { s with kvFail := s.kvFail ++ [(p, frame)] }

/-! ### Requests and their pages -/

/-- The request with a scope and tag. -/
def State.req (s : State) (scope tag : Nat) : Option Req := s.reqs.find? (fun (r : Req) => r.scope = scope ∧ r.tag = tag)

/-- Replace a request. -/
def State.setReq (s : State) (r : Req) : State :=
  { s with reqs := s.reqs.map (fun (x : Req) => if x.scope = r.scope ∧ x.tag = r.tag then r else x) }

/-- The request that holds a batch slot in the frame of its step that runs now: its stage is that of this member's group,
which runs it `group` frames after stage 0 (R226). -/
def State.slotReq (s : State) (slot : Nat) : Option Req :=
  let g := match s.img with
    | some im => ((im.topo.members[im.topo.self]?).map Member.group).getD 0
    | none => 0
  s.reqs.find? (fun (r : Req) => match r.step with
    | some x => x.slot == slot && x.frame + g % 4 == s.jobFrame
    | none => false)

/-- This member's index among its group's data members, and their number k (R195). -/
def State.dataIdx (s : State) : Nat × Nat :=
  match s.img with
  | none => (0, 1)
  | some im =>
    let me := im.topo.members[im.topo.self]?
    let ds := (List.range im.topo.members.length).filter (fun i => match im.topo.members[i]?, me with
      | some m, some x => m.group == x.group && m.role != Role.parity
      | _, _ => false)
    (ds.findIdx (· == im.topo.self), max 1 ds.length)

/-- The page index, over all members, of this member's local page `i` of a slot's request (R186, R195). -/
def State.globalPage (s : State) (bkt i : Nat) : Nat :=
  if s.f (PGM_BKT_MODE bkt) = 1 then i * s.dataIdx.2 + s.dataIdx.1 else i

/-- Page `i` of a request lies on this member (R195). -/
def State.pageMine (s : State) (bkt slot i : Nat) : Bool :=
  if s.f (PGM_BKT_MODE bkt) = 1 then i % s.dataIdx.2 == s.dataIdx.1 else slot % s.dataIdx.2 == s.dataIdx.1

/-- A request's page for a layer and index on this member. -/
def Req.pageOf (r : Req) (layer i : Nat) : Option Nat := (r.pages.find? (fun x => x.1 = layer ∧ x.2.1 = i)).map (fun x => x.2.2)

/-- The package ID of this member's mirror: its group's parity member (R196, R384). -/
def State.mirrorPkg (s : State) : Option Nat :=
  s.img.bind (fun im =>
    match im.topo.members[im.topo.self]? with
    | none => none
    | some me => match me.role with
      | .data => (im.topo.members.find? (fun m => m.group == me.group && m.role == Role.parity)).map Member.pkg
      | .parity => (im.topo.members.find? (fun m => m.group == me.group && m.role == Role.data)).map Member.pkg
      | .solo => (im.topo.members[im.topo.peer]?).map Member.pkg)

/-- This member's place among those its mirror holder mirrors: its index among the data members of its group, 0 for a member that is
mirrored alone (notes/assumptions/31.md). -/
def State.mirrorIdx (s : State) : Nat :=
  match s.img with
  | none => 0
  | some im => match im.topo.members[im.topo.self]? with
    | some me => if me.role = .data then s.dataIdx.1 else 0
    | none => 0

/-- This member is a data member. -/
def State.isData (s : State) : Bool := s.img.any (fun im => (im.topo.members[im.topo.self]?).any (fun (m : Member) => m.role == Role.data))

/-- Write a latent entry into the mirror pool (R196): page `p` counts the pools of the members mirrored one after another
(notes/assumptions/31.md). A data member takes back what its parity member copies to it (R400). -/
def State.mirrorLatent (s : State) (p slot : Nat) (e : List Nat) : State :=
  if s.isData then
    (if s.dataIdx.1 * s.pageCount ≤ p ∧ p < (s.dataIdx.1 + 1) * s.pageCount then s.write (s.pageAt (p - s.dataIdx.1 * s.pageCount) + 544 * slot) e else s)
  else if p < s.f PGM_MIRROR_PAGES then s.write (4096 * s.f PGM_MIRROR_BASE_4K + 139264 * p + 544 * slot) e else s

/-- Write a latent entry for position H + `pos` of a batch slot's request, and queue its mirror write (R181, R196, R200). -/
def State.writeLatent (s : State) (layer slot pos : Nat) (v : List Num) : State :=
  match s.slotReq slot with
  | none => s
  | some r =>
    let p := r.horizon + pos
    match r.pageOf layer (p / 256) with
    | none => s
    | some pg =>
      let e := latentBytes v (s.jobFrame % 2 ^ 32)
      let s := (s.write (s.pageAt pg + 544 * (p % 256)) e).taintPage 0 pg 0
      match s.mirrorPkg with
      | some d => { s with ctrlQ := s.ctrlQ ++ [(d, .latent (s.dataIdx.1 * s.pageCount + pg) (p % 256) e)] }
      | none => s

/-! ### Migration (R204 to R206) -/

/-- Bring a request's own page list to a new page. -/
def State.swapPage (s : State) (m : Moving) : State :=
  { s with reqs := s.reqs.map (fun (r : Req) =>
      if r.scope = m.scope ∧ r.tag = m.tag then
        { r with pages := r.pages.map (fun x => if x.1 = m.layer ∧ x.2.1 = m.idx then (x.1, x.2.1, m.dst) else x) }
      else r) }

/-- Put a page in ascending layer and page order. -/
def insPage (x : Nat × Nat × Nat) : List (Nat × Nat × Nat) → List (Nat × Nat × Nat)
  | [] => [x]
  | y :: ys => if x.1 < y.1 ∨ (x.1 = y.1 ∧ x.2.1 < y.2.1) then x :: y :: ys else y :: insPage x ys

/-- Pages a request has still to move: REFCNT 1 pages out of tier N at a pause, tier F pages back at a resume, in
ascending layer and page order (R204, R205). -/
def State.toMove (s : State) (r : Req) : List (Nat × Nat × Nat) :=
  let out := r.st == ReqSt.paused
  let back := r.st == ReqSt.resuming
  (r.pages.filter (fun x => (out && !s.pageF x.2.2 && s.refs x.2.2 == 1 && s.pageSt x.2.2 == 1) || (back && s.pageF x.2.2 && s.pageSt x.2.2 == 1))).foldr
    insPage []

/-- What `done` lists for each page whose move the frame has started: 10 out of tier N, 11 into it. -/
def moveMark (out : Bool) : Nat := if out then 10 else 11

/-- Start moving one page: its copy's page is allocated in the other tier (R204, R205). -/
def State.startMove (s : State) (c : Nat) (r : Req) (x : Nat × Nat × Nat) : State :=
  let out := r.st == ReqSt.paused
  match s.allocPage out 4 with
  | (s, none) => (s.inc PGM_WAIT_POOL_EMPTY).evt PGM_EVT_POOL_EMPTY
  | (s, some d) =>
    let s := if out then (s.setPage d 4 1 0).setPage x.2.2 3 (s.refs x.2.2) (s.freedAt x.2.2) else s.setPage d 4 1 0
    { s with moving := s.moving ++ [⟨r.scope, r.tag, x.1, x.2.1, x.2.2, d, out, c⟩], done := s.done ++ [moveMark out] }

/-- Pages started in this frame in one direction (R204): the markers of `done` that stand for it. -/
def State.movedOf (s : State) (out : Bool) : Nat := (s.done.filter (fun m => m == moveMark out)).length

/-- PAGE_MIGRATE (R204, R205): a migration slot starts moves, at most MIG_PAGES per direction. `core` and `slot` name the
STREAM slot. -/
def execPageMigrate (t core slot : Nat) (s : State) : Host.Outcome State Fault Refusal :=
  let s := s.at t
  if s.slotDue core slot 3 then
    .next (s.reqs.foldl (fun s (r : Req) =>
      (s.toMove r).foldl (fun s x =>
        s.when (decide (s.movedOf (r.st == ReqSt.paused) < s.f PGM_MIG_MIG_PAGES)) (·.startMove core r x)) s) (s.mark core slot))
  else .next s

/-- The entries of a page read from tier F pass R183; a failure, or an uncorrectable line, loses the page (R206). -/
def State.pageReads (s : State) (p : Nat) (n : Nat) (lines : List Nat) : Bool :=
  !lines.any (fun l => decide (s.pageOff p ≤ l) && decide (l < s.pageOff p + 139264)) &&
    (List.range n).all (fun k => latentOk (s.bytes (s.pageAt p + 544 * k) 544))

/-- The first entry of a page that fails R183. -/
def State.badSlot (s : State) (p : Nat) (n : Nat) : Nat :=
  ((List.range n).find? (fun k => !latentOk (s.bytes (s.pageAt p + 544 * k) 544))).getD 0

/-- MIGRATE_DONE (R204 to R206): the oldest copy completes; the new page is ACTIVE and the old one enters QUARANTINE, its
taint recorded. An entry read back that fails R183 raises KV_CHECK. `lines` are uncorrectable tier F lines met. -/
def execMigrateDone (t : Nat) (lines : List Nat) (s : State) : Host.Outcome State Fault Refusal :=
  let s := s.at t
  match s.moving with
  | [] => .next s
  | m :: rest =>
    let s : State := { s with moving := rest }
    let n := match s.req m.scope m.tag with
      | some r => min 256 (r.horizon - 256 * m.idx)
      | none => 0
    if ¬ m.outw ∧ ¬ s.pageReads m.src n lines then
      let s := match lines with
        | l :: _ => s.tierUncorr true l true
        | [] => ((s.inc PGM_KV_CHECK).evt PGM_EVT_KV_CHECK).raise 2 0x16 3 m.core (s.badSlot m.src n * 2 ^ 32 + m.src)
      .next ((s.setPage m.dst 0 0 0).pageLost m.src)
    else
      let s := s.write (s.pageAt m.dst) (s.bytes (s.pageAt m.src) 139264)
      let dead := s.refs m.src == 0
      let s := s.setPage m.dst (if dead then 2 else 1) (bit (!dead)) (if dead then s.jobFrame else 0)
      let s := (s.taintPage 2 m.src 1).setPage m.src 2 0 s.jobFrame
      .next (s.swapPage m)

/-- COW_COPY (R231): copy slots copy the entries below the writer's horizon into the fresh page. -/
def execCowCopy (t core slot : Nat) (s : State) : Host.Outcome State Fault Refusal :=
  let s := s.at t
  if s.slotDue core slot 3 then
    .next (s.cow.foldl (fun s (c : CowCopy) =>
      (s.write (s.pageAt c.dst) (s.bytes (s.pageAt c.src) (544 * c.upto))).taintPage 0 c.dst 0)
      { s.mark core slot with cow := [] })
  else .next s

/-- TF_LOST (R206, R344, R345): a tier F channel fails or is reset; its pages are LOST while an image is active. -/
def execTfLost (t ch : Nat) (reset : Bool) (s : State) : Host.Outcome State Fault Refusal :=
  let s := s.at t
  if s.f (MEM_FCH_STATE ch) = 2 then
    let pages := if s.active then (List.range s.pageCount).filter (fun p => s.pageF p && s.pageSt p != 0 && s.pageSt p != 2 &&
      (List.range 34).any (fun k => match s.chanOf (s.pageOff p + 4096 * k) with
        | some c => c.1 == ch
        | none => false)) else []
    let s := if reset then s.chanTrain ch else (s.setf (MEM_FCH_STATE ch) 3).evt MEM_EVT_CH_FAIL
    let s := (s.setf MEM_ERRCAUSE_CAUSE 4).raise 2 0x22 9 ch (s.f (MEM_FCH_EPOCH ch))
    .next (pages.foldl State.pageLost s)
  else .next s

end Sys2Proof.Machine
end

