-- ==== Sys2Proof/Machine/Func.lean ====
section
/-! DEFINITION. The activation functions of R137. The spec bounds their error and fixes no result, so each result is the
free value `Config.func`, held to the bound: a free value outside it gives way to the rounded exact value. Exact values
are computed to 2^−90 in fixed point. -/

namespace Sys2Proof.Machine

/-- One in the fixed-point scale. -/
def fxOne : Int := 2 ^ 96

/-- A finite number in fixed point, rounded down. -/
def fxOf (n : Bool) (m : Nat) (e : Int) : Int :=
  let k : Int := if e ≥ -96 then (m * 2 ^ (e + 96).toNat : Nat) else (m / 2 ^ (-96 - e).toNat : Nat)
  if n then -k else k

/-- A fixed-point product. -/
def fxMul (a b : Int) : Int := a * b / fxOne

/-- ln 2 in fixed point: Σ 1 / (k 2^k). -/
def fxLn2 : Int := ((List.range 110).map (fun i => fxOne / ((i + 1) * 2 ^ (i + 1) : Nat))).sum

/-- Terms of the exponential series from term `i` on. -/
def fxExpTerms : Nat → Nat → Int → Int → Int
  | 0, _, _, _ => 0
  | n + 1, i, r, x => x + fxExpTerms n (i + 1) r (fxMul x r / ((i + 1 : Nat) : Int))

/-- e^x in fixed point for |x| at most 64. -/
def fxExp (x : Int) : Int :=
  let k := x / fxLn2
  let y := fxExpTerms 40 0 (x - k * fxLn2) fxOne
  if k ≥ 0 then y * 2 ^ k.toNat else y / 2 ^ (-k).toNat

/-- The logistic function σ in fixed point. -/
def fxSigmoid (x : Int) : Int :=
  if x ≥ 0 then fxOne * fxOne / (fxOne + fxExp (-x)) else fxOne * fxExp x / (fxOne + fxExp x)

/-- Terms Σ (−1)^i z^i / (i! (2i + 1)) of the error function's series. -/
def fxErfTerms : Nat → Nat → Int → Int → Int
  | 0, _, _, _ => 0
  | n + 1, i, z, x => x / ((2 * i + 1 : Nat) : Int) + fxErfTerms n (i + 1) z (-(fxMul x z) / ((i + 1 : Nat) : Int))

/-- 1/√(2π) and √(2/π), in fixed point. -/
def fxInvSqrt2Pi : Int := 3989422804014326779399460599343818684758 * fxOne / 10 ^ 40
def fxSqrt2OverPi : Int := 2 * fxInvSqrt2Pi

/-- Φ(x) = 1/2 + x/√(2π) Σ (−x²/2)^i / (i! (2i + 1)). -/
def fxPhi (x : Int) : Int := fxOne / 2 + fxMul fxInvSqrt2Pi (fxMul x (fxErfTerms 160 0 (fxMul x x / 2) fxOne))

/-- The code of a function in `Config.func`. -/
def FuncOp.code : FuncOp → Nat
  | .exp => 16 | .log => 17 | .recip => 18 | .rsqrt => 19 | .relu => 1 | .geluTanh => 2 | .geluErf => 3 | .silu => 4
  | .sigmoid => 5 | .tanh => 6 | .sqrelu => 7

/-- The exact value, in fixed point, of a function of R137 at |x| below 32. -/
def fxFunc (op : FuncOp) (x : Int) : Int :=
  match op with
  | .sigmoid => fxSigmoid x
  | .tanh => 2 * fxSigmoid (2 * x) - fxOne
  | .silu => fxMul x (fxSigmoid x)
  | .geluTanh =>
    let u := fxMul fxSqrt2OverPi (x + fxMul (44715 * fxOne / 1000000) (fxMul x (fxMul x x)))
    if u ≥ 32 * fxOne then x else if u ≤ -32 * fxOne then 0 else fxMul x (fxSigmoid (2 * u))
  | .geluErf => if x ≥ 9 * fxOne then x else if x ≤ -9 * fxOne then 0 else fxMul x (fxPhi x)
  | _ => 0

/-- What a function tends to at +∞ (`neg` false) and −∞: 0, 1 or −1 as a number, or the argument itself. -/
def funcLimit (op : FuncOp) (neg : Bool) (x : Num) : Num :=
  match op with
  | .sigmoid => if neg then .zero else numOfInt 1 0
  | .tanh => if neg then numOfInt (-1) 0 else numOfInt 1 0
  | _ => if neg then .zero else x

/-- The free value held to R137's bound: relative 2^−16 or absolute 2^−24, whichever is larger. -/
def boundFree (op : FuncOp) (x : Num) (y : Int) : Num :=
  let b : Nat := max (y.natAbs / 2 ^ 16) (2 ^ 72)
  match fp32Of (Config.func (FuncOp.code op) (BitVec.ofNat 32 (fp32Bits x))).toNat with
  | .fin n m e => if (fxOf n m e - y).natAbs ≤ b then .fin n m e else round32 (numOfInt y (-96))
  | _ => round32 (numOfInt y (-96))

/-- A function of R137 or R140 at an FP32 number. RELU and SQRELU are exact up to rounding; exp, log, reciprocal and
reciprocal square root have no stated result and are free values. -/
def funcAt (op : FuncOp) (x : Num) : Num :=
  match op with
  | .exp | .log | .recip | .rsqrt => fp32Of (Config.func (FuncOp.code op) (BitVec.ofNat 32 (fp32Bits x))).toNat
  | .relu => if numLt x .zero then .zero else x
  | .sqrelu => if numLt x .zero then .zero else fmul x x
  | _ =>
    match x with
    | .nan => .nan
    | .inf n => funcLimit op n x
    | .fin n m e => if magLtHalf m e 64 0 then boundFree op x (fxFunc op (fxOf n m e)) else funcLimit op n x

/-- The activation a code of R137 names; reserved codes do not occur in an accepted image. -/
def actAt (code : Nat) (x : Num) : Num :=
  match code with
  | 1 => funcAt .relu x | 2 => funcAt .geluTanh x | 3 => funcAt .geluErf x | 4 => funcAt .silu x
  | 5 => funcAt .sigmoid x | 6 => funcAt .tanh x | 7 => funcAt .sqrelu x | _ => x

end Sys2Proof.Machine
end

