-- ==== Sys2Proof/Machine/Readout.lean ====
section
/-! DEFINITION. Core transfers in STREAM slots: readout, spill, fill and scrub (R119 to R122, R131 to R139, R151). -/

namespace Sys2Proof.Machine

/-- The core transfer descriptor of a STREAM slot, when DESC bit 23 is 0 (R133, R284). -/
def State.xferDesc (s : State) (c i : Nat) : Option (Nat × Nat) :=
  let d := slotDesc (s.entry c i)
  if bits d 23 1 = 1 then none
  else match s.sched with
    | none => none
    | some sc => (sc.xfer[d]?).map (fun w => (w.1.toNat, w.2.toNat))

/-- Stages 1 and 2 of a readout (R132, R134): convert and scale. -/
def State.readLane (s : State) (T g set j : Nat) : Num :=
  let v := if s.b (ACC_STAT_TAG_VALID T g) then round32 (numOfInt (s.lane T g j) (s.fi (ACC_STAT_TAG T g) - 127)) else .zero
  fmul v (fp32Of (s.f (RING_SDATA_SCALE (4 * T + set) j)))

/-- Fusing with an operand (R134, R136): 1 add, 2 multiply. -/
def fuse (code : Nat) (v u : Num) : Num := if code = 1 then fadd v u else if code = 2 then fmul v u else v

/-- Pooling of 2^w lanes: maximum, or mean as the rounded sum in lane order times 2^−w (R134). -/
def poolLane (mean : Bool) (w : Nat) (v : List Num) : Num :=
  if mean then fmul ((v.drop 1).foldl fadd (v.getD 0 .zero)) (numOfInt 1 (-(w : Int)))
  else (v.drop 1).foldl numMax (v.getD 0 .zero)

/-- A vector as plain little-endian FP32 or BF16 (R138). -/
def plainBytes (fp32 : Bool) (v : List Num) : List Nat :=
  (v.map (fun x => if fp32 then leBytes 4 (fp32Bits x) else leBytes 2 (bf16Bits (round16 x)))).flatten

/-- Elements of a plain BF16 or FP32 vector. -/
def plainVals (fp32 : Bool) (n : Nat) (bs : List Nat) : List Num :=
  (List.range n).map (fun j => if fp32 then fp32Of (leNat ((bs.drop (4 * j)).take 4)) else bf16Of (leNat ((bs.drop (2 * j)).take 2)))

/-- The output lanes of a readout (R134): convert, scale, fuse, activate, fuse, pool. -/
def State.readoutLanes (s : State) (T w0 : Nat) (u : List Num) : List Num :=
  let g := bits w0 58 4
  let fz := bits w0 24 2
  let pos := bits w0 23 1
  let pw := bits w0 20 2
  let one (j : Nat) : Num :=
    let v := s.readLane T g (bits w0 30 2) j
    let v := if pos = 0 then fuse fz v (u.getD j .zero) else v
    let v := actAt (bits w0 26 4) v
    if pos = 1 then fuse fz v (u.getD j .zero) else v
  let vs := (List.range 256).map one
  (List.range (256 / 2 ^ pw)).map (fun i => poolLane (bits w0 19 1 == 1) pw ((vs.drop (i * 2 ^ pw)).take (2 ^ pw)))

/-- Emit lanes in OUT_FMT (R134 stage 7, R138). -/
def State.emit (s : State) (c sel off fmt stream : Nat) (v : List Num) : State :=
  if fmt = 0 then s.putPkts c sel off stream false v
  else if fmt = 1 then s.putPkts c sel off stream true v
  else s.writeSpd c sel off (plainBytes (fmt == 3) v)

/-- READOUT (R134): a STREAM slot reads a group out. -/
def execReadout (t core slot : Nat) (errs : List WordErr) (s : State) : Host.Outcome State Fault Refusal :=
  let s := s.at t
  match s.xferDesc core slot with
  | none => .next s
  | some (w0, w1) =>
    if s.slotDue core slot 3 ∧ bits w0 62 2 = 0 then
      let T := 8 * core + bits w0 55 3
      let s := (s.mark core slot).inc (RING_XFER_READOUTS T)
      let r := if bits w0 24 2 = 0 then (⟨s, [], false⟩ : Rd)
        else s.readSpd core (bits w1 61 3) (8 * bits w1 44 17) (if bits w0 22 1 = 1 then 1024 else 512) errs
      let u := if r.bad then [] else plainVals (bits w0 22 1 == 1) 256 r.bs
      .next (r.s.emit core (bits w0 52 3) (8 * bits w0 35 17) (bits w0 32 3) (bits w1 28 16) (r.s.readoutLanes T w0 u))
    else .next s

/-- SPILL (R119, R120): a STREAM slot spills a group as S32. -/
def execSpill (t core slot : Nat) (s : State) : Host.Outcome State Fault Refusal :=
  let s := s.at t
  match s.xferDesc core slot with
  | none => .next s
  | some (w0, _) =>
    if s.slotDue core slot 3 ∧ bits w0 62 2 = 1 then
      let T := 8 * core + bits w0 55 3
      let off := 8 * bits w0 35 17
      let s := (s.mark core slot).inc (RING_XFER_SPILLS T)
      .next (s.writeSpd core (bits w0 52 3) off (s.spillBytes T (bits w0 58 4) off))
    else .next s

/-- FILL (R122): a STREAM slot restores a group from S32; a poisoned source leaves the group with TAG_VALID = 0. -/
def execFill (t core slot : Nat) (errs : List WordErr) (s : State) : Host.Outcome State Fault Refusal :=
  let s := s.at t
  match s.xferDesc core slot with
  | none => .next s
  | some (w0, _) =>
    if s.slotDue core slot 3 ∧ bits w0 62 2 = 2 then
      let T := 8 * core + bits w0 55 3
      let off := 8 * bits w0 35 17
      let s := (s.mark core slot).inc (RING_XFER_FILLS T)
      let r := s.readSpd core (bits w0 52 3) off 1032 errs
      if r.bad then .next (r.s.setf (ACC_STAT_TAG_VALID T (bits w0 58 4)) 0)
      else .next (r.s.fillGroup T (bits w0 58 4) r.bs (r.s.gaddr (spd ((reach core (bits w0 52 3)).getD core) off)))
    else .next s

/-- SCRUB (R151): every logged word of the bank is read, corrected and rewritten, and the log is emptied. -/
def execScrub (t core slot : Nat) (s : State) : Host.Outcome State Fault Refusal :=
  let s := s.at t
  match s.xferDesc core slot with
  | none => .next s
  | some (w0, _) =>
    if s.slotDue core slot 3 ∧ bits w0 62 2 = 3 then
      let b := slotTarget (s.entry core slot) % 16
      let s : State := s.mark core slot
      .next ({ s with scrubLog := serase s.scrubLog (16 * core + b) }.setf (SPD_PEND core b) 0)
    else .next s

end Sys2Proof.Machine
end

