-- ==== Sys2Proof/Machine/Wide.lean ====
section
/-! DEFINITION. The wide engine: the instruction classes of R140, tasks, deposits, mixture-of-experts routing (R14 to
R19) and the parity cross-check (R363). -/

namespace Sys2Proof.Machine

/-- What a task works on: the state, its own vectors, and whether it has met a flagged block (R108). -/
structure WEnv where
  s       : State
  v       : List (VReg × List Num)
  flagged : Bool
  degr    : Bool

/-- A working vector; empty until written. -/
def WEnv.get (w : WEnv) (r : VReg) : List Num := (sfind w.v r).getD []
/-- Replace a working vector. -/
def WEnv.put (w : WEnv) (r : VReg) (x : List Num) : WEnv := { w with v := sput w.v r x }

/-- A block's elements for the wide engine: as stored, or from its wide copy record in a repeat (R110, R142). The
result says whether the record was missing and whether its own flag marks a loss (R113). -/
def State.blkWide (s : State) (c : Nat) (st : Stream) (a8 useWc : Bool) (b : Blk) (pkt blk : Nat) : State × List Num × Bool × Bool :=
  if b.flag < 2 ∨ ¬ useWc then (s, blkVals a8 b, false, false)
  else match s.findWc c st pkt blk with
    | .missing => (s, blkVals a8 b, true, false)
    | .broken off => ((s.raise 2 0x0C 3 c (s.gaddr (spd c off))).inc (RING_CNT_COUNT c 7), List.replicate 32 .zero, false, false)
    | .found _ _ own vals => (s, vals, false, decide (own ≥ 2))

/-- The elements of a run of blocks, four to a packet. -/
def State.blksWide (s : State) (c : Nat) (st : Stream) (a8 useWc : Bool) (pkt0 : Nat) : Nat → List Blk → State × List Num × Bool × Bool
  | _, [] => (s, [], false, false)
  | i, b :: bs =>
    let r := s.blkWide c st a8 useWc b (pkt0 + i / 4) (i % 4)
    let q := r.1.blksWide c st a8 useWc pkt0 (i + 1) bs
    (q.1, r.2.1 ++ q.2.1, r.2.2.1 || q.2.2.1, r.2.2.2 || q.2.2.2)

/-- Lane by lane over two vectors. -/
def zipN (f : Num → Num → Num) (a b : List Num) : List Num := List.zipWith f a b

/-- A VEC operation (R140): less gives 1 or 0; select takes `b` where `a` is not zero, `c` elsewhere. -/
def vecOp (op : VecOp) (a b c : List Num) : List Num :=
  match op with
  | .add => zipN fadd a b
  | .mul => zipN fmul a b
  | .min => zipN numMin a b
  | .max => zipN numMax a b
  | .less => zipN (fun x y => if numLt x y then numOfInt 1 0 else .zero) a b
  | .select => (List.range a.length).map (fun i => if (a.getD i .zero).isZero then c.getD i .zero else b.getD i .zero)

/-- The index of the largest element not yet taken, the lower index first when equal (R15). -/
def argMax (v : List Num) (taken : List Nat) : Nat → Option Nat
  | 0 => none
  | n + 1 =>
    match argMax v taken n with
    | none => if taken.contains n then none else some n
    | some m => if taken.contains n then some m else if numLt (v.getD m .zero) (v.getD n .zero) then some n else some m

/-- The indices of the `k` largest elements, in falling order (R15, R140). -/
def topIdx (v : List Num) : Nat → List Nat → List Nat
  | 0, acc => acc
  | k + 1, acc =>
    match argMax v acc v.length with
    | none => acc
    | some i => topIdx v k (acc ++ [i])

/-- One assignment of the mixture-of-experts fill (R16): the token enters the expert's next slot or overflows. -/
def moeAssign (cap : Nat) (m : List (Nat × List Nat) × List Nat) (tok ex : Nat) : List (Nat × List Nat) × List Nat :=
  let q := (sfind m.1 ex).getD []
  if q.length < cap then (sput m.1 ex (q ++ [tok]), m.2) else (m.1, m.2 ++ [ex])

/-- The fill order of R16: first choices in ascending batch-slot order, then second choices, and so on. -/
def moeFill (cap : Nat) (choices : List (List Nat)) : Nat → List (Nat × List Nat) × List Nat → List (Nat × List Nat) × List Nat
  | 0, m => m
  | k + 1, m =>
    let m := moeFill cap choices k m
    (List.range choices.length).foldl (fun m t =>
      match (choices.getD t [])[k]? with
      | none => m
      | some ex => moeAssign cap m t ex) m

/-- Deposit a vector at exponent `e` (R128, R156): each lane D = ⌊v × 2^(127 − e)⌉, ties away from zero. The spec gives
no integer for a NaN or an infinity: a free value (notes/assumptions/11.md). -/
def depLane (e : Int) : Num → Int
  | .fin n m x => quantAway n m x (e - 127)
  | x => (Config.depOpen (BitVec.ofNat 32 (fp32Bits x))).toInt

/-- Lanes of the parity cross-check beyond the tolerance (R363). -/
def xchkBad (a : List Num) (bs : List (List Num)) (tol : List Num) : Nat :=
  ((List.range a.length).filter (fun j =>
    let d := numAdd (a.getD j .zero) (numNeg (bs.foldl (fun x b => numAdd x (b.getD j .zero)) .zero))
    let t := tol.getD j .zero
    numLt t d || numLt d (numNeg t))).length

/-- A failed cross-check: PARITY_XCHK, FATAL at PX_LIMIT failures of the group within OBS_FRAMES (R363). -/
def State.xchkFail (s : State) (group product : Nat) : State :=
  let recent := s.pxFails.filter (fun p => p.1 ≠ group ∨ p.2 + s.f CHK_OBS_OBS_FRAMES > s.jobFrame)
  let fails := recent ++ [(group, s.jobFrame)]
  let n := (fails.filter (fun p => p.1 = group)).length
  let s : State := { s with pxFails := fails }
  if n ≥ s.f CHK_CFG_PX_LIMIT then (s.raise 3 0x06 10 group product).evt CHK_EVT_PX_ESCALATE
  else s.raise 2 0x06 10 group product

/-- One operation of a task run in core `c` (R140 to R142). -/
def WEnv.op (w : WEnv) (c : Nat) (useWc : Bool) (errs : List WordErr) (note : SlotNote) (o : WideOp) : WEnv :=
  match o with
  | .load d .a4 l n stream =>
    let r := w.s.takePkts c l.sel false errs n l.off
    let b := r.1.blksWide c (r.1.stream c stream) false useWc note.firstPkt 0 r.2
    { (WEnv.put { w with s := b.1 } d b.2.1) with flagged := w.flagged || b.2.2.1, degr := w.degr || b.2.2.2 }
  | .load d .a8 l n stream =>
    let r := w.s.takePkts c l.sel true errs n l.off
    let b := r.1.blksWide c (r.1.stream c stream) true useWc note.firstPkt 0 r.2
    { (WEnv.put { w with s := b.1 } d b.2.1) with
      flagged := w.flagged || r.2.any (fun x => decide (x.flag ≥ 2)) && !(useWc && !b.2.2.1), degr := w.degr || b.2.2.2 }
  | .load d .bf16 l n _ =>
    let r := w.s.readSpd c l.sel l.off (2 * n) errs
    WEnv.put { w with s := r.s } d (if r.bad then List.replicate n .zero else plainVals false n r.bs)
  | .load d .fp32 l n _ =>
    let r := w.s.readSpd c l.sel l.off (4 * n) errs
    WEnv.put { w with s := r.s } d (if r.bad then List.replicate n .zero else plainVals true n r.bs)
  | .loadW8 d l rows cols j =>
    let r := w.s.readSpd c l.sel (l.off + j * rows) rows errs
    let x := r.s.readSpd c l.sel (l.off + cols * rows + j * (rows / 32)) (rows / 32) errs
    WEnv.put { w with s := x.s } d (if r.bad || x.bad then List.replicate rows .zero
      else (List.range rows).map (fun i => numOfInt (signed 8 (r.bs.getD i 0)) ((x.bs.getD (i / 32) 0 : Int) - 131)))
  | .mac8 d a b => w.put d (w.get d ++ [(zipN numMul (w.get a) (w.get b)).foldl numAdd .zero])
  | .macBf d a b =>
    w.put d (w.get d ++ [(zipN (fun x y => numMul (round16 x) (round16 y)) (w.get a) (w.get b)).foldl (fun z p => round32 (numAdd z p)) .zero])
  | .mac32 d a b e => w.put d ((List.range (w.get a).length).map (fun i =>
      ffma (round32 ((w.get a).getD i .zero)) (round32 ((w.get b).getD i .zero)) (round32 ((w.get e).getD i .zero))))
  | .vec d op a b e => w.put d (vecOp op ((w.get a).map round32) ((w.get b).map round32) ((w.get e).map round32))
  | .func d op a => w.put d ((w.get a).map (fun x => funcAt op (round32 x)))
  | .sum d a => w.put d [((w.get a).map round32).foldl fadd .zero]
  | .maximum d a => w.put d [((w.get a).drop 1).foldl numMax ((w.get a).getD 0 .zero)]
  | .topk d a k => w.put d ((topIdx (w.get a) (min k 64) []).map (fun i => (w.get a).getD i .zero))
  | .store .a4 l a stream => { w with s := w.s.putPkts c l.sel l.off stream false ((w.get a).map round32) }
  | .store .a8 l a stream => { w with s := w.s.putPkts c l.sel l.off stream true ((w.get a).map round32) }
  | .store .bf16 l a _ => { w with s := w.s.writeSpd c l.sel l.off (plainBytes false (w.get a)) }
  | .store .fp32 l a _ => { w with s := w.s.writeSpd c l.sel l.off (plainBytes true ((w.get a).map round32)) }
  | .copy x y n =>
    let r := w.s.readSpd c x.sel x.off n errs
    { w with s := r.s.writeSpd c y.sel y.off r.bs }
  | .gather d a idx => w.put d (idx.map (fun i => (w.get a).getD i .zero))
  | .transpose d a rows cols => w.put d ((List.range (rows * cols)).map (fun k => (w.get a).getD ((k % rows) * cols + k / rows) .zero))
  | .dep tile g a e => { w with s := w.s.merge (8 * c + tile % 8) (g % 16) ((w.get a).map (depLane e)) e }
  | .moe layer experts k cap toks lg l =>
    let choices := (List.range toks).map (fun t => topIdx (((w.get lg).drop (t * experts)).take experts) k [])
    let m := moeFill cap choices k ([], [])
    let s := (List.range experts).foldl (fun s e =>
      (s.add (SRV_MOEDATA_FILLED layer e) ((sfind m.1 e).getD []).length).add (SRV_MOEDATA_OVERFLOW layer e) ((m.2.filter (fun x => x = e)).length)) w.s
    let tab := ((List.range experts).map (fun e => ((List.range cap).map (fun i =>
      leBytes 2 (match ((sfind m.1 e).getD [])[i]? with
        | none => 0
        | some t => t + 1))).flatten)).flatten
    { w with s := s.writeSpd c l.sel l.off tab }
  | .kv layer slot pos a => { w with s := w.s.writeLatent layer slot pos ((w.get a).map round32) }
  | .xchk group product a bs tol =>
    { w with s := w.s.when (decide (xchkBad (w.get a) (bs.map w.get) (w.get tol) ≥ w.s.f CHK_CFG_HARD_LANES)) (·.xchkFail group product) }

/-- A whole task. -/
def State.runTask (s : State) (c : Nat) (useWc : Bool) (errs : List WordErr) (note : SlotNote) (ops : List WideOp) : WEnv :=
  ops.foldl (fun w o => w.op c useWc errs note o) ⟨s, [], false, false⟩

/-- The WIDE descriptor of a slot (R140, R158). -/
def State.wideDesc (s : State) (c i : Nat) : Option WideDesc :=
  match s.sched with
  | none => none
  | some sc => sc.wide[slotDesc (s.entry c i)]?

/-- WIDE_TASK (R140): a WIDE slot runs its descriptor's work. A task that meets a flagged block has no result until its
REPAIR slot serves or keeps it (R108, R109). -/
def execWideTask (t core slot : Nat) (errs : List WordErr) (s : State) : Host.Outcome State Fault Refusal :=
  let s := s.at t
  if s.slotDue core slot 2 then
    match s.wideDesc core slot with
    | some (.task ops _ _) =>
      let w := (s.mark core slot).runTask core false errs (s.note core slot) ops
      if w.flagged then .next { s.mark core slot with wideRep := s.wideRep ++ [(core, slot)] } else .next w.s
    | _ => .next s
  else .next s

end Sys2Proof.Machine
end

