-- ==== Sys2Proof/Machine/Attention.lean ====
section
/-! DEFINITION. Attention and sampling on the wide engines: R190 to R195, R232 to R239. -/

namespace Sys2Proof.Machine

/-! ### Scores (R190) -/

/-- The FP32 pattern of a value; and back. -/
def bitsOfNum (x : Num) : Nat := fp32Bits x

/-- The exact dot product of two code lists. -/
def dotCodes (a b : List Int) : Int := (List.zipWith (fun x y => x * y) a b).sum

/-- A block's codes for a reader: UNDERFLOW reads as zeros, SATURATE as stored (R182). -/
def readCodes (b : Blk) : List Int := if b.flag = 2 then List.replicate 32 0 else b.codes

/-- The score of a head's query record against an entry (R190). -/
def score (scale : Num) (q e : List Nat) : Num :=
  let sum := (List.range 16).foldl (fun acc b =>
    let x := latentBlk q b
    let y := latentBlk e b
    fadd acc (round32 (numOfInt (dotCodes (readCodes x) (readCodes y)) ((x.e : Int) + y.e - 262)))) Num.zero
  fmul scale sum

/-- The latent value at dimension `i` of an entry, exactly (R181, R182). -/
def latentAt (e : List Nat) (i : Nat) : Num :=
  let b := latentBlk e (i / 32)
  numOfInt ((readCodes b).getD (i % 32) 0) ((b.e : Int) - 131)

/-- One head's running quantities (R191): m, s and a. -/
structure Head where
  m : Num
  s : Num
  a : List Num

/-- A head before the first page. -/
def Head.start : Head := ⟨.inf true, .zero, List.replicate 480 .zero⟩

/-- The weights of one head over the visible entries: encoded as A8, 32 positions to a block, and decoded (R191). -/
def weights (ps : List Num) : List Num :=
  ((List.range ((ps.length + 31) / 32)).map (fun k =>
    let v := (ps.drop (32 * k)).take 32
    blkVals true (encBlock true 1 250 (v ++ List.replicate (32 - v.length) Num.zero)))).flatten

/-- One page's part of the running sums of a head (R191). -/
def Head.page (h : Head) (scale : Num) (q : List Nat) (es : List (List Nat)) : Head :=
  let sc := es.map (score scale q)
  let m' := sc.foldl numMax h.m
  let c := if h.m = .inf true then Num.zero else funcAt .exp (round32 (numAdd h.m (numNeg m')))
  let p := weights (sc.map (fun x => funcAt .exp (round32 (numAdd x (numNeg m')))))
  let blocks := List.range ((es.length + 31) / 32)
  let dim (i : Nat) : Num := blocks.foldl (fun acc k =>
    fadd acc (round32 ((List.range 32).foldl (fun z j =>
      numAdd z (numMul (p.getD (32 * k + j) .zero) (latentAt (es.getD (32 * k + j) []) i))) Num.zero))) Num.zero
  ⟨m', fadd (fmul h.s c) ((p.take es.length).foldl fadd .zero), (List.range 480).map (fun i => fadd (fmul (h.a.getD i .zero) c) (dim i))⟩

/-- The visible entries of a page for a query at position `q` (R183, R200), checked as they are read. -/
def State.visible (s : State) (c page base hor q : Nat) (lines : List Nat) : Nat → State × List (List Nat)
  | 0 => (s, [])
  | n + 1 =>
    let r := s.visible c page base hor q lines n
    let t := base + n
    if t < hor ∨ t ≤ q then
      let rd := r.1.readTier false (r.1.pageOff page + 544 * n) 544 lines
      if rd.bad ∨ ¬ latentOk rd.bs then
        (if t < hor ∨ latentFrame rd.bs = rd.s.jobFrame % 2 ^ 32 then (rd.s.kvCheck c page n (latentFrame rd.bs), r.2) else (rd.s, r.2))
      else if t < hor ∨ latentFrame rd.bs = rd.s.jobFrame % 2 ^ 32 then (rd.s, r.2 ++ [rd.bs])
      else r
    else r

/-- SATURATE and UNDERFLOW blocks read are counted; SATURATE degrades the batch slot with cause KV_SATURATE (R182, R208). -/
def State.kvFlags (s : State) (c slot : Nat) (e : List Nat) : State :=
  let fl := (List.range 16).map (fun b => (latentBlk e b).flag)
  let sat := (fl.filter (· == 3)).length
  let s := (s.add PGM_KV_SATURATE sat).add PGM_KV_UNDERFLOW ((fl.filter (· == 2)).length)
  s.when (decide (0 < sat)) (fun s => (s.degradeMark c 4 [slot]).evt PGM_EVT_KV_SATURATE)

/-- The attention over a range of pages for every head (R191). -/
def State.attendPages (s : State) (c : Nat) (a : Attend) (r : Req) (bkt : Nat) (qs : List (List Nat)) (lines : List Nat) :
    Nat → Nat → List Head → State × List Head
  | 0, _, hs => (s, hs)
  | n + 1, i, hs =>
    let g := s.globalPage bkt i
    match r.pageOf a.layer g with
    | none => s.attendPages c a r bkt qs lines n (i + 1) hs
    | some pg =>
      let v := s.visible c pg (256 * g) r.horizon (r.horizon + a.pos) lines 256
      let s := v.2.foldl (fun s e => s.kvFlags c a.slot e) v.1
      let hs := if v.2.isEmpty then hs else List.zipWith (fun (h : Head) q => h.page (fp32Of a.scale) q v.2) hs qs
      s.attendPages c a r bkt qs lines n (i + 1) hs

/-- A partial record (R193). -/
def partRecord (slot layer heads frame : Nat) (empty : Bool) (hs : List Head) : List Nat :=
  let head := leBytes 2 slot ++ leBytes 2 layer ++ leBytes 2 heads ++ [bit empty, 0] ++ leBytes 4 frame
  let body := (hs.map (fun h => leBytes 4 (bitsOfNum h.m) ++ leBytes 4 (bitsOfNum h.s) ++ (h.a.map (fun x => leBytes 4 (bitsOfNum x))).flatten)).flatten
  head ++ leBytes 4 (crc32 (head ++ [0, 0, 0, 0] ++ body)) ++ body

/-- ATTEND (R190 to R193): `errs` are scratchpad bit errors met, `lines` uncorrectable tier N lines. -/
def execAttend (t core slot : Nat) (errs : List WordErr) (lines : List Nat) (s : State) : Host.Outcome State Fault Refusal :=
  let s := s.at t
  if s.slotDue core slot 2 then
    match s.wideDesc core slot with
    | some (.attend a) =>
      let s := s.mark core slot
      let rd := s.readSpd core a.q.sel a.q.off (544 * a.heads) errs
      let qs := (List.range a.heads).map (fun h => (rd.bs.drop (544 * h)).take 544)
      let hs := List.replicate a.heads Head.start
      let frame := rd.s.jobFrame % 2 ^ 32
      match rd.s.slotReq a.slot with
      | none => .next (rd.s.writeSpd core a.out.sel a.out.off (partRecord a.slot a.layer a.heads frame true hs))
      | some r =>
        let bkt := (r.step.map StepRun.bkt).getD 10
        let r2 := rd.s.attendPages core a r (bkt - 10) qs lines a.pages a.page0 hs
        let last := (r.horizon + (r.step.map StepRun.fed).getD 1 - 1) / 256
        let empty := decide (last < rd.s.globalPage (bkt - 10) a.page0)
        .next (r2.1.writeSpd core a.out.sel a.out.off (partRecord a.slot a.layer a.heads frame empty r2.2))
    | _ => .next s
  else .next s

/-! ### The merge (R194) -/

/-- A partial record read back, its CRC judged. -/
def partOk (bs : List Nat) : Bool := crc32 (bs.take 12 ++ [0, 0, 0, 0] ++ bs.drop 16) == leNat ((bs.drop 12).take 4)

/-- A FP32 at byte `o`. -/
def f32At (bs : List Nat) (o : Nat) : Num := fp32Of (leNat ((bs.drop o).take 4))

/-- A head's merged latent output A / S (R194). -/
def mergeHead (parts : List (List Nat)) (h : Nat) : List Num :=
  let o := 16 + 1928 * h
  let mx := parts.foldl (fun m p => numMax m (f32At p o)) (Num.inf true)
  let w (p : List Nat) : Num := if f32At p o = .inf true then .zero else funcAt .exp (round32 (numAdd (f32At p o) (numNeg mx)))
  let sum := parts.foldl (fun z p => fadd z (fmul (f32At p (o + 4)) (w p))) Num.zero
  (List.range 480).map (fun i =>
    fdiv (parts.foldl (fun z p => fadd z (fmul (f32At p (o + 8 + 4 * i)) (w p))) Num.zero) sum)

/-- One column of a W8 value expansion applied to a head's output (R115, R194). -/
def expandCol (x : List Num) (w : List Nat) (j : Nat) : Num :=
  round32 ((List.range 480).foldl (fun z i =>
    numAdd z (numMul (x.getD i .zero) (numOfInt (signed 8 (w.getD (480 * j + i) 0)) (((w.getD (480 * 128 + 15 * j + i / 32) 0 : Nat) : Int) - 131)))) Num.zero)

/-- The partial records a merge reads; one that fails its CRC raises PART_CHECK (R194). -/
def State.readParts (s : State) (c : Nat) (m : Merge) (errs : List WordErr) : List Loc → State × List (List Nat)
  | [] => (s, [])
  | l :: ls =>
    let rd := s.readSpd c l.sel l.off (16 + 1928 * m.heads) errs
    if rd.bad ∨ ¬ partOk rd.bs then
      let s := ((rd.s.inc PGM_KV_CHECK).evt PGM_EVT_PART_CHECK).raise 2 0x17 3 c (m.layer * 2 ^ 16 + m.slot)
      s.readParts c m errs ls
    else
      let r := rd.s.readParts c m errs ls
      (r.1, if rd.bs.getD 6 0 % 2 = 1 then r.2 else rd.bs :: r.2)

/-- ATTN_MERGE (R194). -/
def execAttnMerge (t core slot : Nat) (errs : List WordErr) (s : State) : Host.Outcome State Fault Refusal :=
  let s := s.at t
  if s.slotDue core slot 2 then
    match s.wideDesc core slot with
    | some (.merge m) =>
      let r := (s.mark core slot).readParts core m errs m.parts
      let step (s : State) (h : Nat) : State :=
        let l := m.xs.getD h ⟨0, 0⟩
        let rd := s.readSpd core l.sel l.off (480 * 128 + 15 * 128) errs
        let y := mergeHead r.2 h
        rd.s.writeSpd core m.out.sel (m.out.off + 512 * h)
          (((List.range 128).map (fun j => leBytes 4 (bitsOfNum (expandCol y rd.bs j)))).flatten)
      .next ((List.range m.heads).foldl step r.1)
    | _ => .next s
  else .next s

/-! ### Sampling (R232 to R238) -/

/-- A sampling record's fields (R232). -/
def recTemp (r : List Nat) : Num := f32At r 0
def recTopP (r : List Nat) : Num := f32At r 4
def recMinP (r : List Nat) : Num := f32At r 8
def recPen (r : List Nat) : Num := f32At r 12
def recTopK (r : List Nat) : Nat := leNat ((r.drop 16).take 2)
def recWin (r : List Nat) : Nat := leNat ((r.drop 18).take 2)
def recBias (r : List Nat) : Nat := leNat ((r.drop 20).take 2)
def recStops (r : List Nat) : List Nat := (List.range (r.getD 22 0)).map (fun i => leNat ((r.drop (32 + 4 * i)).take 4))
def recMask (r : List Nat) : Nat := r.getD 23 0

/-- The bitmap allows token `v` (R233); an absent mask allows all. -/
def maskAllows (m : List Nat) (v : Nat) : Bool := m.isEmpty || m.getD (v / 8) 0 / 2 ^ (v % 8) % 2 == 1

/-- The tokens among the REP_WIN positions below a sampled one (R234): the tokens in position order, and the draft tokens of the
step before it. -/
def Req.window (r : Req) (drafts : List Nat) (pos : Nat) : List Nat :=
  let all := r.input ++ drafts.take pos
  all.drop (all.length - min all.length (recWin r.sample))

/-- One token's adjusted logit (R234): bias and mask, repetition penalty, temperature. -/
def adjust (r : Req) (win : List Nat) (v : Nat) (z : Num) : Num :=
  let bias := (List.range (recBias r.sample)).foldl (fun z i =>
    if leNat ((r.sample.drop (64 + 8 * i)).take 4) = v then fadd z (f32At r.sample (68 + 8 * i)) else z) z
  let z := if maskAllows r.mask v then bias else .inf true
  let pen := recPen r.sample
  let z := if win.contains v then (if numLt .zero z then fdiv z pen else fmul z pen) else z
  if (recTemp r.sample).isZero then z else fdiv z (recTemp r.sample)

/-- Draft tokens are kept by batch slot and micro-batch of the step. -/
def stepKey (x : StepRun) : Nat := 4 * x.slot + x.frame % 4

/-- The draft tokens of a request's step, in order. -/
def State.drafts (s : State) (r : Req) : List Nat :=
  match r.step with
  | none => []
  | some x => (List.range 8).filterMap (fun k => (s.draftTok.find? (fun d => d.1 = stepKey x ∧ d.2.1 = k)).map (fun d => d.2.2))

/-- SHARD_SUMMARY (R234): a shard's summary — mx, sum and its 64 best candidates — kept for the sampling unit. -/
def execShardSummary (t core slot : Nat) (errs : List WordErr) (s : State) : Host.Outcome State Fault Refusal :=
  let s := s.at t
  if s.slotDue core slot 2 then
    match s.wideDesc core slot with
    | some (.shard d) =>
      let rd := (s.mark core slot).readSpd core d.logits.sel d.logits.off (4 * d.count) errs
      match rd.s.slotReq d.slot with
      | none => .next rd.s
      | some r =>
        let win := r.window (rd.s.drafts r) d.pos
        let z := (List.range d.count).map (fun i => adjust r win (d.first + i) (f32At rd.bs (4 * i)))
        let mx := z.foldl numMax (.inf true)
        let sum := z.foldl (fun acc x => fadd acc (if x = .inf true then .zero else funcAt .exp (round32 (numAdd x (numNeg mx))))) Num.zero
        let top := (topIdx z (min 64 d.count) []).filter (fun i => (z.getD i .zero) ≠ .inf true)
        let out := [bitsOfNum mx, bitsOfNum sum] ++ (top.map (fun i => [d.first + i, bitsOfNum (z.getD i .zero)])).flatten
        .next { rd.s with summaries := rd.s.summaries.filter (fun x => ¬ (x.1 = d.slot ∧ x.2.1 = d.pos ∧ x.2.2.1.idx = d.idx ∧ x.2.2.1.draft = d.draft)) ++ [(d.slot, d.pos, d, out)] }
    | _ => .next s
  else .next s

/-- Merged candidates in falling order, the lower token first when equal (R235). -/
def insertCand (x : Nat × Num) : List (Nat × Num) → List (Nat × Num)
  | [] => [x]
  | y :: ys => if numLt y.2 x.2 ∨ (¬ numLt x.2 y.2 ∧ x.1 < y.1) then x :: y :: ys else y :: insertCand x ys

/-- The candidates of a shard's summary. -/
def candsOf (o : List Nat) : Nat → List (Nat × Num)
  | 0 => []
  | n + 1 => candsOf o n ++ (if 2 + 2 * n + 1 < o.length then [(o.getD (2 + 2 * n) 0, fp32Of (o.getD (2 + 2 * n + 1) 0))] else [])

/-- The shortest leading run whose cumulative p reaches TOP_P; all when there is none (R235). -/
def topP (tp : Num) : List (Nat × Num) → Num → List (Nat × Num) → List (Nat × Num)
  | [], _, all => all
  | x :: xs, cum, acc =>
    let c := fadd cum x.2
    if numLt c tp then topP tp xs c (acc ++ [x]) else acc ++ [x]

/-- The first candidate whose cumulative q exceeds u, or the last (R236). -/
def pick (u : Num) : List (Nat × Num) → Num → Option Nat
  | [], _ => none
  | [x], _ => some x.1
  | x :: y :: r, cum => let c := fadd cum x.2
    if numLt u c then some x.1 else pick u (y :: r) c

/-- The draw u of a position (R236). -/
def drawU (seed pos : Nat) : Num :=
  numOfInt ((philox seed (pos % 2 ^ 32) (pos / 2 ^ 32 % 2 ^ 32) 0 0 / 2 ^ 8 : Nat) : Int) (-24)

/-- The token the sampling unit takes at a position of a step (R235 to R237), or the draft's greedy choice (R238); none when
every candidate is excluded. -/
def State.sampleTok (s : State) (r : Req) (slot pos : Nat) (draft : Bool) : Option Nat :=
  let sums := s.summaries.filter (fun x => x.1 = slot ∧ x.2.1 = pos ∧ x.2.2.1.draft = draft)
  let parts := (List.range 1024).filterMap (fun i => sums.find? (fun x => x.2.2.1.idx = i))
  let cands := (parts.map (fun x => candsOf x.2.2.2 64)).flatten.foldl (fun l c => insertCand c l) []
  if draft ∨ (recTemp r.sample).isZero then (cands.head?).map (fun x => x.1)
  else
    let mx := parts.foldl (fun m x => numMax m (fp32Of (x.2.2.2.getD 0 0))) (Num.inf true)
    let tot := parts.foldl (fun z x =>
      let m := fp32Of (x.2.2.2.getD 0 0)
      if m = .inf true then z else fadd z (fmul (fp32Of (x.2.2.2.getD 1 0)) (funcAt .exp (round32 (numAdd m (numNeg mx)))))) Num.zero
    let p := (cands.take (recTopK r.sample)).map (fun x => (x.1, fdiv (funcAt .exp (round32 (numAdd x.2 (numNeg mx)))) tot))
    let p := topP (recTopP r.sample) p .zero []
    let lim := fmul (recMinP r.sample) ((p.headD (0, .zero)).2)
    let p := p.filter (fun x => !numLt x.2 lim)
    let z := p.foldl (fun z x => fadd z x.2) Num.zero
    pick (drawU r.seed (r.horizon + pos + 1)) (p.map (fun x => (x.1, fdiv x.2 z))) .zero

end Sys2Proof.Machine
end

