-- ==== Sys2Proof/Machine/Journal.lean ====
section
/-! DEFINITION. The request journal and completion queues: R214, R219 to R221, R382 to R386, R496 to R501, R504. -/

namespace Sys2Proof.Machine

/-! ### The journal (R382 to R384) -/

/-- Blocks in use. -/
def State.jUsed (s : State) : List Nat := (s.chains.map Chain.blocks).flatten

/-- The lowest free index (R382). -/
def freeFrom (used : List Nat) : Nat → Nat → Option Nat
  | 0, _ => none
  | n + 1, i => if used.contains i then freeFrom used n (i + 1) else some i

/-- RCV_JFREE follows the chains and the mirror (R410). -/
def State.jCount (s : State) : State :=
  (s.setf RCV_JFREE_OWN (s.f RCV_JRNL_BLOCKS - s.jUsed.length)).setf RCV_JFREE_MIRROR (s.f RCV_JMIR_BLOCKS - s.mirUsed.length)

/-- A request's chain; an empty one to begin with. -/
def State.chain (s : State) (scope tag : Nat) : Chain :=
  (s.chains.find? (fun (c : Chain) => c.scope = scope ∧ c.tag = tag)).getD ⟨scope, tag, [], 0, none, 0⟩

/-- Replace a chain. -/
def State.setChain (s : State) (c : Chain) : State :=
  { s with chains := s.chains.filter (fun (x : Chain) => ¬ (x.scope = c.scope ∧ x.tag = c.tag)) ++ [c] }.jCount

/-- Address of a journal block. -/
def State.jBlock (s : State) (i : Nat) : Nat := 4096 * s.f RCV_JRNL_BASE_4K + 4096 * i

/-- Take the blocks a chain of `n` units needs (R382). -/
def State.takeBlocks (s : State) (c : Chain) : Nat → List Nat
  | 0 => c.blocks
  | n + 1 =>
    let b := s.takeBlocks c n
    if c.blocks.length ≤ n then
      (match freeFrom (s.jUsed ++ b) (s.f RCV_JRNL_BLOCKS) 0 with
        | some i => b ++ [i]
        | none => b)
    else b

/-- Write a block's header (R382). -/
def State.jHeader (s : State) (c : Chain) (k : Nat) : State :=
  let used := min 126 (c.units - 126 * k)
  let nxt := match c.blocks[k + 1]? with
    | some i => i
    | none => 0xFFFFFFFF
  let head := leBytes 2 0x4A4E ++ leBytes 2 used ++ leBytes 4 c.scope ++ leBytes 8 c.tag ++ leBytes 4 nxt
  s.write (s.jBlock (c.blocks.getD k 0)) (head ++ leBytes 4 (crc32 (head ++ [0, 0, 0, 0] ++ zeros 40)) ++ zeros 40)

/-- Mirror a block at the same index (R384). The mirror area of a holder of several members is taken member by member
(notes/assumptions/31.md). -/
def State.jMirror (s : State) (c : Chain) (k : Nat) : State :=
  match s.mirrorPkg with
  | none => s
  | some d =>
    let b := c.blocks.getD k 0
    let used := 64 + 32 * min 126 (c.units - 126 * k)
    { s with ctrlQ := s.ctrlQ ++ [(d, .journal ((s.mirrorIdx * s.f RCV_JRNL_BLOCKS + b) * 4096) (s.bytes (s.jBlock b) used))] }

/-- Write the units of an entry from unit `u` of a chain. -/
def State.putUnits (s : State) (c : Chain) : Nat → Nat → List Nat → State
  | 0, _, _ => s
  | n + 1, u, bs =>
    (s.write (s.jBlock (c.blocks.getD (u / 126) 0) + 64 + 32 * (u % 126)) (bs.take 32)).putUnits c n (u + 1) (bs.drop 32)

/-- A journal entry's bytes (R383). -/
def jEntry (kind aux seq value count : Nat) (payload : List Nat) : List Nat :=
  let units := 1 + (payload.length + 31) / 32
  let body := padTo (32 * (units - 1)) payload
  let head := [kind, aux] ++ leBytes 2 units ++ leBytes 4 seq ++ leBytes 8 value ++ leBytes 4 count
  head ++ leBytes 4 (crc32 (head ++ [0, 0, 0, 0] ++ zeros 8 ++ body)) ++ zeros 8 ++ body

/-- Append an entry to a request's chain and mirror the blocks it touches (R382 to R384). -/
def State.journal (s : State) (scope tag kind aux seq value count : Nat) (payload : List Nat) : State :=
  let c := s.chain scope tag
  let bs := jEntry kind aux seq value count payload
  let n := bs.length / 32
  let need := (c.units + n + 125) / 126
  let c' : Chain := { c with blocks := s.takeBlocks c need, units := c.units + n, ended := if kind = 4 then some value else c.ended }
  if c'.blocks.length < need then s
  else
    let s := (s.setChain c').putUnits c' n c.units bs
    let ks := (List.range need).filter (fun k => decide (c.units / 126 ≤ k) || decide (k + 1 = c.blocks.length))
    let s := ks.foldl (fun s k => s.jHeader c' k) s
    ks.foldl (fun s k => s.jMirror c' k) s

/-- Blocks the journal needs for a NEW or FORK, plus 2 (R386). -/
def jNeed (bytes : Nat) : Nat := ((bytes + 31) / 32 + 1 + 125) / 126 + 2

/-- A journal write of another member lands in the mirror area (R384); an empty one frees its block (R386). -/
def State.mirrorJournal (s : State) (off : Nat) (bs : List Nat) : State :=
  let b := off / 4096
  if b < s.f RCV_JMIR_BLOCKS then
    (if bs.isEmpty then { s with mirUsed := s.mirUsed.filter (· ≠ b) }
     else { s with mirUsed := if s.mirUsed.contains b then s.mirUsed else s.mirUsed ++ [b] }.write (4096 * s.f RCV_JMIR_BASE_4K + off) bs).jCount
  else s

/-- A block of its journal comes back to a member that returns (R400); one that a chain of its own has taken meanwhile stays. -/
def State.takeBack (s : State) (off : Nat) (bs : List Nat) : State :=
  s.when (decide (off / 4096 < s.f RCV_JRNL_BLOCKS) && !s.jUsed.contains (off / 4096)) (·.write (s.jBlock (off / 4096)) bs)

/-- Chains whose END has settled go back to the free blocks (R386); an EXPIRED request's is kept until its CANCEL (R247). -/
def State.jFreeSettled (s : State) : State :=
  let h := s.f PAV_HORIZON_HORIZON + s.f IMG_JOB_JOB_BASE
  let keep (c : Chain) : Bool := match c.ended with
    | some v => decide (h ≤ v) || s.reqs.any (fun (r : Req) => r.scope == c.scope && r.tag == c.tag)
    | none => true
  let freed := ((s.chains.filter (fun (c : Chain) => !keep c)).map Chain.blocks).flatten
  let tell := match s.mirrorPkg with
    | some d => freed.map (fun b => (d, CtrlMsg.journal ((s.mirrorIdx * s.f RCV_JRNL_BLOCKS + b) * 4096) []))
    | none => []
  { s with chains := s.chains.filter keep, ctrlQ := s.ctrlQ ++ tell }.jCount

/-- Every journal write of the request is acknowledged by its mirror (R214, R385). -/
def State.mirrored (s : State) (scope tag : Nat) : Bool :=
  let bs := (s.chain scope tag).blocks.map (fun b => (s.mirrorIdx * s.f RCV_JRNL_BLOCKS + b) * 4096)
  let open_ (m : CtrlMsg) : Bool := match m with
    | .journal off _ => bs.contains off
    | _ => false
  !(s.ctrlQ.any (fun m => open_ m.2)) && !(s.tx.any (fun (x : TxFlit) => match x.ctrl with
    | some m => open_ m
    | none => false))

/-! ### Queue pairs (R496 to R501, R504) -/

/-- Tier N address of queue pair `q`'s memory (R494, R495). -/
def qpMem (q : Nat) : Nat := 0x7FF0000000 + 0x1000000 + q * 0x80000
/-- Entries of a pair's queues. -/
def State.qpSize (s : State) (q : Nat) : Nat := 2 ^ s.f (QP_CFG_SIZE_LOG2 q)

/-- The CQ interrupt's condition (R504). -/
def State.cqIrq (s : State) (q : Nat) : State :=
  if s.b (QP_STAT_ARMED q) ∧ s.f (QP_STAT_CQ_TAIL q) ≠ s.f (QP_STAT_CQ_HEAD q) then
    (s.setf (QP_STAT_ARMED q) 0).msix (s.f (QP_CFG_VECTOR q))
  else s

/-- The CQ is full (R500). -/
def State.cqFull (s : State) (q : Nat) : Bool := (s.f (QP_STAT_CQ_TAIL q) + 1) % s.qpSize q == s.f (QP_STAT_CQ_HEAD q)

/-- Write a completion at CQ_TAIL: payload first, then the entry (R219, R220, R500); its DONE takes a request out of ENDING
(R215). -/
def State.cqWrite (s : State) (p : Post) : State :=
  let q := p.pair
  let i := s.f (QP_STAT_CQ_TAIL q)
  let w0 := s.f (QP_STAT_PHASE q) * 2 ^ 63 + p.typ % 16 * 2 ^ 56 + p.code % 256 * 2 ^ 48 +
    (if p.typ = 3 then p.toks.length else 0) * 2 ^ 40 + p.deg % 256 * 2 ^ 32 + p.seq % 2 ^ 32
  let s := s.when (p.typ == 3) (fun s =>
    s.write (qpMem q + 0x50000 + 32 * i) (((p.toks ++ List.replicate (8 - p.toks.length) 0xFFFFFFFF).map (leBytes 4)).flatten))
  let s := (s.writeNum (qpMem q + 0x40000 + 16 * i) 8 w0).writeNum (qpMem q + 0x40000 + 16 * i + 8) 8 p.tag
  let j := (i + 1) % s.qpSize q
  let s := (s.setf (QP_STAT_CQ_TAIL q) j).when (j == 0) (fun s => s.setf (QP_STAT_PHASE q) (1 - s.f (QP_STAT_PHASE q)))
  let s := (s.setf (QP_CNT_POSTED q) (s.f (QP_CNT_POSTED q) + 1))
  let s : State := { s with reqs := s.reqs.filter (fun (r : Req) => ¬ (p.typ = 4 ∧ r.scope = p.scope ∧ r.tag = p.tag ∧ r.st = .ending)) }
  s.cqIrq q

/-- Counters of a posted completion (R249): ACCEPTS, SRV_REJ. -/
def State.postCount (s : State) (p : Post) : State :=
  let s := s.when (p.typ == 1) (·.inc SRV_ADM_ACCEPTS)
  s.when (p.typ == 2) (fun s => (s.inc (SRV_REJ_COUNT p.code)).evt SRV_EVT_REJECT)

/-- Post a completion, or hold it in order behind a full queue (R221). An adopted request's waits in its journal until a pair is
bound (R402, R403). -/
def State.post (s : State) (p : Post) : State :=
  let s := s.postCount p
  if 256 ≤ p.pair then s
  else if s.cqFull p.pair ∨ s.heldCq.any (fun x => x.1 = p.pair) then
    { (s.inc SRV_WAIT_CQ_STALL).evt SRV_EVT_CQ_STALL with heldCq := s.heldCq ++ [(p.pair, p)] }
  else s.cqWrite p

/-- Held completions of a pair are posted as entries free (R221). -/
def State.postHeld (s : State) (q : Nat) : Nat → State
  | 0 => s
  | n + 1 =>
    if s.cqFull q then s
    else match s.heldCq.find? (fun x => x.1 = q) with
      | none => s
      | some x => (State.cqWrite { s with heldCq := s.heldCq.erase x } x.2).postHeld q n

/-- A live request's completions route to the pair (R497, R501, R502). -/
def State.pairLive (s : State) (q : Nat) : Bool :=
  s.reqs.any (fun (r : Req) => r.home == s.f FAB_ID_PKG_ID && r.pair == q) || s.posts.any (fun (p : Post) => p.pair == q) ||
    s.heldCq.any (fun x => x.1 == q) || (s.fwd ++ s.undecided).any (fun (c : Cmd) => c.pair == q)

/-- QP_ENABLE (R497): a write of QP_CFG. Setting EN resets the pair; SIZE_LOG2 and VECTOR stand while EN is 1; clearing EN
is refused while live requests route to the pair. -/
def State.wrQpCfg (s : State) (pair : Nat) (val : Word) : State :=
  match s.gate .host 0x400000 with
  | some r => r
  | none =>
    let v := val.toNat
    let size := bits v 44 4
    let vec := bits v 50 6
    let on := s.b (QP_CFG_EN pair)
    let bad := if on then size != s.f (QP_CFG_SIZE_LOG2 pair) || vec != s.f (QP_CFG_VECTOR pair)
      else !(decide (4 ≤ size) && decide (size ≤ 12) && decide (vec < 60))
    let s := s.when bad (·.setf (QP_STAT_ERR pair) 3)
    let s := s.when (!on && decide (4 ≤ size) && decide (size ≤ 12)) (·.setf (QP_CFG_SIZE_LOG2 pair) size)
    let s := s.when (!on && decide (vec < 60)) (·.setf (QP_CFG_VECTOR pair) vec)
    if bits v 63 1 = 1 ∧ ¬ on then
      let s := (s.setReg (QP_STAT_ERR pair).a (BitVec.ofNat 64 (s.f (QP_STAT_ERR pair) * 2 ^ 60 + 2 ^ 39))).setf (QP_STAT_SCOPE pair) (s.f FAB_ID_PKG_ID)
      ((s.write (qpMem pair + 0x40000) (zeros (16 * s.qpSize pair))).setf (QP_CFG_EN pair) 1)
    else if bits v 63 1 = 0 ∧ on then
      (if s.pairLive pair then s.setf (QP_STAT_ERR pair) 2 else s.setf (QP_CFG_EN pair) 0)
    else s

/-- QP_ENABLE: that write, as a command. -/
def execQpEnable (t pair : Nat) (val : Word) (s : State) : Host.Outcome State Fault Refusal :=
  .next ((s.at t).wrQpCfg pair val)

/-- CQ_DOORBELL (R499, R504): a write of QP_CQH. -/
def State.wrCqHead (s : State) (pair : Nat) (head : Nat) (arm : Bool) : State :=
  match s.gate .host 0x400000 with
  | some r => r
  | none =>
    let z := s.qpSize pair
    let h := s.f (QP_STAT_CQ_HEAD pair)
    let tl := s.f (QP_STAT_CQ_TAIL pair)
    let n := (head + z - h) % z
    if s.b (QP_CFG_EN pair) ∧ head < z ∧ n ≤ (tl + z - h) % z then
      let tags := (List.range n).map (fun i => s.num (qpMem pair + 0x40000 + 16 * ((h + i) % z) + 8) 8)
      let mine (c : Chain) : Bool := c.scope == s.f (QP_STAT_SCOPE pair) && tags.contains c.tag
      let s : State := { s with
        delivered := (s.delivered ++ (s.chains.filter mine).map (fun (c : Chain) => (c.scope, c.tag))).eraseDups,
        chains := s.chains.map (fun (c : Chain) => if mine c then { c with eaten := c.eaten + (tags.filter (· == c.tag)).length } else c) }
      let s := (s.setf (QP_STAT_CQ_HEAD pair) head).when arm (·.setf (QP_STAT_ARMED pair) 1)
      ((s.postHeld pair (s.heldCq.length)).cqIrq pair)
    else (s.setf (QP_STAT_ERR pair) 1)

/-- CQ_DOORBELL: that write, as a command. -/
def execCqDoorbell (t pair head : Nat) (arm : Bool) (s : State) : Host.Outcome State Fault Refusal :=
  .next ((s.at t).wrCqHead pair head arm)

end Sys2Proof.Machine
end

