-- ==== Sys2Proof/Machine/Admit.lean ====
section
/-! DEFINITION. How a command reaches the admission root and is decided there: R209 to R218, R222 to R224, R229, R244 to
R246, R498, R526. -/

namespace Sys2Proof.Machine

/-! ### Submission entries (R217, R218) -/

/-- Word `i` of a command's entry. -/
def cmdW (c : Cmd) (i : Nat) : Nat := (c.words.getD i 0).toNat
def cmdOp (c : Cmd) : Nat := bits (cmdW c 0) 56 8
def cmdClass (c : Cmd) : Nat := bits (cmdW c 0) 52 4
def cmdDraft (c : Cmd) : Nat := bits (cmdW c 0) 48 4
def cmdDefer (c : Cmd) : Nat := bits (cmdW c 0) 32 16
def cmdTag (c : Cmd) : Nat := cmdW c 1
/-- PROMPT_LEN and MAX_NEW of a NEW; APPEND_LEN and MORE_NEW of a CONTINUE. -/
def cmdLen (c : Cmd) : Nat := bits (cmdW c 3) 0 21
def cmdMore (c : Cmd) : Nat := bits (cmdW c 3) 32 21
/-- A CONTINUE carries a step mask. -/
def cmdMask (c : Cmd) : Bool := bits (cmdW c 4) 63 1 == 1
/-- A FORK replaces the sampling record and seed. -/
def cmdNewSample (c : Cmd) : Bool := bits (cmdW c 3) 63 1 == 1
/-- The request a command makes or names: the child of a FORK, otherwise its TAG. -/
def cmdOwn (c : Cmd) : Nat := if cmdOp c = 6 then cmdW c 2 else cmdTag c

/-- The vocabulary (R251). -/
def State.vocab (s : State) : Nat := (s.img.map (fun im => im.serv.vocab)).getD 0

/-- This package's index and the TOPO it serves under. -/
def State.topo (s : State) : Option Topo := s.img.map Image.topo

/-- Package ID of a member. -/
def State.memberPkg (s : State) (i : Nat) : Nat := ((s.topo.bind (fun t => t.members[i]?)).map Member.pkg).getD 0xFFFFF

/-- A tier N area named by an entry, read: empty and bad where it is misaligned, passes the end of the tier or meets an
uncorrectable line (R218). -/
def State.readArea (s : State) (off n align : Nat) (lines : List Nat) : Rd :=
  if n = 0 then ⟨s, [], false⟩
  else if off % align ≠ 0 ∨ ¬ s.rangeHas false off n then ⟨s, [], true⟩
  else s.readTier false off n lines

/-- 32-bit little-endian words of bytes. -/
def words32 (bs : List Nat) : List Nat := (List.range (bs.length / 4)).map (fun i => leNat ((bs.drop (4 * i)).take 4))

/-- The sampling record with its bias entries (R232), and the fixed mask it names. -/
def State.readSample (s : State) (off : Nat) (lines : List Nat) : State × List Nat × List Nat × Bool :=
  let h := s.readArea off 64 64 lines
  if h.bad then (h.s, [], [], true)
  else
    let b := h.s.readArea off (64 + 8 * recBias h.bs) 64 lines
    if b.bad ∨ recMask b.bs ≠ 1 then (b.s, b.bs, [], b.bad)
    else
      let m := b.s.readArea (leNat ((b.bs.drop 24).take 8)) ((b.s.vocab + 7) / 8) 64 lines
      (m.s, b.bs, m.bs, m.bad)

/-- Read the areas an entry names (R218). -/
def State.readCmd (s : State) (c : Cmd) (lines : List Nat) : State × Cmd :=
  if cmdOp c = 1 then
    let p := s.readArea (bits (cmdW c 2) 0 42) (4 * cmdLen c) 4 lines
    let r := p.s.readSample (bits (cmdW c 4) 0 42) lines
    (r.1, { c with tokens := words32 p.bs, sample := r.2.1, mask := r.2.2.1, uncorr := p.bad || r.2.2.2 })
  else if cmdOp c = 2 then
    let p := s.readArea (bits (cmdW c 2) 0 42) (4 * cmdLen c) 4 lines
    let m := p.s.readArea (bits (cmdW c 4) 0 42) (if cmdMask c then (p.s.vocab + 7) / 8 else 0) 64 lines
    (m.s, { c with tokens := words32 p.bs, mask := m.bs, uncorr := p.bad || m.bad })
  else if cmdOp c = 6 ∧ cmdNewSample c then
    let r := s.readSample (bits (cmdW c 3) 0 42) lines
    (r.1, { c with sample := r.2.1, mask := r.2.2.1, uncorr := r.2.2.2 })
  else (s, c)

/-- Take `n` entries of a pair's SQ from index `i` into the forward buffer (R209, R498). -/
def State.takeSq (s : State) (pair : Nat) (lines : List Nat) : Nat → Nat → State
  | 0, _ => s
  | n + 1, i =>
    let ws := (List.range 8).map (fun w => BitVec.ofNat 64 (s.num (qpMem pair + 64 * i + 8 * w) 8))
    let c : Cmd := ⟨ws, pair, s.f (QP_STAT_SCOPE pair), s.f FAB_ID_PKG_ID, s.f (QP_CNT_SUBMITTED pair), [], [], [], false⟩
    let r := s.readCmd c lines
    let s : State := { r.1 with fwd := r.1.fwd ++ [r.2] }
    (s.setf (QP_CNT_SUBMITTED pair) (s.f (QP_CNT_SUBMITTED pair) + 1)).takeSq pair lines n ((i + 1) % s.qpSize pair)

/-- SQ_DOORBELL (R498): a write of QP_SQT. `lines` are uncorrectable tier N lines met. -/
def State.wrSqTail (s : State) (pair : Nat) (tail : Nat) (lines : List Nat) : State :=
  match s.gate .host 0x400000 with
  | some r => r
  | none =>
    let z := s.qpSize pair
    if s.b (QP_CFG_EN pair) ∧ tail < z then
      let h := s.f (QP_STAT_SQ_HEAD pair)
      ((s.takeSq pair lines ((tail + z - h) % z) h).setf (QP_STAT_SQ_HEAD pair) tail)
    else (s.setf (QP_STAT_ERR pair) 1)

/-- SQ_DOORBELL: that write, as a command. -/
def execSqDoorbell (t pair tail : Nat) (lines : List Nat) (s : State) : Host.Outcome State Fault Refusal :=
  .next ((s.at t).wrSqTail pair tail lines)

/-- COMMAND_ARRIVE (R210): the root stamps the next forwarded entry that reached it. -/
def execCommandArrive (t : Nat) (s : State) : Host.Outcome State Fault Refusal :=
  let s := s.at t
  match s.fwdIn with
  | [] => .next s
  | c :: rest => .next { s with fwdIn := rest, arrivals := s.arrivals ++ [⟨s.now, c, false, 0⟩] }

/-! ### CONTROL slots and CTRL flits (R210, R304, R526) -/

/-- The admission root in force: the standby once the root is lost (R398, R527). -/
def State.admRoot (s : State) : Nat :=
  match s.topo with
  | none => 0
  | some t => if s.qdr.gone.contains t.admRoot then t.standby else t.admRoot

/-- This package decides commands (R209). -/
def State.isRoot (s : State) : Bool := s.active && (match s.topo with | some t => s.admRoot == t.self | none => false)

/-- CONTROL_SLOT (R209, R210, R526): entries of the forward buffer go to the admission root, and queued messages to the
packages its port reaches. Forwarded entries stay known as undecided (R398). -/
def execControlSlot (t core slot : Nat) (s : State) : Host.Outcome State Fault Refusal :=
  let s := s.at t
  let e := s.entry core slot
  if s.slotDue core slot 9 then
    let s := s.mark core slot
    let s : State := if s.isRoot then { s with fwdIn := s.fwdIn ++ s.fwd, fwd := [] }
      else { s with ctrlQ := s.ctrlQ ++ s.fwd.map (fun (c : Cmd) => (s.memberPkg s.admRoot, CtrlMsg.forward c)), fwd := [], undecided := s.undecided ++ s.fwd }
    .next (if slotTarget e < 72 then s.flush (slotTarget e) (fun m => s.reaches (slotTarget e) m.1 && !isLatent m.2) else s)
  else .next s

/-! ### The state a command is judged against (R210, R216) -/

/-- The input a rebuild starts from (R247, R404): every token but those sampled and not released. -/
def Req.rebuilt (r : Req) : List Nat :=
  ((List.range r.input.length).filter (fun i => !r.outq.any (fun (x : Sampled) => decide (x.pos ≤ i) && decide (i < x.pos + x.toks.length)))).map
    (fun i => r.input.getD i 0)

/-! ### Prefix lookup (R227 to R229) -/

/-- The chain value of PFX_SEED (R227). -/
def State.pfxSeed (s : State) : Nat := s.f (SRV_PFXSEED_SEED 0) + 2 ^ 64 * s.f (SRV_PFXSEED_SEED 1)

/-- Block `i`'s tokens. -/
def blockToks (input : List Nat) (i : Nat) : List Nat := (input.drop (256 * i)).take 256

/-- The chain value after a block (R227). -/
def chainNext (h : Nat) (toks : List Nat) : Nat := leNat ((sha256 (leBytes 16 h ++ (toks.map (leBytes 4)).flatten)).take 16)

/-- Handles of the leading blocks found, and whether an equal chain value met unequal tokens (R229). -/
def State.lookup (s : State) (input : List Nat) : Nat → Nat → Nat → List Nat × Bool
  | 0, _, _ => ([], false)
  | n + 1, i, h =>
    let t := blockToks input i
    let h' := chainNext h t
    match s.prefixes.find? (fun (p : Prefix) => p.chain = h') with
    | none => ([], false)
    | some p =>
      if p.toks = t then
        let r := s.lookup input n (i + 1) h'
        (p.handle :: r.1, r.2)
      else ([], true)

/-- The lookup of an input: at least one token stays to prefill. -/
def State.hits (s : State) (input : List Nat) : List Nat × Bool :=
  if s.prefixes.isEmpty then ([], false) else s.lookup input ((input.length - 1) / 256) 0 s.pfxSeed

/-- The parts of a CONTINUE (R218): appended tokens, more tokens to make, the step mask. -/
def Req.extend (r : Req) (c : Cmd) : Req :=
  { r with st := .active, input := r.input ++ c.tokens, maxNew := r.maxNew + cmdMore c, idle := 0,
           mask := if cmdMask c then c.mask else r.mask }

/-- The request a NEW makes (R217, R218). -/
def newReqOf (c : Cmd) (order mb : Nat) : Req :=
  { scope := c.scope, tag := cmdTag c, home := c.home, pair := c.pair, keep := bits (cmdW c 0) 0 1 == 1, cls := cmdClass c,
    draft := cmdDraft c, depth := cmdDraft c, order := order, mb := mb, input := c.tokens, maxNew := cmdMore c,
    sample := c.sample, seed := cmdW c 5, mask := c.mask }

/-- The child of a FORK (R231). -/
def childOf (r : Req) (c : Cmd) (order mb : Nat) : Req :=
  { r with tag := cmdW c 2, home := c.home, pair := c.pair, cls := cmdClass c, draft := cmdDraft c, depth := cmdDraft c, zeros := 0,
           solo := 0, order := order, mb := mb, step := none, count := none, st := if r.st = .held then .active else r.st,
           sample := if cmdNewSample c then c.sample else r.sample, seed := if cmdNewSample c then cmdW c 4 else r.seed,
           mask := if cmdNewSample c then c.mask else r.mask, outq := [], released := r.made, ttl := 0, expAt := none,
           idle := 0, pausing := none, cause := none, more := none }

/-- Pages of a request on the move. -/
def State.isMoving (s : State) (r : Req) : Bool := s.moving.any (fun (m : Moving) => m.scope == r.scope && m.tag == r.tag)

/-- The request as an accepted command leaves it (R215, R216): a PAUSE takes effect at the member tick when no step is then
in flight (R244). -/
def State.foreseeReq (s : State) (r : Req) (x : Decision) : Req :=
  let c := x.cmd
  if x.expiry then (if r.st = .paused then { r with st := .expired, pages := [] } else r)
  else match cmdOp c with
    | 2 => if r.st = .paused then { r with st := .resuming, mb := x.mb, pausing := none, more := some c }
           else if r.st = .waitMask ∨ r.st = .held then r.extend c else r
    | 3 => if r.st = .ending ∨ r.st = .expired ∨ r.st = .paused then r
           else if (match r.step with | some y => decide (y.frame + 4 ≤ s.jobFrame + 1) | none => true) && !s.isMoving r then
             { r with st := .paused, idlePaused := false, resumeTo := if r.st = .resuming then r.resumeTo else r.st == .held }
           else { r with pausing := some (cmdW c 2) }
    | 4 => if r.st = .paused then { r with st := .resuming, mb := x.mb, pausing := none }
           else if r.st = .expired then
             { r with st := .active, mb := x.mb, input := r.rebuilt, made := r.released, outq := [], horizon := 256 * x.hits.length }
           else r
    | 5 => { r with st := .ending }
    | _ => r

/-- The requests after one more decision. -/
def State.foresee (s : State) (rs : List Req) (x : Decision) : List Req :=
  let c := x.cmd
  if x.reason ≠ 0 then rs
  else
    let rs' := rs.map (fun (r : Req) => if r.scope = c.scope ∧ r.tag = cmdTag c then s.foreseeReq r x else r)
    if x.expiry then rs'
    else if cmdOp c = 1 then rs ++ [{ newReqOf c 0 x.mb with horizon := 256 * x.hits.length }]
    else if cmdOp c = 6 then (match rs.find? (fun (r : Req) => r.scope = c.scope ∧ r.tag = cmdTag c) with
      | some r => rs ++ [childOf r c 0 x.mb]
      | none => rs)
    else rs'

/-- The state a command is judged against: the requests as the accepted decisions not yet in force leave them, which the
root takes one after another (R210; notes/assumptions/18.md); decisions replayed at later ticks (R392) stay. -/
def State.foreseen (s : State) : State :=
  { s with reqs := (s.decisions.filter (fun d => decide (d.1 ≤ s.jobFrame))).foldl (fun rs d => s.foresee rs d.2) s.reqs,
           decisions := s.decisions.filter (fun d => decide (s.jobFrame < d.1)) }

/-! ### The home (R213, R214) -/

/-- The record and tokens a COMMAND entry holds (R383): for a FORK those of the parent unless the entry replaces them. -/
def State.cmdPayload (s : State) (c : Cmd) : List Nat :=
  let parent := s.foreseen.req c.scope (cmdTag c)
  let sample := if cmdOp c = 6 ∧ ¬ cmdNewSample c then (parent.map Req.sample).getD [] else c.sample
  let toks := if cmdOp c = 6 then (parent.map Req.input).getD [] else c.tokens
  (c.words.map (fun w => leBytes 8 w.toNat)).flatten ++ sample ++ (toks.map (leBytes 4)).flatten ++ (if cmdOp c = 2 then c.mask else [])

/-- A decision of tick `d` reaches the home of its command: an ACCEPT is journaled and waits for its mirror, a REJECT is
posted (R213, R214). -/
def State.homeTake (s : State) (d : Nat) (x : Decision) : State :=
  let c := x.cmd
  let s : State := { s with undecided := s.undecided.filter (· ≠ c) }
  if x.expiry ∨ c.home ≠ s.f FAB_ID_PKG_ID then s
  else if x.reason ≠ 0 then s.post ⟨c.scope, cmdTag c, c.pair, 2, x.reason, 0, [], 0, cmdOwn c⟩
  else
    let s := s.journal c.scope (cmdOwn c) 1 0 0 (d + 1) 0 (s.cmdPayload c)
    { s with posts := s.posts ++ [⟨c.scope, cmdTag c, c.pair, 1, cmdOp c, (d + 1) % 2 ^ 32, [], 0, cmdOwn c⟩] }

/-- Decisions of a tick are taken up by a member (R210). -/
def State.takeDecisions (s : State) (d : Nat) (xs : List Decision) : State :=
  xs.foldl (fun s (x : Decision) =>
    State.homeTake { s with decisions := s.decisions ++ [(d, x)], decLog := s.decLog ++ [(d, x, false)] } d x) s

/-- The root decides (R210): the decision is kept, broadcast and taken up by the root itself. -/
def State.announce (s : State) (x : Decision) : State := (s.takeDecisions s.jobFrame [x]).toAll (.decisions s.jobFrame [x])

/-- What a member learns of a step's outcome (R201, R240): the acceptance count; the tokens, kept until they settle and
journaled by the home (R385). `stop` is 0, or 1 plus the DONE cause that ends the output. -/
def State.takeCount (s : State) (scope tag j : Nat) : State :=
  match s.req scope tag with
  | some r => s.setReq { r with count := some j }
  | none => s

/-- The step's tokens reach a member. -/
def State.takeSampled (s : State) (scope tag frame : Nat) (toks : List Nat) (deg : Bool) (stop : Nat) : State :=
  match s.req scope tag with
  | none => s
  | some r =>
    let k := (r.outq.map (fun (x : Sampled) => x.toks.length)).sum
    let s := s.when (r.home == s.f FAB_ID_PKG_ID && !toks.isEmpty) (fun s =>
      s.journal scope tag 2 0 (r.released + k) frame toks.length ((toks.map (leBytes 4)).flatten))
    let cause := if stop = 0 then r.cause else some (stop - 1)
    s.setReq { r with outq := if toks.isEmpty then r.outq else r.outq ++ [⟨frame, 0, toks, deg⟩], cause := cause }

/-- Mark a step's tokens degraded (R242): those sampled in `frame`, or the step in flight. -/
def State.takeDegraded (s : State) (scope tag frame : Nat) : State :=
  match s.req scope tag with
  | none => s
  | some r => s.setReq { r with
      outq := r.outq.map (fun (x : Sampled) => if x.frame = frame then { x with deg := true } else x),
      degr := r.degr || r.step.any (fun (x : StepRun) => x.frame + 3 == frame) }

/-- The ACCEPT of a decision has been posted (R214). -/
def State.markPosted (s : State) (scope tag d : Nat) : State :=
  { s with decLog := s.decLog.map (fun x => if x.1 = d ∧ x.2.1.cmd.scope = scope ∧ cmdOwn x.2.1.cmd = tag then (x.1, x.2.1, true) else x) }

/-- Deliver a serving, mirror or Larkspur message. -/
def State.deliver (s : State) (m : CtrlMsg) : State :=
  match m with
  | .forward c => { s with fwdIn := s.fwdIn ++ [c] }
  | .decisions d xs => s.takeDecisions d xs
  | .accepted scope tag j => s.takeCount scope tag j
  | .sampled scope tag frame toks deg stop => s.takeSampled scope tag frame toks deg stop
  | .posted scope tag d => s.markPosted scope tag d
  | .degraded scope tag frame => s.takeDegraded scope tag frame
  | .lost scope tag =>
    match s.req scope tag with
    | some r => s.setReq { r with lost := true }
    | none => s
  | .evict d hs => { s with evicts := s.evicts ++ [(d, hs)] }
  | .free m pages => { s with freeRep := sput s.freeRep m pages }
  | .latent p slot bs => s.mirrorLatent p slot bs
  | .journal off bs => s.mirrorJournal off bs
  | .chain off bs => s.takeBack off bs
  | .leave m f => { s with notices := s.notices ++ [(m, f)] }
  | .larkspur bs => { s with lspIn := s.lspIn ++ [bs] }

/-- CTRL_FLIT (R304, R309, R526): `fec` as for DATA_FLIT; a message for another package is a misroute (R309). -/
def execCtrlFlit (t port : Nat) (f : Flit) (msg : CtrlMsg) (fec : Option Nat) (s : State) : Host.Outcome State Fault Refusal :=
  let s := (s.at t).fec port fec
  if fec.isNone then .next s
  else .next (s.rxMsg port f 5 (fun s =>
    if s.relays f then s.relay f (some msg)
    else if f.dst ≠ s.f FAB_ID_PKG_ID then (s.fabEvt FAB_EVT_MISROUTE port).raise 2 0x1D 7 port f.dst else s.deliver msg))

/-! ### The tests of R222 -/

/-- The smallest bucket that holds a length (R197). -/
def bucketOf (n : Nat) : Nat := ((List.range 11).find? (fun i => n ≤ 2 ^ (10 + i))).map (· + 10) |>.getD 20

/-- Tokens a request still has to feed. -/
def Req.unfed (r : Req) : Nat := r.input.length - r.horizon
/-- The next step is a decode step (R226). -/
def Req.decodes (r : Req) : Bool := r.unfed == 1 && decide (0 < r.made)
/-- Tokens the next step feeds (R226). -/
def Req.feed (r : Req) (chunk : Nat) : Nat := if r.decodes then r.depth + 1 else min chunk r.unfed
/-- Effective length of the next step (R197, R226). -/
def Req.lEff (r : Req) (chunk : Nat) : Nat := r.horizon + r.feed chunk
/-- MAX_BATCH of a bucket (R208). -/
def State.maxBatch (s : State) (b : Nat) : Nat := s.f (PGM_BKT_MAX_BATCH (b - 10))
/-- Tokens of a prefill step (R226). -/
def State.chunk (s : State) : Nat := s.f SRV_STEP_CHUNK

/-- A FP32 sampling field is finite. -/
def finite32 : Num → Bool
  | .fin _ _ _ => true
  | _ => false

/-- A sampling record with its draft depth passes R233. -/
def sampleOk (r : List Nat) (draft vocab : Nat) : Bool :=
  let one := numOfInt 1 0
  let temp := recTemp r
  let tp := recTopP r
  let mp := recMinP r
  let pen := recPen r
  decide (64 ≤ r.length) && decide (64 + 8 * recBias r ≤ r.length) &&
  (finite32 temp && !numLt temp .zero) && (finite32 tp && numLt .zero tp && !numLt one tp) &&
  (finite32 mp && !numLt mp .zero && numLt mp one) && (finite32 pen && numLt .zero pen) &&
  (decide (1 ≤ recTopK r) && decide (recTopK r ≤ 64) && decide (recWin r ≤ 1024) && decide (recBias r ≤ 1024)) &&
  (decide (r.getD 22 0 ≤ 8) && decide (recMask r ≤ 2)) &&
  (recStops r).all (fun v => decide (v < vocab)) &&
  (List.range (recBias r)).all (fun i => decide (leNat ((r.drop (64 + 8 * i)).take 4) < vocab) &&
    (f32At r (68 + 8 * i) != .nan) && (f32At r (68 + 8 * i) != .inf false)) &&
  !(recMask r == 2 && draft != 0)

/-- A draft depth of R217. -/
def draftOk (d : Nat) : Bool := [0, 2, 4, 6, 8].contains d

/-- BAD_ENTRY (R217, R218, R222, R233, R502): some field is out of range. -/
def State.badEntry (s : State) (c : Cmd) : Bool :=
  let w := cmdW c
  let z (ws : List Nat) : Bool := ws.all (fun i => w i == 0)
  let r := s.req c.scope (cmdTag c)
  let toksOk := c.tokens.all (fun v => decide (v < s.vocab))
  let ok := match cmdOp c with
    | 1 => decide (w 2 < 2 ^ 42) && decide (w 4 < 2 ^ 42) && decide (w 3 < 2 ^ 53) && bits (w 3) 21 11 == 0 && z [6, 7] &&
        decide (1 ≤ cmdLen c) && decide (cmdLen c ≤ 2 ^ 20) && decide (1 ≤ cmdMore c) && decide (cmdMore c < 2 ^ 20) &&
        draftOk (cmdDraft c) && sampleOk c.sample (cmdDraft c) s.vocab && toksOk && c.scope == c.home
    | 2 => decide (w 2 < 2 ^ 42) && decide (w 3 < 2 ^ 53) && bits (w 3) 21 11 == 0 && bits (w 4) 42 21 == 0 && z [5, 6, 7] &&
        decide (cmdLen c ≤ 2 ^ 20) && decide (cmdMore c < 2 ^ 20) && toksOk &&
        (match r with
          | some r =>
            let held := r.st == .held || (r.st == .paused && r.resumeTo)
            let wait := r.st == .waitMask || (r.st == .paused && !r.resumeTo)
            (!wait || cmdMask c) && (!held || decide (0 < cmdLen c + cmdMore c))
          | none => true)
    | 3 => decide (1000 ≤ w 2) && decide (w 2 ≤ 86400000) && z [3, 4, 5, 6, 7]
    | 4 => z [2, 3, 4, 5, 6, 7]
    | 5 => z [2, 3, 4, 5, 6, 7]
    | 6 => w 2 != 0 && bits (w 3) 42 21 == 0 && z [5, 6, 7] && draftOk (cmdDraft c) && c.scope == c.home &&
        (if cmdNewSample c then sampleOk c.sample (cmdDraft c) s.vocab
         else match r with
          | some r => !(recMask r.sample == 2 && cmdDraft c != 0)
          | none => true)
    | _ => false
  !(ok && cmdTag c != 0 && bits (w 0) 1 31 == 0 && !c.uncorr)

/-- A decision whose ACCEPT makes a request. -/
def makes (x : Decision) : Bool := x.reason == 0 && !x.expiry && (cmdOp x.cmd == 1 || cmdOp x.cmd == 6)

/-- A tag names a live request of a scope, a DEFERRED one, or one that a replayed decision makes (R215, R222). -/
def State.liveTag (s : State) (scope tag : Nat) : Bool :=
  (s.req scope tag).isSome || s.deferred.any (fun (d : Deferred) => d.cmd.scope == scope && cmdOp d.cmd != 4 && cmdOp d.cmd != 2 && cmdOwn d.cmd == tag) ||
    s.decisions.any (fun d => makes d.2 && d.2.cmd.scope == scope && cmdOwn d.2.cmd == tag)

/-- A DEFERRED request of a tag (R216). -/
def State.isDeferred (s : State) (scope tag : Nat) : Bool :=
  s.deferred.any (fun (d : Deferred) => d.cmd.scope == scope && cmdOwn d.cmd == tag)

/-- R216: 0 BAD_STATE, 1 ACCEPT, 2 the tests. -/
def verdict (op : Nat) (r : Req) : Nat :=
  match op, r.st with
  | 2, .waitMask => 1
  | 2, .held => 1
  | 2, .paused => if r.idlePaused then 2 else 0
  | 3, .active => 1
  | 3, .waitMask => 1
  | 3, .held => 1
  | 3, .resuming => 1
  | 4, .paused => 2
  | 4, .expired => 2
  | 5, .ending => 0
  | 5, _ => 1
  | 6, .active => 2
  | 6, .waitMask => 2
  | 6, .held => 2
  | _, _ => 0

/-! #### Where a request starts -/

/-- What the first step of an accepted command looks like: horizon, tokens fed, prefill steps and whether it owns its last
page alone (R222, R226, R231). -/
structure Start where
  hor  : Nat
  fed  : Nat
  npf  : Nat
  own  : Bool
  long : Nat
  hits : List Nat
  coll : Bool

/-- Start of a fresh prefill of an input. -/
def State.freshStart (s : State) (input : List Nat) (long : Nat) : Start :=
  let h := s.hits input
  let hor := 256 * h.1.length
  let left := input.length - hor
  ⟨hor, min s.chunk left, (left + s.chunk - 1) / max 1 s.chunk, false, long, h.1, h.2⟩

/-- The first step of a command's request. -/
def State.start (s : State) (c : Cmd) : Start :=
  match cmdOp c, s.req c.scope (cmdTag c) with
  | 1, _ => s.freshStart c.tokens (c.tokens.length + cmdMore c)
  | 6, some r => ⟨r.horizon, Req.feed { r with depth := cmdDraft c } s.chunk, 0, false, r.input.length - r.made + r.maxNew, [], false⟩
  | _, some r =>
    if r.st = .expired then s.freshStart r.rebuilt (r.input.length - r.made + r.maxNew)
    else ⟨r.horizon, r.feed s.chunk, 0, true, 0, [], false⟩
  | _, none => ⟨0, 0, 0, false, 0, [], false⟩

/-- Requests a micro-batch binds in a bucket (R222, R224): a request is bound until it ends, pauses or expires. -/
def State.binds (s : State) (mb b : Nat) : Nat :=
  (s.reqs.filter (fun (r : Req) => r.mb == mb && (r.st == .active || r.st == .waitMask || r.st == .held || r.st == .resuming) &&
    bucketOf (r.lEff s.chunk) == b)).length

/-- The micro-batch that binds the fewest in a bucket, lowest index first (R224). -/
def State.fewest (s : State) (b : Nat) : Nat :=
  [1, 2, 3].foldl (fun m k => if s.binds k b < s.binds m b then k else m) 0

/-- The binding of an accepted command (R224): a FORK child to its parent's micro-batch while that has room. -/
def State.bindOf (s : State) (c : Cmd) : Nat :=
  let x := s.start c
  let b := bucketOf (x.hor + x.fed)
  match cmdOp c, s.req c.scope (cmdTag c) with
  | 6, some r => if s.binds r.mb b < s.maxBatch b then r.mb else s.fewest b
  | 2, some r => if r.st = .paused then s.fewest b else r.mb
  | 4, _ => s.fewest b
  | 1, _ => s.fewest b
  | _, some r => r.mb
  | _, none => 0

/-- Sixteenths of a frame period at the job level, in ns (R49). -/
def State.period16 (s : State) : Nat :=
  let k := s.f PAV_THR_JOB_LEVEL
  64 * s.f PAV_CFG_N_PASSES * (match k with | 8 => 25 | 9 => 27 | 10 => 31 | 11 => 39 | _ => 16 + k)

/-- Live requests of a class (R222). -/
def State.classLive (s : State) (k : Nat) (c : Cmd) : Nat :=
  (s.reqs.filter (fun (r : Req) => r.cls == k && !(r.scope == c.scope && cmdOp c == 4 && r.tag == cmdTag c))).length

/-- Pages the first step allocates per layer (R222, R231). -/
def Start.pages (x : Start) : Nat :=
  let lo := if x.own then (x.hor + 255) / 256 else x.hor / 256
  (x.hor + x.fed + 255) / 256 - lo

/-- NO_PAGES (R222, R386): some member lacks the pages, or this home's journal the blocks. -/
def State.noPages (s : State) (c : Cmd) (x : Start) : Bool :=
  let sv := s.img.map Image.serv
  let reserve (m : Nat) : Nat := ((sv.map (fun v => v.reserve)).getD []).getD m 0
  let layers (m : Nat) : Nat := ((sv.map (fun v => v.memLayers)).getD []).getD m 0
  let n := ((s.topo.map (fun t => t.members.length)).getD 0)
  (List.range n).any (fun m => !s.qdr.gone.contains m && decide ((sfind s.freeRep m).getD 0 < reserve m + layers m * x.pages)) ||
    (c.home == s.f FAB_ID_PKG_ID && (cmdOp c == 1 || cmdOp c == 6) && decide (s.f RCV_JFREE_OWN < jNeed (32 + (s.cmdPayload c).length)))

/-- The package or the job is draining, or the job has failed (R222, R409, R479). -/
def State.refusing (s : State) (c : Cmd) : Bool :=
  s.failSolo || (c.home == s.f FAB_ID_PKG_ID && decide (1 ≤ s.f SYS_STATUS_DRAIN))

/-- The tests of R222 after R216: the first reason that fails, 0 when none does; `few` for those subject only to rows 6
and 9. -/
def State.tests (s : State) (c : Cmd) (few : Bool) : Nat :=
  let x := s.start c
  let bMax := (List.range 11).foldl (fun m i => if 0 < s.maxBatch (10 + i) then 10 + i else m) 0
  let k := if cmdOp c = 4 then ((s.req c.scope (cmdTag c)).map Req.cls).getD 0 else cmdClass c
  let d := if cmdOp c = 4 then ((s.req c.scope (cmdTag c)).map Req.draft).getD 0 else cmdDraft c
  let F := s.period16
  let b := bucketOf (x.hor + x.fed)
  if ¬ few ∧ 2 ^ bMax < x.long + d + 1 then 4
  else if s.refusing c then 5
  else if ¬ few ∧ (s.f (SRV_CLASS_MAX_ACTIVE k) ≤ s.classLive k c ∨
      16000 * s.f (SRV_CLASS_TTFT_MAX k) < (4 * x.npf + s.settle + 4) * F ∨ 16000 * s.f (SRV_CLASS_ITL_MAX k) < 4 * F) then 3
  else if ¬ few ∧ (List.range 4).all (fun m => decide (s.maxBatch b ≤ s.binds m b)) then 2
  else if s.noPages c x then 1
  else 0

/-- The first reason a command fails (R216, R222), 0 for an ACCEPT. -/
def State.reasonFor (s : State) (c : Cmd) : Nat :=
  let op := cmdOp c
  if s.badEntry c then 6
  else if op = 1 then (if s.liveTag c.scope (cmdTag c) then 7 else s.tests c false)
  else if op = 6 ∧ s.liveTag c.scope (cmdW c 2) then 7
  else match s.req c.scope (cmdTag c) with
    | none => if s.isDeferred c.scope (cmdTag c) then 9 else 8
    | some r =>
      match verdict op r with
      | 0 => 9
      | 1 => if op = 2 ∧ s.refusing c then 5 else 0
      | _ => s.tests c (r.st == .paused)

/-- The reasons of R222 that may be deferred. -/
def deferrable (reason : Nat) : Bool := reason == 1 || reason == 2 || reason == 3

/-- Keep SRV_ADM.DEFERRED in step (R249). -/
def State.setDeferred (s : State) (d : List Deferred) : State := { s with deferred := d }.setf SRV_ADM_DEFERRED d.length

/-- Accept a command (R224, R229): binding, prefix hits and their counters. -/
def State.acceptCmd (s : State) (c : Cmd) : State :=
  let x := s.foreseen.start c
  let mb := s.foreseen.bindOf c
  let s := s.when x.coll (fun s => (s.inc SRV_PFX_COLLISIONS).evt SRV_EVT_COLLISION)
  let s := s.add SRV_PFX_HIT_BLOCKS x.hits.length
  s.announce ⟨c, 0, mb, x.hits, false⟩

/-- Decide a new arrival (R222, R223). -/
def State.decideCmd (s : State) (a : Arrival) : State :=
  let c := a.cmd
  match s.foreseen.reasonFor c with
  | 0 => s.acceptCmd c
  | r =>
    if deferrable r ∧ 0 < cmdDefer c ∧ s.deferred.length < s.f SRV_CFG_ADM_DEPTH then
      s.setDeferred (s.deferred ++ [⟨a.stamp, c, s.jobFrame, r⟩])
    else s.announce ⟨c, r, 0, [], false⟩

/-- Test every DEFERRED request again in stamp order (R223). -/
def State.retest (s : State) : State :=
  s.deferred.foldl (fun s (d : Deferred) =>
    let rest := s.deferred.filter (fun (x : Deferred) => x ≠ d)
    match s.foreseen.reasonFor d.cmd with
    | 0 => (s.setDeferred rest).acceptCmd d.cmd
    | r => s.setDeferred (s.deferred.map (fun (x : Deferred) => if x = d then { x with reason := r } else x))) s

/-! ### Decisions in stamp order (R210, R246) -/

/-- One arrival is taken before another: by stamp, an expiry before a command (R53, R246), then home, pair and queue order
(R210). -/
def arrBefore (a b : Arrival) : Bool :=
  decide (a.stamp < b.stamp) || (a.stamp == b.stamp && ((a.expiry && !b.expiry) || (a.expiry == b.expiry &&
    (decide (a.cmd.home < b.cmd.home) || (a.cmd.home == b.cmd.home &&
      (decide (a.cmd.pair < b.cmd.pair) || (a.cmd.pair == b.cmd.pair && decide (a.cmd.idx < b.cmd.idx))))))))

/-- The next arrival to decide: of the window that the current tick closed (R52), or replayed after a rollback (R392). -/
def State.nextArrival (s : State) : Option Arrival :=
  (s.arrivals.filter (fun (a : Arrival) => decide (a.stamp < s.f PAV_TICK_TICK_STAMP) && decide (a.due ≤ s.jobFrame))).foldl (fun m a =>
    match m with
    | some b => if arrBefore a b then some a else some b
    | none => some a) none

/-- An expiry cause is decided (R246): only a request still PAUSED expires. -/
def State.decideExpiry (s : State) (c : Cmd) : State :=
  match s.req c.scope (cmdTag c) with
  | some r => if r.st = .paused ∧ ¬ s.decisions.any (fun d => d.2.reason == 0 && d.2.cmd.scope == c.scope && cmdTag d.2.cmd == cmdTag c)
      then s.announce ⟨c, 0, 0, [], true⟩ else s
  | none => s

/-- Expiry causes at the front are decided before the next command. -/
def State.popExpiries (s : State) : Nat → State
  | 0 => s
  | n + 1 => match s.nextArrival with
    | some a => if a.expiry then (State.decideExpiry { s with arrivals := s.arrivals.erase a } a.cmd).popExpiries n else s
    | none => s

/-- The root decides the next command when it is of opcode `op`. -/
def State.rootDecides (s : State) (op : Nat) : State :=
  if s.isRoot then
    let s := s.popExpiries s.arrivals.length
    match s.nextArrival with
    | some a => if cmdOp a.cmd = op then State.decideCmd { s with arrivals := s.arrivals.erase a } a else s
    | none => s
  else s

/-- NEW (R222 to R224). -/
def execNewReq (t : Nat) (s : State) : Host.Outcome State Fault Refusal := .next ((s.at t).rootDecides 1)
/-- CONTINUE (R216, R245). -/
def execContinueReq (t : Nat) (s : State) : Host.Outcome State Fault Refusal := .next ((s.at t).rootDecides 2)
/-- PAUSE (R216). -/
def execPause (t : Nat) (s : State) : Host.Outcome State Fault Refusal := .next ((s.at t).rootDecides 3)
/-- RESUME (R216, R222). -/
def execResume (t : Nat) (s : State) : Host.Outcome State Fault Refusal := .next ((s.at t).rootDecides 4)
/-- CANCEL (R216). -/
def execCancel (t : Nat) (s : State) : Host.Outcome State Fault Refusal := .next ((s.at t).rootDecides 5)
/-- FORK (R222, R231). -/
def execFork (t : Nat) (s : State) : Host.Outcome State Fault Refusal := .next ((s.at t).rootDecides 6)

/-- DEFER_EXPIRE (R223): the first DEFERRED request whose MAX_DEFER ticks have passed is rejected with its last reason. -/
def execDeferExpire (t : Nat) (s : State) : Host.Outcome State Fault Refusal :=
  let s := s.at t
  match s.deferred.find? (fun (d : Deferred) => decide (d.since + cmdDefer d.cmd ≤ s.jobFrame)) with
  | some d => .next (if s.isRoot then (s.setDeferred (s.deferred.filter (fun (x : Deferred) => x ≠ d))).announce ⟨d.cmd, d.reason, 0, [], false⟩ else s)
  | none => .next s

/-- TTL_EXPIRE (R244, R246): the root stamps an expiry cause at E + TTL. -/
def execTtlExpire (t scope tag : Nat) (s : State) : Host.Outcome State Fault Refusal :=
  let s := s.at t
  match s.req scope tag with
  | some r =>
    (match r.expAt with
      | some e =>
        if s.isRoot ∧ r.st = .paused ∧ ¬ r.expSent ∧ e ≤ s.now then
          let c : Cmd := ⟨[0, BitVec.ofNat 64 tag], r.pair, scope, r.home, 0, [], [], [], false⟩
          .next { s.setReq { r with expSent := true } with arrivals := s.arrivals ++ [⟨e, c, true, 0⟩] }
        else .next s
      | none => .next s)
  | none => .next s

end Sys2Proof.Machine
end

