-- ==== Sys2Proof/Machine/Correct.lean ====
section
/-! DEFINITION. The correction path: factor records, correction tasks, wide repeats and saturation repair (R108 to R113,
R155 to R166, R177). -/

namespace Sys2Proof.Machine

/-! ### Data in tier N -/

/-- The weight of a W8 tensor of `rows` rows and `cols` columns at tier N offset `a` (R115). -/
def State.w8 (s : State) (a rows cols i j : Nat) : Num :=
  numOfInt (signed 8 (s.byte (a + j * rows + i))) ((s.byte (a + cols * rows + j * (rows / 32) + i / 32) : Int) - 131)

/-- Tier N offset of an array's W8 copy (R116). -/
def State.w8Base (s : State) (A : Nat) : Nat := (s.img.bind (fun i => sfind i.w8At A)).getD 0

/-- The weight of an array's W8 copy at a row and logical column (R116). -/
def State.w8Arr (s : State) (A row col : Nat) : Num := s.w8 (s.w8Base A) 1024 256 row col

/-- Rank of a factor record (R160). -/
def State.factRank (s : State) (A : Nat) : Nat := s.byte (s.f (COR_FACT_ADDR A) + 2)

/-- V at row `i`, column `k` of the factor record (R160). -/
def State.factV (s : State) (A i k : Nat) : Num := s.w8 (s.f (COR_FACT_ADDR A) + 64) 1024 (s.factRank A) i k

/-- U at logical column `j`, component `k` (R160). -/
def State.factU (s : State) (A j k : Nat) : Num :=
  fp32Of (s.num (s.f (COR_FACT_ADDR A) + 64 + 1056 * s.factRank A + 4 * (j * s.factRank A + k)) 4)

/-- The sparse list of the factor record: row, logical column, Δ (R160). -/
def State.sparse (s : State) (A : Nat) : List (Nat × Nat × Int) :=
  let a := s.f (COR_FACT_ADDR A)
  let r := s.factRank A
  (List.range (s.num (a + 4) 2)).map (fun i =>
    let w := s.num (a + 64 + 1056 * r + 1024 * r + 4 * i) 4
    (bits w 22 10, bits w 14 8, signed 8 (bits w 6 8)))

/-! ### Products -/

/-- One window of a product: its slot, blocks, window number, first packet and stream. -/
structure Win where
  slot : Nat
  desc : Nat
  blks : List Blk

/-- Entries put in ascending START order (R158). -/
def insByStart (s : State) (c i : Nat) : List Nat → List Nat
  | [] => [i]
  | j :: js => if slotStart (s.entry c i) < slotStart (s.entry c j) then i :: j :: js else j :: insByStart s c i js

/-- The TILE_PASS descriptor of a slot (R126). -/
def State.tileDesc (s : State) (c i : Nat) : Nat :=
  ((s.sched.map (fun sc => (sc.tile.getD (slotDesc (s.entry c i)) 0).toNat))).getD 0

/-- TILE_PASS slots of core `c` on array `A` that merge into group `g`, in START order. -/
def State.passesOf (s : State) (c A g : Nat) : List Nat :=
  ((s.slotIdxs c).filter (fun i => slotClass (s.entry c i) == 1 && s.slotArr c i == A && bits (s.tileDesc c i) 24 4 == g)).foldr
    (insByStart s c) []

/-- The slots of the product that a correction descriptor names (R158): its first pass and the next ones in START order. -/
def State.productSlots (s : State) (c A g first n : Nat) : List Nat :=
  ((s.passesOf c A g).filter (fun i => decide (slotStart (s.entry c first) ≤ slotStart (s.entry c i)))).take n

/-- Take the packets of each window of a product (R102). -/
def State.takeWins (s : State) (c A : Nat) (errs : List WordErr) : List Nat → State × List Win
  | [] => (s, [])
  | i :: is =>
    let d := s.tileDesc c i
    let r := s.takePkts c (bits d 45 3) false errs (s.rowBudget A / 128) (8 * bits d 28 17)
    let q := r.1.takeWins c A errs is
    (q.1, ⟨i, d, r.2⟩ :: q.2)

/-- e_min of a product: the smallest exponent of its blocks that are not ZERO, else EXP_LO (R155). -/
def prodExp (lo : Nat) (ws : List Win) : Nat :=
  let es := ((ws.map Win.blks).flatten.filter (fun b => b.flag != 1)).map Blk.e
  match es with
  | [] => lo
  | e :: r => r.foldl min e

/-- The real value of an input code of a window. -/
def inVal (e : Nat) (x : Int) : Num := numOfInt x ((e : Int) - 127)

/-- A value deposited at exponent e_min − 8 (R156): D = ⌊v × 2^(135 − e_min)⌉. -/
def depAt (emin : Nat) (v : Num) : Int := depLane ((emin : Int) - 8) v

/-! ### The correction task (R159) -/

/-- z = Vᵀx of one window for component `k`: exact over the window's driven rows, then FP32. -/
def State.zWin (s : State) (A k : Nat) (w : Win) : Num :=
  let e := winExp w.blks
  round32 ((s.driven A (bits w.desc 16 3) w.blks).foldl (fun acc p => numAdd acc (numMul (s.factV A p.1 k) (inVal e p.2))) .zero)

/-- The residual vector z of a product over its windows that are not repeated (R157, R159). -/
def State.zVec (s : State) (A : Nat) (ws : List Win) : List Num :=
  (List.range (s.factRank A)).map (fun k => ((ws.filter (fun w => !isRepeated w.blks)).map (s.zWin A k)).foldl fadd .zero)

/-- The low-rank term u = U z of lane `j` (R159 step 2). -/
def State.uLane (s : State) (A j : Nat) (z : List Num) : Num :=
  (List.range z.length).foldl (fun acc k => ffma (s.factU A j k) (z.getD k .zero) acc) .zero

/-- The sparse term of lane `j`, exact (R159 step 3). -/
def State.sparseLane (s : State) (A j : Nat) (ws : List Win) : Num :=
  let ent := (s.sparse A).filter (fun x => x.2.1 = j)
  (ws.filter (fun w => !isRepeated w.blks)).foldl (fun acc w =>
    let e := winExp w.blks
    let d := s.driven A (bits w.desc 16 3) w.blks
    ent.foldl (fun acc x => match sfind d x.1 with
      | none => acc
      | some code => numAdd acc (numMul (numOfInt x.2.2 (-4)) (inVal e code))) acc) .zero

/-- Outlier rows of an array among 32 rows from `r0` on. -/
def State.outRowsIn (s : State) (A r0 : Nat) : List Nat := (s.outRows A).filter (fun r => decide (r0 ≤ r ∧ r < r0 + 32))

/-- Inputs of the outlier rows of a window's blocks, each block with outlier rows widened under R110 (R158, R161). -/
def State.outBlks (s : State) (c A : Nat) (st : Stream) (pkt0 base : Nat) : Nat → List Blk → State × List (Nat × Num)
  | _, [] => (s, [])
  | k, b :: bs =>
    let rows := s.outRowsIn A (base + 32 * k)
    if rows.isEmpty ∨ b.flag = 1 then s.outBlks c A st pkt0 base (k + 1) bs
    else
      let x := s.blkWide c st false true b (pkt0 + k / 4) (k % 4)
      let q := x.1.outBlks c A st pkt0 base (k + 1) bs
      (q.1, rows.map (fun r => (r, x.2.1.getD (r - base - 32 * k) .zero)) ++ q.2)

/-- The widened outlier inputs of every window of a product. -/
def State.outWins (s : State) (c A : Nat) : List Win → State × List (Nat × Num)
  | [] => (s, [])
  | w :: ws =>
    let x := s.outBlks c A (s.stream c (bits w.desc 0 16)) (s.note c w.slot).firstPkt (bits w.desc 16 3 * s.rowBudget A) 0 w.blks
    let q := x.1.outWins c A ws
    (q.1, x.2 ++ q.2)

/-- Outlier rows that lie in a driven window of the product: one whose blocks are not all ZERO (R161). -/
def State.outDriven (s : State) (A : Nat) (ws : List Win) : List Nat :=
  (s.outRows A).filter (fun r => ws.any (fun w =>
    let base := bits w.desc 16 3 * s.rowBudget A
    decide (base ≤ r ∧ r < base + s.rowBudget A) && w.blks.any (fun b => b.flag != 1)))

/-- The outlier products of lane `j` from widened A4 inputs, exact (R161). -/
def State.outLane (s : State) (A j : Nat) (ins : List (Nat × Num)) : Num :=
  ins.foldl (fun acc x => numAdd acc (numMul (s.w8Arr A x.1 j) x.2)) .zero

/-- The outlier products of lane `j` from a BF16 vector, in FP32 (R161). -/
def State.outLaneBf (s : State) (A j : Nat) (rows : List Nat) (v : List Num) : Num :=
  rows.foldl (fun acc r => ffma (s.w8Arr A r j) (v.getD r .zero) acc) .zero

/-- CORRECTION_TASK (R159): a WIDE slot with a correction descriptor deposits a product's residual, sparse and outlier
terms, added exactly and rounded once (R156); with no valid factors it deposits zero (R163). -/
def execCorrectionTask (t core slot : Nat) (errs : List WordErr) (s : State) : Host.Outcome State Fault Refusal :=
  let s := s.at t
  if s.slotDue core slot 2 then
    match s.wideDesc core slot with
    | some (.corr w) =>
      let d := w.toNat
      let A := 32 * core + 4 * bits d 42 3 + bits d 40 2
      let g := bits d 36 4
      let T := 8 * core + bits d 42 3
      let idx := s.productSlots core A g (bits d 48 16) (bits d 45 3 + 1)
      let r := (s.mark core slot).takeWins core A errs idx
      let s := r.1
      let ws := r.2
      let emin := prodExp (s.stream core (bits (s.tileDesc core (bits d 48 16)) 0 16)).expLo ws
      if s.b (COR_ACFG_FACT_VALID A) then
        let b := if bits d 34 2 = 1 then some (s.readSpd core (bits d 31 3) (8 * bits d 14 17) 2048 errs) else none
        let s := (b.map Rd.s).getD s
        let bf := b.map (fun x => if x.bad then [] else plainVals false 1024 x.bs)
        let o := if bf.isSome then (s, []) else s.outWins core A ws
        let s := o.1
        let z := s.zVec A ws
        let sat := ((s.satRec.filter (fun (x : SatRec) => x.arr == A && idx.contains x.slot)).map (fun (x : SatRec) => x.lanes.map Prod.fst)).flatten
        let lane (j : Nat) : Int :=
          depAt emin (numAdd (if sat.contains j then .zero else numAdd (s.uLane A j z) (s.sparseLane A j ws))
            (match bf with
              | none => s.outLane A j o.2
              | some v => s.outLaneBf A j (s.outDriven A ws) v))
        .next (s.merge T g ((List.range 256).map lane) ((emin : Int) - 8))
      else .next (s.merge T g (List.replicate 256 0) ((emin : Int) - 8))
    | _ => .next s
  else .next s

/-! ### The REPAIR slot (R108 to R113, R164 to R166) -/

/-- What a REPAIR slot works on: the state and the cycles left. -/
structure REnv where
  s    : State
  left : Nat

/-- The wide inputs of a repeated pass: row and value of every row in its window but the outlier rows, with the smallest
exponent met; whether a record was missing, and whether a used record carries a flag of its own (R110, R111). -/
def State.repInputs (s : State) (c A : Nat) (desc pkt0 : Nat) (bs : List Blk) : State × List (Nat × Num) × Bool × Bool :=
  let base := bits desc 16 3 * s.rowBudget A
  let out := if s.b (COR_ACFG_FACT_VALID A) then s.outRows A else []
  let r := s.blksWide c (s.stream c (bits desc 0 16)) false true pkt0 0 bs
  let v := (List.range r.2.1.length).map (fun i => (base + i, r.2.1.getD i .zero))
  (r.1, v.filter (fun p => !out.contains p.1), r.2.2.1, r.2.2.2)

/-- The exponent a block contributes at: its own, or that of its wide copy (R118). -/
def State.repExp (s : State) (c : Nat) (st : Stream) (pkt0 : Nat) (bs : List Blk) : Nat :=
  let es := (List.range bs.length).filterMap (fun i =>
    let b := bs.getD i .zero
    if b.flag = 1 then none
    else if b.flag < 2 then some b.e
    else match s.findWc c st (pkt0 + i / 4) (i % 4) with
      | .found _ e _ _ => if e = 0 then none else some e
      | _ => none)
  match es with
  | [] => 1
  | e :: r => r.foldl min e

/-- Serve or keep one held pass (R111, R113, R130). -/
def REnv.serveHeld (w : REnv) (c : Nat) (errs : List WordErr) (h : Held) : REnv :=
  let s := w.s
  let nt := s.note c h.slot
  let r := s.takePkts c (bits h.desc 45 3) false errs (s.rowBudget h.arr / 128) (8 * bits h.desc 28 17)
  let x := r.1.repInputs c h.arr h.desc nt.firstPkt r.2
  let cost := s.rowBudget h.arr / 4
  if cost ≤ w.left ∧ ¬ x.2.2.1 then
    let s := x.1
    let emin := s.repExp c (s.stream c (bits h.desc 0 16)) nt.firstPkt r.2
    let lane (j : Nat) : Int := depAt emin (x.2.1.foldl (fun acc p => numAdd acc (numMul p.2 (s.w8Arr h.arr p.1 j))) .zero)
    let s := (s.merge h.tile h.group ((List.range 256).map lane) ((emin : Int) - 8)).inc (RING_CNT_COUNT c 5)
    ⟨s.when x.2.2.2 (·.degradeMark c 1 nt.batch), w.left - cost⟩
  else
    let s := s.merge h.tile h.group (if h.split then List.replicate 256 0 else h.lanes) h.e
    ⟨((s.inc (RING_CNT_COUNT c 6)).degradeMark c 1 nt.batch), w.left⟩

/-- Serve or keep one wide task that met a flagged block (R108, R113); `cost` is the cycles its repeat takes. -/
def REnv.serveTask (w : REnv) (c : Nat) (errs : List WordErr) (slot cost : Nat) : REnv :=
  match w.s.wideDesc c slot with
  | some (.task ops _ batch) =>
    let r := w.s.runTask c true errs (w.s.note c slot) ops
    if cost ≤ w.left ∧ ¬ r.flagged then
      ⟨(r.s.inc (RING_CNT_COUNT c 5)).when r.degr (·.degradeMark c 1 batch), w.left - cost⟩
    else
      let k := w.s.runTask c false errs (w.s.note c slot) ops
      ⟨(k.s.inc (RING_CNT_COUNT c 6)).degradeMark c 1 batch, w.left⟩
  | _ => w

/-- The exact product of one lane of a saturated pass (R165), from the widened A4 inputs and the W8 copy. -/
def State.exactLane (s : State) (A e : Nat) (inputs : List (Nat × Int)) (j : Nat) : Num :=
  inputs.foldl (fun acc p => numAdd acc (numMul (s.w8Arr A p.1 j) (inVal e p.2))) .zero

/-- Repair the lanes of one saturation record in ascending lane order while cycles last (R165 to R167). -/
def REnv.serveSat (w : REnv) (c emin : Nat) (x : SatRec) : REnv :=
  let s := w.s
  let cost := (s.rowBudget x.arr + 1023) / 1024
  let n := min x.lanes.length (w.left / cost)
  let done := x.lanes.take n
  let lane (j : Nat) : Int := match sfind done j with
    | none => 0
    | some y => depAt emin (s.exactLane x.arr x.e.toNat x.inputs j) - 2 ^ (8 + x.e - emin).toNat * y
  let s := s.when (!done.isEmpty) (·.merge x.tile x.group ((List.range 256).map lane) ((emin : Int) - 8))
  let s := s.add (COR_REP_REPAIRED c) n
  let bad := x.lanes.length - n
  let s := s.when (decide (0 < bad)) (fun s =>
    ((s.add (COR_REP_UNREPAIRED c) bad).add (COR_ERR_SATP_CNT x.arr) bad).degradeMark c 0 (s.note c x.slot).batch)
  ⟨s, if bad = 0 then w.left - n * cost else 0⟩

/-- Records and held passes served in order of START, then tile (R112, R166). -/
def heldBefore (a b : Held) : Bool := decide (a.start < b.start) || (a.start == b.start && decide (a.tile < b.tile))
def insHeld (h : Held) : List Held → List Held
  | [] => [h]
  | x :: xs => if heldBefore h x then h :: x :: xs else x :: insHeld h xs
def satBefore (a b : SatRec) : Bool := decide (a.start < b.start) || (a.start == b.start && decide (a.tile < b.tile))
def insSat (h : SatRec) : List SatRec → List SatRec
  | [] => [h]
  | x :: xs => if satBefore h x then h :: x :: xs else x :: insSat h xs

/-- REPAIR_SLOT (R112): wide repeats first, then saturation repairs. `cycles` gives the cycles each repeated wide task
takes, in slot order: the spec states the cost of repeated passes and lanes only. -/
def execRepairSlot (t core slot : Nat) (cycles : List Nat) (errs : List WordErr) (s : State) : Host.Outcome State Fault Refusal :=
  let s := s.at t
  if s.slotDue core slot 8 then
    let left := 96 * slotLen (s.entry core slot)
    let mine (h : Held) : Bool := h.tile / 8 == core && bits h.desc 48 16 == slot
    let hs := (s.held.filter mine).foldr insHeld []
    let w : REnv := hs.foldl (fun (w : REnv) h => w.serveHeld core errs h) ⟨s.mark core slot, left⟩
    let ts := w.s.wideRep.filter (fun p => p.1 == core && (match w.s.wideDesc core p.2 with
      | some (.task _ r _) => r == slot
      | _ => false))
    let w : REnv := (List.range ts.length).foldl (fun (w : REnv) i => w.serveTask core errs (ts.getD i (0, 0)).2 (cycles.getD i 0)) w
    let sats := (w.s.satRec.filter (fun (x : SatRec) => x.tile / 8 == core && x.repair == slot)).foldr insSat []
    let w : REnv := sats.foldl (fun (w : REnv) x =>
      let ps := (w.s.passesOf core x.arr x.group).filter (fun i => bits (w.s.tileDesc core i) 48 16 == slot)
      let es := (w.s.takeWins core x.arr [] ps).2
      w.serveSat core (min (prodExp 250 es) x.e.toNat) x) w
    .next { w.s with
      held := w.s.held.filter (fun h => !mine h),
      wideRep := w.s.wideRep.filter (fun p => !ts.contains p),
      satRec := w.s.satRec.filter (fun (x : SatRec) => !(x.tile / 8 == core && x.repair == slot)) }
  else .next s

end Sys2Proof.Machine
end

