-- ==== Sys2Proof/Machine/Program.lean ====
section
/-! DEFINITION. The programming engines, factor validation and the register actions of arrays (R59 to R61, R83 to R89,
R162, R174, R253, R254, R473, R528). -/

namespace Sys2Proof.Machine

/-! ### The array-die reading of a region (R169) -/

/-- Valid readings among sensors: their sum and number, in 0.25 °C units. -/
def State.readings (s : State) (xs : List Nat) : Int × Nat :=
  let ok := xs.filter (fun x => s.f (THM_SDATA_STATE x) == 0)
  ((ok.map (fun x => s.fi (THM_SDATA_READ x))).sum, ok.length)

/-- The mean of the region's array-die sensors not marked broken, or the die's mean when all four are (R169). -/
def State.arrReading (s : State) (r : Nat) : Int × Nat :=
  let m := s.readings ((List.range 4).map (fun j => 128 + 4 * r + j))
  if m.2 = 0 then s.readings ((List.range 64).map (fun j => 128 + 64 * (r / 16) + j)) else m

/-- The reading is at or above 85 °C (R85). -/
def State.hot (s : State) (r : Nat) : Bool := decide ((s.arrReading r).1 ≥ 340 * (s.arrReading r).2) && (s.arrReading r).2 != 0
/-- The reading is at or below 82 °C (R85). -/
def State.cool (s : State) (r : Nat) : Bool := decide ((s.arrReading r).1 ≤ 328 * (s.arrReading r).2)

/-! ### Programming records (R253, R254) -/

/-- The record at a tier N offset passes the engine's checks: MAGIC, ENC, REC_LEN, CRC, wholly in tier N (R254). -/
def State.recordOk (s : State) (a : Nat) : Bool :=
  let n := s.num (a + 16) 4
  let chunks := ((List.range 8192).filter (fun k => s.byte (a + 272 + k / 8) / 2 ^ (k % 8) % 2 == 1)).length
  s.num a 2 == 0xA8C4 && s.byte (a + 2) == 1 && n == 1296 + 16 * chunks && decide (a + n ≤ 2 ^ 39) &&
    crc32 (s.bytes a 20 ++ [0, 0, 0, 0] ++ s.bytes (a + 24) (n - 24)) == s.num (a + 20) 4

/-- Chunk n = 32j + r is present (R253). -/
def State.chunkAt (s : State) (a n : Nat) : Bool := s.byte (a + 272 + n / 8) / 2 ^ (n % 8) % 2 == 1

/-- The weight of logical column `j` at row `i` in a record (R253, R99): absent chunks are zero. -/
def State.recWeight (s : State) (a i j : Nat) : Int :=
  let n := 32 * j + i / 32
  if s.chunkAt a n then
    let k := ((List.range n).filter (s.chunkAt a)).length
    let b := s.byte (a + 1296 + 16 * k + (i % 32) / 2)
    signed 4 (if i % 2 = 0 then b % 16 else b / 16)
  else 0

/-- The pairs (c, f) permitted for a magnitude 0 to 7 (R59). -/
def pairsOf (w : Nat) : List (Int × Int) :=
  match w with
  | 0 => [(0, 0)] | 1 => [(0, 1), (1, -3)] | 2 => [(0, 2), (1, -2)] | 3 => [(0, 3), (1, -1)]
  | 4 => [(1, 0)] | 5 => [(1, 1), (2, -3)] | 6 => [(1, 2), (2, -2)] | _ => [(1, 3), (2, -1)]

/-- Expected squared error of a pair: 16σ²(c) + σ²(f), from the factory record's level variances (R60). -/
def pairErr (A : Nat) (p : Int × Int) : Nat := 16 * Config.levelVar A p.1.natAbs + Config.levelVar A p.2.natAbs

/-- The pair the engine picks (R60): the lower expected error, the smaller |c| when equal. -/
def pickPair (A : Nat) (w : Int) : Int × Int :=
  let p := (pairsOf w.natAbs).foldl (fun best p =>
    if pairErr A p < pairErr A best ∨ (pairErr A p = pairErr A best ∧ p.1.natAbs < best.1.natAbs) then p else best)
    ((pairsOf w.natAbs).headD (0, 0))
  if w < 0 then (-p.1, -p.2) else p

/-- The checksum weight of a group's row: the rounded mean of its 16 weights (R61). -/
def State.chkWeight (s : State) (a i g : Nat) : Int :=
  divAway (((List.range 16).map (fun j => s.recWeight a i (16 * g + j))).sum) 16

/-- The levels a record puts into an array: physical column 34g + q, row by row (R58). -/
def State.recCells (s : State) (A a : Nat) : List Int :=
  ((List.range 544).map (fun col =>
    let g := col / 34
    let q := col % 34
    (List.range 1024).map (fun i =>
      let w := if q < 32 then s.recWeight a i (16 * g + q / 2) else s.chkWeight a i g
      if q % 2 = 0 then (pickPair A w).1 else (pickPair A w).2))).flatten

/-! ### The engine (R83 to R88) -/

/-- The command an array has queued or running (R83). -/
def State.cmdOf (s : State) (A : Nat) : Option ProgCmd := s.progQ.find? (fun (p : ProgCmd) => p.arr == A)

/-- A slot of the combination in force targets the array's tile (R84). -/
def State.tileBusy (s : State) (A : Nat) : Bool :=
  (s.slotIdxs (A / 32)).any (fun i =>
    let e := s.entry (A / 32) i
    (slotClass e == 1 && slotTarget e / 4 % 8 == A / 4 % 8) || (slotClass e == 6 && slotTarget e == A / 4 % 8))

/-- A command ends with a result, and PROG_DONE is set. -/
def State.progEnd (s : State) (A result : Nat) : State :=
  ({ s with progQ := s.progQ.filter (fun (p : ProgCmd) => p.arr != A) }.setf (ARR_PSTAT_RESULT A) result).evt (ARR_EVT_PROG_DONE A)

/-- A load's own count of its arrays (R278). -/
def State.loadCount (s : State) (A : Nat) (F : Fld) : State := s.when (s.loadArrs.contains A) (·.inc F)

/-- An array of a failed tile: PROGRAM ends at once (R473). -/
def State.progFailedTile (s : State) (A : Nat) : State :=
  let s := (((s.setf (ARR_STATE_STATE A) 4).setf (ARR_STATE_CAUSE A) 3).setf (ARR_PSTAT_STUCK A) 0xFFFF).setf (COR_ACFG_FACT_VALID A) 0
  (s.progEnd A 6).loadCount A IMG_PROG_FAILED

/-- A PROGRAM or ERASE command that passed the checks of a write: BUSY_TILE, or queued (R83, R84). FACT_VALID returns to
0 (R162). -/
def State.progQueue (s : State) (A : Nat) (erase : Bool) (src : Nat) : State :=
  if s.tileBusy A then s.setf (ARR_PSTAT_RESULT A) 5
  else if !erase && s.failTile.contains (A / 4) then s.progFailedTile A
  else
    { (s.setf (COR_ACFG_FACT_VALID A) 0).setf (ARR_PSTAT_RESULT A) 1 with
      progQ := s.progQ ++ [⟨A, erase, src, s.now, false, false⟩] }

/-- PROGRAM (R83): a write of ARR_PROG. -/
def State.wrProgram (s : State) (q : Requester) (arr : Nat) (src : Nat) : State :=
  s.guarded q (arrBlock arr + 0x18) false (src % 64 == 0 && (s.cmdOf arr).isNone) (·.progQueue arr false src)

/-- PROGRAM: that write, as a command. -/
def execProgram (t : Nat) (q : Requester) (arr src : Nat) (s : State) : Host.Outcome State Fault Refusal :=
  .next ((s.at t).wrProgram q arr src)

/-- ERASE (R87): a write of ARR_PROG. -/
def State.wrErase (s : State) (q : Requester) (arr : Nat) : State :=
  s.guarded q (arrBlock arr + 0x18) false (s.cmdOf arr).isNone (·.progQueue arr true 0)

/-- ERASE: that write, as a command. -/
def execErase (t : Nat) (q : Requester) (arr : Nat) (s : State) : Host.Outcome State Fault Refusal :=
  .next ((s.at t).wrErase q arr)

/-- ABORT of the array's command in hand: EMPTY, ABORTED, PROG_DONE; nothing without one (R87). -/
def State.progAbort (s : State) (A : Nat) : State :=
  match s.cmdOf A with
  | none => s
  | some _ => (((s.setf (ARR_STATE_STATE A) 0).setf (ARR_STATE_CAUSE A) 0).setf (COR_ACFG_FACT_VALID A) 0).progEnd A 7

/-- PROG_ABORT (R87): a write of ARR_PROG. -/
def State.wrProgAbort (s : State) (q : Requester) (arr : Nat) : State :=
  s.guarded q (arrBlock arr + 0x18) false true (·.progAbort arr)

/-- PROG_ABORT: that write, as a command. -/
def execProgAbort (t : Nat) (q : Requester) (arr : Nat) (s : State) : Host.Outcome State Fault Refusal :=
  .next ((s.at t).wrProgAbort q arr)

/-- Queued before (R83): the earlier stamp, then ascending core, tile and array. -/
def cmdBefore (a b : ProgCmd) : Bool := decide (a.stamp < b.stamp) || (a.stamp == b.stamp && decide (a.arr < b.arr))

/-- The queued command a free channel takes next. -/
def nextCmd : List ProgCmd → Option ProgCmd
  | [] => none
  | p :: ps => match nextCmd ps with
    | none => some p
    | some r => if cmdBefore p r then some p else some r

/-- Replace an array's command. -/
def State.setCmd (s : State) (c : ProgCmd) : State :=
  { s with progQ := s.progQ.map (fun (p : ProgCmd) => if p.arr = c.arr then c else p) }

/-- PROGRAM_START (R83): a free channel of the region takes the next queued command and starts it; a record that fails
its checks is refused before any cell changes (R254). -/
def execProgramStart (t region : Nat) (s : State) : Host.Outcome State Fault Refusal :=
  let s := s.at t
  let mine := s.progQ.filter (fun (p : ProgCmd) => p.arr / 1024 == region)
  if s.power = .on ∧ (mine.filter (fun (p : ProgCmd) => p.running)).length < 16 then
    match nextCmd (mine.filter (fun (p : ProgCmd) => !p.running)) with
    | none => .next s
    | some c =>
      if c.erase then .next ((s.setCmd { c with running := true }).setf (ARR_PSTAT_RESULT c.arr) 2)
      else if s.recordOk c.src then
        let hot := s.hot region
        .next (((s.setCmd { c with running := true, paused := hot }).setf (ARR_STATE_STATE c.arr) 1).setf (ARR_PSTAT_RESULT c.arr)
          (if hot then 3 else 2))
      else .next ((s.progEnd c.arr 8).loadCount c.arr IMG_PROG_FAILED)
  else .next s

/-- Channels of a region pause at 85 °C and resume at 82 °C, between rows, at a sample of its sensors (R85). -/
def State.heatChannels (s : State) (r : Nat) : State :=
  s.progQ.foldl (fun s (c : ProgCmd) =>
    if c.arr / 1024 = r ∧ c.running ∧ ¬ c.erase then
      (if ¬ c.paused ∧ s.hot r then (s.setCmd { c with paused := true }).setf (ARR_PSTAT_RESULT c.arr) 3
       else if c.paused ∧ s.cool r then (s.setCmd { c with paused := false }).setf (ARR_PSTAT_RESULT c.arr) 2
       else s)
    else s) s

/-- PROG_RESUME (R85): paused channels of the region resume at the first sample of 82 °C or below. -/
def execProgResume (t region : Nat) (s : State) : Host.Outcome State Fault Refusal :=
  let s := s.at t
  .next (s.when (s.power == .on && s.cool region) (·.heatChannels region))

/-- The residual bytes of an array: ΔW in 1/16 W4 steps, saturating at ±127, logical column by column (R86). -/
def residBytes (resid : List (Nat × Int)) : List Nat :=
  (List.range 262144).map (fun k => ((max (-127) (min 127 ((sfind resid k).getD 0))) % 256).toNat)

/-- PROG_DONE (R85, R86): the array's PROGRAM ends with `stuck` cells outside their windows after at most `iterMax`
iterations a row; `resid` lists the nonzero residuals read back, by 1,024 × column + row. -/
def execProgDone (t arr stuck iterMax : Nat) (resid : List (Nat × Int)) (s : State) : Host.Outcome State Fault Refusal :=
  let s := s.at t
  match s.cmdOf arr with
  | none => .next s
  | some c =>
    if c.running ∧ ¬ c.erase ∧ ¬ c.paused then
      let s := (s.setf (ARR_PSTAT_STUCK arr) (min stuck 0xFFFF)).setf (ARR_PSTAT_ITER_MAX arr) (min iterMax 16)
      if 1024 < stuck then
        let s := (s.setf (ARR_STATE_STATE arr) 4).setf (ARR_STATE_CAUSE arr) 3
        .next (((s.raise 0 0x27 1 arr stuck).progEnd arr 6).loadCount arr IMG_PROG_FAILED)
      else
        let s : State := { s with cells := sput s.cells arr (s.recCells arr c.src), cfgLoad := s.cfgLoad ++ [(arr, c.src, s.now)],
                                  trkPrev := serase s.trkPrev arr, trkWin := serase s.trkWin arr }
        let s := s.write (s.num (c.src + 8) 8 % 2 ^ 39) (residBytes resid)
        let s := ((s.setf (ARR_VERIFIED_STAMP arr) s.now).setf (ARR_STATE_PROG_CNT arr) (s.f (ARR_STATE_PROG_CNT arr) + 1)).setf
          (ARR_STATE_STATE arr) 2
        let s := ((s.setf (ARR_STATE_CAUSE arr) 0).setf (COR_GAIN_G_TRACK arr) 0x4000).setf (COR_TRK_REJ_RUN arr) 0
        .next ((s.progEnd arr 4).loadCount arr IMG_PROG_DONE)
    else .next s

/-- ERASE_DONE (R87): every cell is at level 0 and the array is EMPTY. -/
def execEraseDone (t arr : Nat) (s : State) : Host.Outcome State Fault Refusal :=
  let s := s.at t
  match s.cmdOf arr with
  | none => .next s
  | some c =>
    if c.running ∧ c.erase then
      .next ({ (s.setf (ARR_STATE_STATE arr) 0).setf (ARR_STATE_CAUSE arr) 0 with cells := serase s.cells arr }.progEnd arr 4)
    else .next s

/-- Commit bits of a register outside any transaction: the register and every shadow of those bits take them (R254). -/
def State.commitDirect (s : State) (key mask v : Nat) : State :=
  let fix (w : Shadow) : Shadow := if w.key = key then { w with val := w.val - Nat.land w.val mask + Nat.land (Nat.land v mask) w.mask } else w
  let r := (s.reg key).toNat
  { s.setReg key (BitVec.ofNat 64 (r - Nat.land r mask + Nat.land v mask)) with
    txnOpen := s.txnOpen.map (fun (x : TxnOpen) => { x with shadows := x.shadows.map fix }),
    txnPend := s.txnPend.map (fun (x : TxnPend) => { x with shadows := x.shadows.map fix }) }

/-- The fields a record gives its array (R253, R254): CHK_EN, ROW_BUDGET, CHK_LIMIT, TOL and the range codes. -/
def State.loadRecordCfg (s : State) (A a : Nat) : State :=
  let cfg := s.byte (a + 3)
  let s := s.commitDirect (arrBlock A) 0xFF0103 (s.byte (a + 4) * 2 ^ 16 + cfg % 2 * 2 ^ 8 + cfg / 2 % 4)
  let s := (List.range 4).foldl (fun s i => s.commitDirect (arrBlock A + 0x40 + 8 * i) (2 ^ 64 - 1) (s.num (a + 24 + 8 * i) 8)) s
  let rc := s.num (a + 64) 204
  (List.range 544).foldl (fun s k => s.commitDirect (rangeBank A k) (7 * 2 ^ 48) (bits rc (3 * k) 3 * 2 ^ 48)) s

/-- PROG_CONFIG_LOAD (R254): at the tick after a completed PROGRAM the record's fields are committed directly. -/
def execProgConfigLoad (t arr : Nat) (s : State) : Host.Outcome State Fault Refusal :=
  let s := s.at t
  match s.cfgLoad.find? (fun p => p.1 = arr ∧ p.2.2 < s.f PAV_TICK_TICK_STAMP) with
  | none => .next s
  | some p =>
    let s : State := { s with cfgLoad := s.cfgLoad.filter (fun x => x.1 ≠ arr) }
    .next (s.when (s.f (ARR_STATE_STATE arr) == 2) (·.loadRecordCfg arr p.2.1))

/-! ### Factor records (R160, R162) -/

/-- The record at COR_FACT passes every check of R162. -/
def State.factorOk (s : State) (A : Nat) : Bool :=
  let a := s.f (COR_FACT_ADDR A)
  let r := s.byte (a + 2)
  let nOut := s.byte (a + 3)
  let nSp := s.num (a + 4) 2
  let n := 64 + 1056 * r + 1024 * r + 4 * nSp
  let st := s.f (ARR_STATE_STATE A)
  let rank := match s.f (COR_ACFG_RANK A) with
    | 0 => 0 | 1 => 2 | 2 => 4 | _ => 8
  s.num a 2 == 0xC0A7 && r == rank && decide (nOut ≤ 16) && decide (nSp ≤ 1024) && decide (a + n ≤ 2 ^ 39) && (st == 2 || st == 3) &&
    s.num (a + 8) 8 == s.f (ARR_VERIFIED_STAMP A) &&
    crc32 (s.bytes a 48 ++ [0, 0, 0, 0] ++ s.bytes (a + 52) (n - 52)) == s.num (a + 48) 4

/-- VALIDATE (R162, R525): an action write of COR_ACFG; it needs no open transaction and sets no shadow. -/
def State.wrValidate (s : State) (q : Requester) (arr : Nat) : State :=
  s.guarded q (corArr arr) false true (fun s => { s with valReq := sput s.valReq arr s.now })

/-- VALIDATE: that write, as a command. -/
def execValidate (t : Nat) (q : Requester) (arr : Nat) (s : State) : Host.Outcome State Fault Refusal :=
  .next ((s.at t).wrValidate q arr)

/-- FACT_VALID_SET (R162): at the tick after VALIDATE the record is checked. -/
def execFactValidSet (t arr : Nat) (s : State) : Host.Outcome State Fault Refusal :=
  let s := s.at t
  match sfind s.valReq arr with
  | none => .next s
  | some w =>
    if w < s.f PAV_TICK_TICK_STAMP then
      let s : State := { s with valReq := serase s.valReq arr }
      if s.factorOk arr then .next (s.setf (COR_ACFG_FACT_VALID arr) 1)
      else .next (((s.setf (COR_ACFG_FACT_VALID arr) 0).setf (COR_EVT_LAST_ARRAY (arr / 32)) (arr % 32)).evt (COR_EVT_VALIDATE_FAIL (arr / 32)))
    else .next s

/-- FORCE_FLAG (R528): a write of ARR_STATE.FORCE_FLAG = 1. -/
def State.wrForceFlag (s : State) (q : Requester) (arr : Nat) : State :=
  s.guarded q (arrBlock arr + 8) false true (·.flag arr 4 0 0)

/-- FORCE_FLAG: that write, as a command. -/
def execForceFlag (t : Nat) (q : Requester) (arr : Nat) (s : State) : Host.Outcome State Fault Refusal :=
  .next ((s.at t).wrForceFlag q arr)

/-- G_TRACK_WRITE (R174): a write of COR_GAIN replaces G_TRACK and clears the previous window and REJ_RUN. -/
def State.wrGTrack (s : State) (q : Requester) (arr : Nat) (val : Nat) : State :=
  (s.guarded q (corArr arr + 0x10) false (decide (0x2000 ≤ val % 2 ^ 16)) (fun s =>
    { (s.setf (COR_GAIN_G_TRACK arr) val).setf (COR_TRK_REJ_RUN arr) 0 with
      trkPrev := serase s.trkPrev arr, trkNext := serase s.trkNext arr }))

/-- G_TRACK_WRITE: that write, as a command. -/
def execGTrackWrite (t : Nat) (q : Requester) (arr val : Nat) (s : State) : Host.Outcome State Fault Refusal :=
  .next ((s.at t).wrGTrack q arr val)

/-- TRIM_WRITE (R82): a write of CNV_DATA at the converter the requester's CNV_ADDR selects. The trims take effect at
once and the previous measurement is cleared; the register's RANGE field is RWT, so the write needs an open transaction
(R6) and sets the shadow of that array's range code, and a spare index takes no range code. -/
def State.wrTrim (s : State) (q : Requester) (tile : Nat) (off : Nat) (gain : Nat) (range : Nat) : State :=
  let sel := (s.reg (selCopy (cnvTile tile + 0x28) q.code)).toNat
  let k := bits sel 0 10
  let A := 4 * tile + bits sel 10 2
  let a := cnvTile tile + 0x30
  (s.guarded q a true (s.boundsOk q a (range % 8 * 2 ^ 48) [(48, 3)] && (decide (k < 544) || range % 8 == 0)) (fun s =>
    let s : State := { ((s.setf (CNV_DATA_OFFSET_TRIM tile k) off).setf (CNV_DATA_GAIN_TRIM tile k) gain).setf (CNV_DATA_PREV_VALID tile k) 0 with
      calPrev := serase s.calPrev (560 * tile + k), swTrim := sput s.swTrim (560 * tile + k) s.now }
    s.when (decide (k < 544)) (·.shadow q a (rangeBank A k) (7 * 2 ^ 48) (range % 8 * 2 ^ 48))))

/-- TRIM_WRITE: that write, as a command. -/
def execTrimWrite (t : Nat) (q : Requester) (tile off gain range : Nat) (s : State) : Host.Outcome State Fault Refusal :=
  .next ((s.at t).wrTrim q tile off gain range)

/-! ### ACC_CLR and SPD_DATA (R154) -/

/-- The core runs a slot table (R154). -/
def State.coreRuns (s : State) (c : Nat) : Bool := s.active && !s.stubbed c

/-- ACC_CLR (R154): clears the groups of the mask, or is refused with BUSY_CORE. -/
def State.wrAccClr (s : State) (q : Requester) (tile : Nat) (mask : Nat) : State :=
  let a := accTile tile + 0x80
  (s.guarded q a false true (fun s => if s.coreRuns (tile / 8) then s.reject q a 0x0F else s.clearGroups tile mask))

/-- ACC_CLR: that write, as a command. -/
def execAccClr (t : Nat) (q : Requester) (tile mask : Nat) (s : State) : Host.Outcome State Fault Refusal :=
  .next ((s.at t).wrAccClr q tile mask)

/-- One even-parity bit a byte (R147). -/
def parityBits (bs : List Nat) : Nat :=
  (List.range 8).foldl (fun acc i => acc + (((List.range 8).filter (fun k => bs.getD i 0 / 2 ^ k % 2 == 1)).length % 2) * 2 ^ i) 0

/-- Positions of the data bits in a Hamming word: those that are no power of two, in order. -/
def hamPos : List Nat := (List.range 72).filter (fun p => ¬ [0, 1, 2, 4, 8, 16, 32, 64].contains p)

/-- Check bits of the (72,64) code: seven Hamming bits and the overall parity (bit order PRESUMED; R147 names the code). -/
def secdedBits (w : Nat) : Nat :=
  let one (i : Nat) : Nat :=
    (((List.range 64).filter (fun k => w / 2 ^ k % 2 == 1 && hamPos.getD k 0 / 2 ^ i % 2 == 1)).length) % 2
  let c := (List.range 7).foldl (fun acc i => acc + one i * 2 ^ i) 0
  let ones := ((List.range 64).filter (fun k => w / 2 ^ k % 2 == 1)).length + ((List.range 7).filter (fun i => one i == 1)).length
  c + ones % 2 * 128

/-- The check bits stored with a word of core `c`. -/
def State.checkBits (s : State) (c off : Nat) : Nat :=
  if s.secded c (off / 65536) then secdedBits (s.num (spd c off) 8) else parityBits (s.bytes (spd c off) 8)

/-- SPD_DATA_READ (R154): the word at the requester's SPD_ADDR and its check bits; 0 while the core runs a slot table.
`err` is a bit error met in the word. -/
def execSpdDataRead (t : Nat) (q : Requester) (core : Nat) (err : Option WordErr) (s : State) : Host.Outcome State Fault Refusal :=
  let s := s.at t
  match s.gate q (spdBlock core + 0x10) with
  | some r => .next { r with lastRead := if s.power = .on ∧ s.stubbed core ∧ (q ≠ .host ∨ 3 ≤ s.f SYS_STATUS_PHASE) then BitVec.ofNat 64 (2 ^ 64 - 1) else 0 }
  | none =>
    if s.coreRuns core then .next { s with lastRead := 0 }
    else
      let off := s.f ⟨selCopy (spdBlock core + 8) q.code, 0, 20⟩
      let r := s.readSpd core 0 off 8 (err.toList.map (fun (e : WordErr) => { e with core := core, off := off }))
      .next { r.s.setf (SPD_DCHK_CHECK core) (r.s.checkBits core off) with lastRead := BitVec.ofNat 64 (leNat r.bs) }

/-- SPD_DATA_WRITE (R154): stores the word with fresh check bits, or is refused with BUSY_CORE. -/
def State.wrSpdData (s : State) (q : Requester) (core : Nat) (val : Word) : State :=
  let a := spdBlock core + 0x10
  (s.guarded q a false true (fun s =>
    if s.coreRuns core then s.reject q a 0x0F
    else s.writeSpd core 0 (s.f ⟨selCopy (spdBlock core + 8) q.code, 0, 20⟩) (leBytes 8 val.toNat)))

/-- SPD_DATA_WRITE: that write, as a command. -/
def execSpdDataWrite (t : Nat) (q : Requester) (core : Nat) (val : Word) (s : State) : Host.Outcome State Fault Refusal :=
  .next ((s.at t).wrSpdData q core val)

end Sys2Proof.Machine
end

