-- ==== Sys2Proof/Machine/Frame.lean ====
section
/-! DEFINITION. Inside a frame: pause and hold passes, wake passes, WAITs, the local frame end with its throttle latch and
converter calibration, and idle intervals: R22, R34 to R38, R45 to R48, R75 to R81, R177, R317. -/

namespace Sys2Proof.Machine

/-- Passes since the tick, pause and hold passes among them (R22). -/
def State.elapsed (s : State) : Nat := (s.now - s.f PAV_TICK_TICK_STAMP) / 64

/-- PAUSE_PASS (R45): `k` pause passes after 16 more work passes. -/
def execPausePass (t : Nat) (s : State) : Host.Outcome State Fault Refusal :=
  let s := s.at t
  let k := min 7 (s.f PAV_THR_LATCHED)
  if 0 < k ∧ s.passNow = 16 * (s.pav.pauseBlocks + 1) ∧ s.passNow ≤ s.f PAV_CFG_N_PASSES then
    .next { s.add PAV_PAUSE_COUNT k with pav := { s.pav with pauses := s.pav.pauses + k, pauseBlocks := s.pav.pauseBlocks + 1 } }
  else .next s

/-- WAKE_PASS (R34, R35): the bank of a powered-down tile wakes in the last idle pass before its next tile pass. -/
def execWakePass (t tile : Nat) (s : State) : Host.Outcome State Fault Refusal :=
  let s := s.at t
  let c := tile / 8
  if s.active ∧ s.working ∧ ¬ s.pav.stopped ∧ ¬ s.stubbed c ∧ ¬ s.b (CNV_STAT_POWERED tile) ∧
      (s.tileStarts c (tile % 8) s.passNow).contains (s.passNow + 1) then
    .next ((s.inc (CNV_STAT_WAKES tile)).setf (CNV_STAT_POWERED tile) 1)
  else .next s

/-! ### WAIT (R36 to R38) -/

/-- The WAIT at (core, slot) is entered or held at this pass boundary; pause passes due come first. -/
def State.waitDue (s : State) (core slot : Nat) : Bool :=
  let e := s.entry core slot
  let here := s.passNow == slotStart e || (s.pav.holdAt == some s.elapsed && s.passNow + 1 == slotStart e)
  s.active && !s.failSolo && !s.pav.stopped && !s.pav.waitDead && !s.stubbed core && !s.dark core && !s.ran.contains (core, slot) &&
    slotClass e == 10 && here && (s.f PAV_THR_LATCHED == 0 || decide (slotStart e < 16 * (s.pav.pauseBlocks + 1)))

/-- A receive buffer is full (R311). -/
def State.bufFull (s : State) (b : Nat) : Bool :=
  match s.rxBuf b with
  | some x => decide (x.bytes ≤ s.fillOf b)
  | none => true

/-- One hold pass of a WAIT: one for the whole package at each boundary (R36, R37). -/
def State.hold (s : State) (core slot : Nat) : State :=
  let n := ((s.pav.waits.find? (fun (w : Wait) => w.core = core ∧ w.slot = slot)).map (fun (w : Wait) => (w.count, w.told))).getD (0, false)
  let ws := s.pav.waits.filter (fun (w : Wait) => ¬ (w.core = core ∧ w.slot = slot)) ++ [⟨core, slot, n.1 + 1, n.2⟩]
  let first := s.pav.holdAt != some s.elapsed
  { s.when first (·.inc PAV_HOLD_COUNT) with
    pav := { s.pav with waits := ws, holds := s.pav.holds + bit first, holdAt := some s.elapsed } }

/-- A WAIT that has timed out holds the package still: every following pass is a hold pass, and the WAIT is not tested (R38). -/
def State.holdsOn (s : State) (core slot : Nat) : Bool :=
  s.active && s.pav.waitDead && !s.pav.stopped && s.pav.waits.any (fun (w : Wait) => w.core == core && w.slot == slot) &&
    s.pav.holdAt != some s.elapsed

/-- WAIT_TEST (R36 to R38). -/
def execWaitTest (t core slot : Nat) (s : State) : Host.Outcome State Fault Refusal :=
  let s := s.at t
  if s.holdsOn core slot then
    .next { s.inc PAV_HOLD_COUNT with pav := { s.pav with holds := s.pav.holds + 1, holdAt := some s.elapsed } }
  else if s.waitDue core slot then
    let b := slotDesc (s.entry core slot)
    let s := s.moveStaged b
    if s.bufFull b then
      .next { s.mark core slot with pav := { s.pav with waits := s.pav.waits.filter (fun (w : Wait) => ¬ (w.core = core ∧ w.slot = slot)) } }
    else if (s.pav.waits.any (fun (w : Wait) => w.core == core && w.slot == slot && decide (s.f PAV_WAIT_WAIT_LIMIT ≤ w.count))) then .next s
    else .next (s.hold core slot)
  else .next s

/-- The buffer of a WAIT with the package and port that send to it. -/
def State.waitFrom (s : State) (w : Wait) : Nat × Nat × Nat :=
  let b := slotDesc (s.entry w.core w.slot)
  match s.rxBuf b with
  | some x => (b, x.pkg, x.port)
  | none => (b, 0, 0)

/-- WAIT_TIMEOUT (R38): the package holds until the ABORT stops it. -/
def execWaitTimeout (t : Nat) (s : State) : Host.Outcome State Fault Refusal :=
  let s := s.at t
  match s.pav.waits.find? (fun (w : Wait) => decide (s.f PAV_WAIT_WAIT_LIMIT ≤ w.count)) with
  | some w =>
    if s.pav.waitDead then .next s
    else
      let b := s.waitFrom w
      let s := ((s.setf PAV_WAIT_CORE w.core).setf PAV_WAIT_BUFFER b.1).evt PAV_EVT_WAIT_TIMEOUT
      let s := s.raise 2 0x15 0xC b.1 (b.2.1 * 2 ^ 20 + b.2.2)
      .next { s with pav := { s.pav with waitDead := true } }
  | none => .next s

/-- HELD_SEND (R317): a member held HELD_PASSES passes in one WAIT tells the tree, once. -/
def execHeldSend (t : Nat) (s : State) : Host.Outcome State Fault Refusal :=
  let s := s.at t
  match s.pav.waits.find? (fun (w : Wait) => decide (s.f QDR_CFG_HELD_PASSES ≤ w.count) && !w.told) with
  | some w =>
    let b := s.waitFrom w
    let m : Qmsg := { kind := 7, jobId := s.f QDR_JOB_JOB_ID, frame := s.jobFrame, member := s.f QDR_SELF_MEMBER_IDX,
                      aux := b.1 * 2 ^ 40 + b.2.1 * 2 ^ 20 + b.2.2 }
    let s : State := { s with pav := { s.pav with waits := s.pav.waits.map (fun (x : Wait) => if x = w then { x with told := true } else x) } }
    let s := s.evt QDR_EVT_HELD_SENT
    .next (if s.b QDR_TREE_IS_ROOT then { s with qdr := { s.qdr with held := s.qdr.held ++ [m] } } else s.sendQdr (s.f QDR_TREE_PARENT) m)
  | none => .next s

/-! ### Converter calibration at the local frame end (R78 to R81) -/

/-- ⌊√n⌋ by bits from `b` down. -/
def isqrtBits (n : Nat) : Nat → Nat → Nat
  | 0, r => r
  | b + 1, r => let c := r + 2 ^ b; isqrtBits n b (if c * c ≤ n then c else r)

/-- ⌊√n⌋ of a number below 2^(2b). -/
def isqrt (n : Nat) : Nat := isqrtBits n (n.log2 / 2 + 1) 0

/-- The measurement of a pairing's sums, or void (R78). -/
def measure (m : CalSum) (frame : Nat) : Option CalMeas :=
  let n : Int := m.n
  let vp := n * m.qp - m.sp * m.sp
  let vs := n * m.qs - m.ss * m.ss
  if m.n < 64 ∨ 4 * vs < n * n then none
  else some ⟨frame, divAway ((m.sp - m.ss) * 2 ^ 40) m.n, (isqrt ((vp * 2 ^ 80 / vs).toNat) : Int) - 2 ^ 40⟩

/-- A trim inside its range, and whether it was clamped (R81). -/
def clampTrim (x : Int) : Int × Bool := (max (-128) (min 127 x), decide (x < -128 ∨ 127 < x))

/-- Judge a valid measurement of converter `k` of tile `T` (R79, R80): `sign` is −1 for a column, +1 for a spare. -/
def State.judgeCal (s : State) (T k : Nat) (m : CalMeas) (sign : Int) : State :=
  let key := 560 * T + k
  match sfind s.calPrev key with
  | some p =>
    if 70 < m.frame - p.frame then { s with calPrev := sput s.calPrev key m }
    else if (m.delta - p.delta).natAbs ≤ 2 ^ 38 ∧ (m.gamma - p.gamma).natAbs ≤ 2 ^ 33 then
      let o := clampTrim (divAway (s.fi (CNV_DATA_OFFSET_TRIM T k) * 2 ^ 40 + sign * 8 * (m.delta + p.delta)) (2 ^ 40))
      let g := clampTrim (divAway (s.fi (CNV_DATA_GAIN_TRIM T k) * 2 ^ 40 + sign * 512 * (m.gamma + p.gamma)) (2 ^ 40))
      let s := s.setf (CNV_DATA_PREV_VALID T k) 0
      let s : State := { s with calPrev := serase s.calPrev key, trimNext := s.trimNext.filter (fun x => x.1 ≠ key) ++ [(key, o.1, g.1)] }
      s.when (o.2 || g.2) (fun s => ((s.setf (CNV_EVT_LAST_INDEX T) k).evt (CNV_EVT_TRIM_LIMIT T)).raise 0 0x28 2 T k)
    else { ((s.inc (CNV_REJ_REJECTED T)).inc (CNV_DATA_REJ T k)) with calPrev := sput s.calPrev key m }
  | none => { s.setf (CNV_DATA_PREV_VALID T k) 1 with calPrev := sput s.calPrev key m }

/-- Tiles that a CAL slot of the frame names (R29, R77). -/
def State.calTiles (s : State) : List Nat :=
  match s.sched with
  | none => []
  | some sc => ((sc.slots.map (fun p => (s.slotIdxs p.1).filterMap (fun i =>
      let e := s.entry p.1 i
      if slotClass e = 6 then some (8 * p.1 + slotTarget e % 8) else none))).flatten).eraseDups

/-- One pairing's measurement (R78, R79). -/
def State.calPair (s : State) (T g : Nat) : State :=
  if bits (s.f (CNV_CAL_CAL_EN T)) g 1 = 1 ∧ ¬ s.b (CNV_SUBST_EN T g) then
    match measure ((sfind s.calSum (16 * T + g)).getD ⟨0, 0, 0, 0, 0⟩) s.frame with
    | none => s.inc (CNV_REJ_VOID T)
    | some m =>
      let k := 34 * g + s.rot
      State.judgeCal { s with calCycle := sput s.calCycle (560 * T + k) m } T k m (-1)
  else s

/-- Insert a value into a rising list. -/
def insInt (x : Int) : List Int → List Int
  | [] => [x]
  | y :: ys => if x ≤ y then x :: y :: ys else y :: insInt x ys

/-- The median; the mean of the middle two of an even number, rounded down. -/
def median (v : List Int) : Int :=
  let l := v.foldl (fun l x => insInt x l) []
  let n := l.length
  if n % 2 = 1 then l.getD (n / 2) 0 else (l.getD (n / 2 - 1) 0 + l.getD (n / 2) 0) / 2

/-- A spare's own trim from its group's cycle (R80). -/
def State.calSpare (s : State) (T g : Nat) : State :=
  let ms := (s.calCycle.filter (fun x => x.1 / 560 = T ∧ x.1 % 560 / 34 = g)).map Prod.snd
  if 17 ≤ ms.length ∧ ¬ s.b (CNV_SUBST_EN T g) then
    s.judgeCal T (544 + g) ⟨s.frame, median (ms.map CalMeas.delta), median (ms.map CalMeas.gamma)⟩ 1
  else s

/-- Calibration at the local frame end (R76 to R80). -/
def State.calibrate (s : State) : State :=
  if s.rot < 34 then
    { s.calTiles.foldl (fun s T => (List.range 16).foldl (fun s g => s.calPair T g) s) s with calSum := [] }
  else
    let tgs := (s.calCycle.map (fun x => (x.1 / 560, x.1 % 560 / 34))).eraseDups
    { tgs.foldl (fun s x => s.calSpare x.1 x.2) s with calSum := [], calCycle := [] }

/-! ### The local frame end (R46, R47, R177) -/

/-- The level latched (R46, R47): the request before a change stamped exactly now. -/
def State.latchLevel (s : State) : Nat :=
  min 11 (match s.pav.reqHist.find? (fun x => x.1 = s.now) with
    | some x => x.2
    | none => s.f PAV_THR_REQUEST)

/-- Frames between two idle intervals at a level (R46). -/
def idlePeriod (level : Nat) : Nat := match level with | 8 => 8 | 9 => 4 | 10 => 2 | _ => 1

/-- An idle interval is due at this local frame end (R46). -/
def State.idleDue (s : State) : Bool :=
  let k := s.f PAV_THR_JOB_LEVEL
  decide (8 ≤ k) && s.pav.jobCount % idlePeriod k == 0

/-- The record of a DEGRADED frame (R177, R379). -/
def State.degradedRecord (s : State) : State :=
  let cores := (s.degrade.map (fun d => d.1)).eraseDups
  let causes := ((List.range 5).filter (fun k => s.degrade.any (fun d => d.2.1 == k))).map (fun k => 2 ^ k)
  s.when (!cores.isEmpty) (·.raise 1 0x07 0 (s.f FAB_ID_PKG_ID) (cores.length * 2 ^ 32 + causes.sum))

/-- LOCAL_FRAME_END (R47): at the start of pass W, after the pauses due there. -/
def execLocalFrameEnd (t : Nat) (s : State) : Host.Outcome State Fault Refusal :=
  let s := s.at t
  if s.power ≠ .on ∨ s.f SYS_STATUS_PHASE < 2 ∨ s.pav.lfeDone ∨ s.pav.stopped ∨ s.pav.waitDead ∨ ¬ s.working ∨ s.passNow < s.f PAV_CFG_WORK_SPAN then .next s
  else
    let lv := s.latchLevel
    let s : State := { s with pav := { s.pav with lfeDone := true, lfeStamp := s.now, latched := lv, skipReq := s.idleDue },
                              arrTemp := (List.range 32).map (fun r => (r, s.arrReading r)) }
    .next s.degradedRecord.calibrate

/-- IDLE_INTERVAL (R48): N passes in which nothing runs, once the frame's passes have run and the completion that asks for it
is in hand; in transit mode the package's own skip request asks for it, and a stopped frame has no passes left to run
(notes/assumptions/40.md). -/
def execIdleInterval (t : Nat) (s : State) : Host.Outcome State Fault Refusal :=
  let s := s.at t
  let asked := if s.active ∧ ¬ s.failSolo then s.qdr.done == some s.barFrame && s.qdr.skipNext else s.pav.skipReq
  let member := s.qdr.member.isSome
  if (s.pav.lfeDone ∨ member) ∧ asked ∧ ¬ s.pav.idleRun ∧ (member ∨ (¬ s.pav.stopped ∧ s.f PAV_CFG_N_PASSES ≤ s.passNow ∧ s.paused (s.f PAV_CFG_N_PASSES))) then
    .next ({ s.inc PAV_SKIP_COUNT with
      pav := { s.pav with idleRun := true, idleUntil := s.now + 64 * s.f PAV_CFG_N_PASSES } }.evt PAV_EVT_SKIP)
  else .next s

end Sys2Proof.Machine
end

