-- ==== Sys2Proof/Machine/Sensors.lean ====
section
/-! DEFINITION. Sensors, throttle requests, power levels and the housekeeping ADC: R449 to R456, R460 to R462. -/

namespace Sys2Proof.Machine

/-! ### Sensors (R449), in 0.25 °C units -/

/-- Throttle entry of sensor `x`. -/
def sensorEntry (x : Nat) : Int := if x < 128 then 400 else if x < 256 then 340 else if x < 264 then 400 else if x < 280 then 320 else 360

/-- Critical limit of sensor `x`. -/
def sensorCrit (x : Nat) : Int := if x < 128 then 460 else if x < 256 then 400 else if x < 264 then 460 else if x < 280 then 380 else 420

/-- The place of sensor `x` (R456). -/
def sensorPlace (x : Nat) : Nat :=
  if x < 128 then x / 64 else if x < 256 then 2 + (x - 128) / 64 else if x < 264 then 4 else if x < 280 then 5 + (x - 264) / 2 else 13 + (x - 280) / 2

/-- Sensor `x` carries no mark (R451). -/
def State.sensorOk (s : State) (x : Nat) : Bool := s.f (THM_SDATA_STATE x) == 0

/-- Mark a sensor broken (R451, R452): `how` 1 BROKEN_SELF, 2 BROKEN_XCHK; its reading as used becomes its entry + 1 °C. -/
def State.markBroken (s : State) (x how : Nat) : State :=
  (((s.setf (THM_SDATA_STATE x) how).setf (THM_BROKEN x) 1).setfi (THM_SDATA_USED x) (sensorEntry x + 4)).evt THM_EVT_BROKEN

/-- The highest k of the list for which `p` holds. -/
def highest (p : Nat → Bool) (ks : List Nat) : Nat := (ks.filter p).foldl max 0

/-- A sensor's new level (R453). -/
def nextLevel (lv : Nat) (T E : Int) : Nat :=
  let up := highest (fun k => decide (lv < k) && decide (E + 4 * ((k : Int) - 1) ≤ T)) (List.range 12)
  if lv < up then up
  else if E + 4 * ((lv : Int) - 4) < T then lv
  else highest (fun j => decide (j < lv) && decide (E + 4 * ((j : Int) - 4) < T)) (List.range 12)

/-- The reading a sample takes: the optical engines' come from their housekeeping channels' latest codes (R449, R461), the others'
from the sensor itself; none where it gives no result. -/
def State.rawReading (s : State) (reads : List (Nat × Int)) (x : Nat) : Option Int :=
  if 264 ≤ x ∧ x < 280 then some (divAway ((s.f (HKA_RES_RESULT (x - 248)) : Int) - 1024) 4) else sfind reads x

/-- Sensor `x` is due at this sample point (R450); an optical sensor once its channel has converted. -/
def State.sampleDue (s : State) (x : Nat) : Bool :=
  (decide (s.now % 1000000 = 0) || s.b (THM_SDATA_FAST x)) &&
    (decide (x < 264 ∨ 280 ≤ x) || s.f (HKA_STAT_SCANS) != 0)

/-- A confirmed critical temperature latches the shutdown (R456, R458); `x` is the second sensor. -/
def State.thermCrit (s : State) (x : Nat) (T : Int) : State :=
  let s := if x < 128 then s.raise 3 0x2A 5 (x / 4) x else if x < 256 then s.raise 3 0x2A 5 ((x - 128) / 4) x else s.raise 3 0x2A 13 0 x
  let s := ((s.setf PWR_LASTOFF_CAUSE 1).setf PWR_LASTOFF_INDEX x).setfi PWR_LASTOFF_READING T
  { s with heat := { s.heat with shut := some s.now, trip := true } }

/-- Judge a valid critical sample against the others of its place (R456). -/
def State.judgeCrit (s : State) (x : Nat) (T : Int) : State :=
  if T < sensorCrit x ∨ s.heat.shut.isSome then s
  else if (List.range 296).any (fun y => y != x && sensorPlace y == sensorPlace x && s.sensorOk y &&
      decide (sensorCrit y ≤ s.fi (THM_SDATA_READ y)) && (match sfind s.heat.sampled y with
        | some a => decide (s.now < a + 1000000)
        | none => false)) then s.thermCrit x T
  else s.evt THM_EVT_CRIT_SINGLE

/-- FAST follows the reading as used: at or above entry − 5 °C (R450). -/
def State.setFast (s : State) (x : Nat) : State :=
  let fast := decide (sensorEntry x - 20 ≤ s.fi (THM_SDATA_USED x))
  (s.when (fast && !s.b (THM_SDATA_FAST x)) (·.evt THM_EVT_FAST)).setf (THM_SDATA_FAST x) (if fast then 1 else 0)

/-- One sensor's sample (R451, R453, R456). MAX_READ starts with the first one. -/
def State.sample (s : State) (reads : List (Nat × Int)) (x : Nat) : State :=
  let raw := s.rawReading reads x
  let good := match raw with
    | some T => decide (-160 ≤ T ∧ T ≤ 600)
    | none => false
  let s := match raw with
    | some T => s.setfi (THM_SDATA_READ x) T
    | none => s
  let s := s.when (!good && s.sensorOk x) (·.markBroken x 1)
  let T := s.fi (THM_SDATA_READ x)
  let s := s.when (s.sensorOk x) (fun s =>
    (s.setfi (THM_SDATA_USED x) T).when ((sfind s.heat.sampled x).isNone || decide (s.fi (THM_SDATA_MAX_READ x) < T)) (·.setfi (THM_SDATA_MAX_READ x) T))
  let s := s.setf (THM_SDATA_LEVEL x) (nextLevel (s.f (THM_SDATA_LEVEL x)) (s.fi (THM_SDATA_USED x)) (sensorEntry x))
  let s : State := { s with heat := { s.heat with sampled := sput s.heat.sampled x s.now } }
  (s.setFast x).when (s.sensorOk x) (·.judgeCrit x T)

/-- The throttle request follows its three sources (R455); a change is kept with its stamp (R47). -/
def State.request (s : State) : State :=
  let new := max (s.f THM_STATE_LEVEL_T) (max (s.f PWR_STATE_LEVEL_P) (s.f THM_CFG_FORCE_LEVEL))
  let old := s.f PAV_THR_REQUEST
  if new = old then s
  else { s.setf PAV_THR_REQUEST new with pav := { s.pav with reqHist := s.pav.reqHist.filter (fun x => x.1 = s.now) ++ [(s.now, old)] } }

/-- The hottest of sensors: highest reading as used, lowest index (R453). -/
def State.hottest (s : State) (xs : List Nat) : Nat :=
  xs.foldl (fun b x => if s.fi (THM_SDATA_USED b) < s.fi (THM_SDATA_USED x) then x else b) (xs.headD 0)

/-- LEVEL_T and the hottest sensor follow the sensors (R453). -/
def State.levelT (s : State) : State :=
  let xs := List.range 296
  let lv := (xs.map (fun x => s.f (THM_SDATA_LEVEL x))).foldl max 0
  let h := s.hottest (if lv = 0 then xs else xs.filter (fun x => s.f (THM_SDATA_LEVEL x) == lv))
  let s := s.when (decide (s.f THM_STATE_LEVEL_T = 0 ∧ 0 < lv)) (·.evt THM_EVT_THROTTLE)
  (((s.setf THM_STATE_LEVEL_T lv).setf THM_STATE_HOT_SENSOR h).setfi THM_STATE_HOT_READ (s.fi (THM_SDATA_USED h))).request

/-- Take the samples of some sensors, in index order, and what follows from them. -/
def State.sampleAll (s : State) (reads : List (Nat × Int)) (xs : List Nat) : State :=
  (List.range 32).foldl State.heatChannels (xs.foldl (fun s x => s.sample reads x) s).levelT

/-- SENSOR_SAMPLE (R450, R451, R453, R456, R85): at a multiple of 100,000 counts the due sensors are read; `reads` gives their raw
readings in 0.25 °C, and a due sensor it does not list gives no result. -/
def execSensorSample (t : Nat) (reads : List (Nat × Int)) (s : State) : Host.Outcome State Fault Refusal :=
  let s := s.at t
  if s.power = .on ∧ s.now % 100000 = 0 then .next (s.sampleAll reads ((List.range 296).filter s.sampleDue)) else .next s

/-! ### Cross-check (R452) -/

/-- The verdict on a reading against its neighbours' readings: twice its distance from their median, over 8 °C. -/
def strays (x : Int) : List Int → Bool
  | [] => false
  | [a] => decide (32 < (x - a).natAbs)
  | [a, b] => decide (64 < (2 * x - (a + b)).natAbs)
  | a :: b :: c :: _ => decide (32 < (x - (max (min a b) (min (max a b) c))).natAbs)

/-- Cross-check every unmarked sensor against its group of four (R452). -/
def State.crossCheck (s : State) : State :=
  let ok (x : Nat) : Bool := s.sensorOk x && (sfind s.heat.sampled x).isSome
  let bad := (List.range 296).filter (fun x => ok x &&
    strays (s.fi (THM_SDATA_READ x)) (((List.range 4).filter (fun j => 4 * (x / 4) + j != x && ok (4 * (x / 4) + j))).map (fun j =>
      s.fi (THM_SDATA_READ (4 * (x / 4) + j)))))
  ((bad.foldl (fun s x => s.markBroken x 2) s).inc THM_XCHK_CHECKS).setf THM_XCHK_MARKED bad.length

/-- XCHK_START (R452, R464): a write of THM_XCHK.START; refused with RANGE while the image is in any state but NONE, READY or
FAILED. -/
def State.wrXchk (s : State) (q : Requester) : State :=
  s.guarded q 0xE00048 false ([0, 5, 7].contains (s.f IMG_STATE_STATE)) State.crossCheck

/-- XCHK_START: that write, as a command. -/
def execXchkStart (t : Nat) (q : Requester) (s : State) : Host.Outcome State Fault Refusal :=
  .next ((s.at t).wrXchk q)

/-! ### Power (R454) and the housekeeping ADC (R460 to R462) -/

/-- P_mean is at least `w` watts: the codes' products are in units of 5,000 / 2^24 W. -/
def State.meanAtLeast (s : State) (w : Nat) : Bool := decide (w * s.heat.powers.length * 2 ^ 24 ≤ s.heat.powers.sum * 5000)

/-- P_mean is at most `w` watts. -/
def State.meanAtMost (s : State) (w : Nat) : Bool := decide (s.heat.powers.sum * 5000 ≤ w * s.heat.powers.length * 2 ^ 24)

/-- LEVEL_P changes by one and the request with it. -/
def State.setLevelP (s : State) (lv : Nat) : State := (s.setf PWR_STATE_LEVEL_P lv).request

/-- The end of channel 15's conversion (R454): `c` is its code, `at_` the count. -/
def State.powerUpdate (s : State) (c at_ : Nat) : State :=
  let s : State := { s with heat := { s.heat with powers := (s.heat.powers ++ [c * s.heat.volt]).drop (s.heat.powers.length - 9) } }
  let s := s.setf PWR_IN_POWER_W (divAway (s.heat.powers.sum * 5000 : Nat) (s.heat.powers.length * 2 ^ 24)).toNat
  let s := (s.setf PWR_IN_VOLT_MV (divAway (s.heat.volt * 80000 : Nat) 4096).toNat).setf PWR_IN_CURRENT_MA (divAway (c * 62500 : Nat) 4096).toNat
  let full := decide (s.heat.powers.length = 10)
  let tooMuch := decide (32 * 4096 * 10 ≤ c * 625)
  let since (o : Option Nat) (d : Nat) : Bool := match o with
    | none => true
    | some x => decide (x + d ≤ at_)
  let s := s.when tooMuch (·.evt PWR_EVT_I_MAX)
  let lv := s.f PWR_STATE_LEVEL_P
  if (tooMuch || (full && s.meanAtLeast (s.f PWR_LIMIT_LIMIT_W) && since s.heat.rise 1000000)) && decide (lv < 11) then
    { (s.setLevelP (lv + 1)).evt PWR_EVT_LIMIT with heat := { s.heat with rise := some at_, change := some at_ } }
  else if full && !tooMuch && s.meanAtMost (s.f PWR_LIMIT_LIMIT_W - s.f PWR_LIMIT_HYST_W) && since s.heat.change 10000000 && decide (0 < lv) then
    { s.setLevelP (lv - 1) with heat := { s.heat with change := some at_ } }
  else s

/-- One conversion ends (R461, R462). -/
def State.convert (s : State) (n code at_ : Nat) : State :=
  let c := min code 4095
  let s := ((s.setf (HKA_RES_RESULT n) c).setf (HKA_RES_STAMP n) (at_ % 2 ^ 32)).setf HKA_STAT_CHANNEL n
  let s := (s.setf (HKA_TRK_MIN n) (min c (s.f (HKA_TRK_MIN n)))).setf (HKA_TRK_MAX n) (max c (s.f (HKA_TRK_MAX n)))
  let s := s.when (decide (c < s.f (HKA_THR_LO n) ∨ s.f (HKA_THR_HI n) < c)) (·.evt ⟨0xF00018, n, 1⟩)
  if n = 14 then { s with heat := { s.heat with volt := c } } else if n = 15 then s.powerUpdate c at_ else s

/-- Conversions of the scan under way that have ended by now; `fuel` bounds them. -/
def State.scanOn (s : State) (codes : List (Nat × Nat)) (start : Nat) : Nat → State
  | 0 => s
  | fuel + 1 =>
    let k := s.heat.hkDone
    let at_ := start + 4000 + 1000 * (k + 1)
    if at_ ≤ s.now then
      match s.heat.hkList[k]? with
      | none => s
      | some n => match sfind codes n with
        | none => s
        | some c =>
          let s := s.convert n c at_
          let s : State := { s with heat := { s.heat with hkDone := k + 1 } }
          (if k + 1 = s.heat.hkList.length then (s.setf HKA_STAT_SCANS ((s.f HKA_STAT_SCANS + 1) % 2 ^ 32)).setf HKA_STAT_POWERED 0 else s).scanOn codes start fuel
    else s

/-- HK_SCAN (R454, R460 to R462): the conversions of the current scan that have ended by `t` and that `codes` gives codes for; the
scan's first command takes its channels from the mask. -/
def execHkScan (t : Nat) (codes : List (Nat × Nat)) (s : State) : Host.Outcome State Fault Refusal :=
  let s := s.at t
  if s.power ≠ .on then .next s
  else
    let start := s.now / 100000 * 100000
    let s : State := if s.heat.hkStart = some start then s
      else { s.setf HKA_STAT_POWERED 1 with heat := { s.heat with
        hkStart := some start, hkDone := 0, hkList := (List.range 48).filter (fun n => bits (s.f HKA_MASK_MASK) n 1 == 1) } }
    .next (s.scanOn codes start 48)

/-- A conversion of channel `ch` ends in this cycle (R460, R462). -/
def State.endsNow (s : State) (ch : Nat) : Bool :=
  s.heat.hkStart.any (fun a => (List.range s.heat.hkDone).any (fun k => s.heat.hkList[k]? == some ch && a + 4000 + 1000 * (k + 1) == s.now))

/-- TRK_CLR (R462, R465): a write of HKA_TRK.CLR. A conversion that ends in the same cycle counts after the clear. -/
def State.wrTrkClr (s : State) (q : Requester) (ch : Nat) : State :=
  if ch < 48 then
    s.guarded q (hkaChan ch + 8) false true (fun s =>
      let c := s.f (HKA_RES_RESULT ch)
      (s.setf (HKA_TRK_MIN ch) (if s.endsNow ch then c else 0xFFF)).setf (HKA_TRK_MAX ch) (if s.endsNow ch then c else 0))
  else s

/-- TRK_CLR: that write, as a command. -/
def execTrkClr (t : Nat) (q : Requester) (ch : Nat) (s : State) : Host.Outcome State Fault Refusal :=
  .next ((s.at t).wrTrkClr q ch)

end Sys2Proof.Machine
end

