-- ==== Sys2Proof/Machine/Serve.lean ====
section
/-! DEFINITION. What every member does with the requests at a tick, and the home's completions: R197 to R203, R212, R215,
R221, R225 to R231, R235 to R247, R374, R404. -/

namespace Sys2Proof.Machine

/-! ### Requests in force -/

/-- A field counted over the requests. -/
def State.countReqs (s : State) (F : Fld) (p : Req → Bool) : State := s.setf F (min (s.reqs.filter p).length (2 ^ F.w - 1))

/-- SRV_LIVE and SRV_CLSCNT follow the requests (R249). -/
def State.countLive (s : State) : State :=
  let s := s.countReqs SRV_LIVE_ACTIVE (fun (r : Req) => r.st == .active || r.st == .waitMask || r.st == .held)
  let s := s.countReqs SRV_LIVE_PAUSED (fun (r : Req) => r.st == .paused || r.st == .resuming)
  let s := s.countReqs SRV_LIVE_EXPIRED (fun (r : Req) => r.st == .expired)
  (List.range 16).foldl (fun s k => s.countReqs (SRV_CLSCNT_LIVE k) (fun (r : Req) => r.cls == k)) s

/-- Every page of a request loses its reference (R188). -/
def State.dropPages (s : State) (r : Req) : State := r.pages.foldl (fun s (x : Nat × Nat × Nat) => s.dropRef x.2.2) s

/-- A request ends (R216, R243): no further step, its pages to QUARANTINE. -/
def State.endReq (s : State) (r : Req) (cause : Nat) : State :=
  (s.dropPages r).setReq { r with st := .ending, step := none, count := none, pages := [], cause := some cause, pausing := none }

/-- This package is the request's home (R209). -/
def State.isHome (s : State) (r : Req) : Bool := r.home == s.f FAB_ID_PKG_ID

/-- The home queues a completion that ends an episode, with its END entry (R243, R246, R383). -/
def State.finish (s : State) (r : Req) (typ code : Nat) : State :=
  if s.isHome r then
    let s := s.journal r.scope r.tag 4 typ r.released s.jobFrame 0 []
    { s with posts := s.posts ++ [⟨r.scope, r.tag, r.pair, typ, code, r.released, [], 0, r.tag⟩] }
  else s

/-- Take the references of the prefix blocks found, and start the horizon after them (R229). -/
def State.takeHits (s : State) (r : Req) (hits : List Nat) : State :=
  let f := s.jobFrame
  let step (acc : State × Req × Nat) (h : Nat) : State × Req × Nat :=
    let s := acc.1
    match s.prefixes.find? (fun (p : Prefix) => p.handle = h) with
    | none => (s, acc.2.1, acc.2.2 + 1)
    | some p =>
      let s := p.pages.foldl (fun s (x : Nat × Nat) => s.addRef x.2) s
      let s : State := { s with prefixes := s.prefixes.map (fun (q : Prefix) => if q.handle = h then { q with hit := f } else q) }
      let r := acc.2.1
      (s, { r with pages := r.pages ++ p.pages.map (fun x => (x.1, acc.2.2, x.2)), chain := p.chain, regd := acc.2.2 + 1 }, acc.2.2 + 1)
  let z := hits.foldl step (s, { r with horizon := 256 * hits.length, chain := s.pfxSeed, regd := 0 }, 0)
  z.1.setReq z.2.1

/-- Drop an index entry and its references (R230). -/
def State.dropPrefix (s : State) (p : Prefix) : State :=
  let s : State := { s with prefixes := s.prefixes.filter (fun (q : Prefix) => q.handle ≠ p.handle) }
  p.pages.foldl (fun s (x : Nat × Nat) => s.dropRef x.2) s

/-- Prefill a request again from its journaled input (R247, R404). -/
def State.restartReq (s : State) (r : Req) (hits : List Nat) : State :=
  s.takeHits { r with st := .active, input := r.rebuilt, made := r.released, outq := [], step := none, count := none, pages := [],
                      degr := false, lost := false, cause := none, expAt := none, expSent := false, pausing := none } hits

/-- Rebuild a request with a LOST page (R404). -/
def State.rebuild (s : State) (r : Req) : State :=
  let hit (p : Prefix) : Bool := p.pages.any (fun x => r.pages.any (fun y => y.2.2 == x.2))
  let s := (s.prefixes.filter hit).foldl (fun s (p : Prefix) => s.dropPrefix p) s
  let s := (s.dropPages r).restartReq r (s.hits r.rebuilt).1
  let s := match s.req r.scope r.tag with
    | some x => if r.st = ReqSt.held then s.setReq { x with st := ReqSt.held } else s
    | none => s
  (s.inc RCV_CNT_REBUILDS).evt RCV_EVT_REBUILD

/-- RESUME of a PAUSED request (R205, R246): the clock stops and its pages come back; with a LOST page it is rebuilt. -/
def State.resumeReq (s : State) (r : Req) (mb : Nat) (more : Option Cmd) : State :=
  let r : Req := { r with st := .resuming, expAt := none, expSent := false, pausing := none, mb := mb, more := more, idle := 0 }
  if r.lost then
    let s := s.rebuild r
    (match s.req r.scope r.tag, more with
      | some x, some c => s.setReq (Req.extend { x with more := none } c)
      | _, _ => s)
  else s.setReq r

/-- A decision takes effect at a member (R210, R212, R216). -/
def State.applyDecision (s : State) (x : Decision) : State :=
  let c := x.cmd
  if x.reason ≠ 0 then s
  else if x.expiry then
    (match s.req c.scope (cmdTag c) with
      | some r => if r.st = .paused then
          (((s.dropPages r).setReq { r with st := .expired, pages := [], expAt := none, step := none }).finish r 5 0).evt SRV_EVT_EXPIRY else s
      | none => s)
  else if cmdOp c = 1 then
    let r := newReqOf c s.nextOrder x.mb
    State.takeHits { s with reqs := s.reqs ++ [r], nextOrder := s.nextOrder + 1 } r x.hits
  else match s.req c.scope (cmdTag c) with
    | none => s
    | some r =>
      if cmdOp c = 2 then
        (if r.st = .paused then s.resumeReq r x.mb (some c)
         else if r.st = .waitMask ∨ r.st = .held then s.setReq (r.extend c) else s)
      else if cmdOp c = 3 then
        (if r.st = .ending ∨ r.st = .expired ∨ r.st = .paused then s else s.setReq { r with pausing := some (cmdW c 2) })
      else if cmdOp c = 4 then
        (if r.st = .paused then s.resumeReq r x.mb none
         else if r.st = .expired then
           let s := s.setChain { s.chain r.scope r.tag with ended := none }
           s.restartReq { r with mb := x.mb } x.hits
         else s)
      else if cmdOp c = 5 then
        (if r.st = .ending then s
         else if r.st = .expired then ((s.setReq { r with st := .ending }).finish r 4 2)
         else s.endReq r 2)
      else if cmdOp c = 6 then
        let k := childOf r c s.nextOrder x.mb
        let s := r.pages.foldl (fun s (p : Nat × Nat × Nat) => s.addRef p.2.2) s
        { s with reqs := s.reqs ++ [k], nextOrder := s.nextOrder + 1 }
      else s

/-- Step 1 of R212: decisions of earlier ticks, and the index entries the root dropped. -/
def State.applyDecisions (s : State) : State :=
  let due := s.decisions.filter (fun d => decide (d.1 < s.jobFrame))
  let s := due.foldl (fun s d => s.applyDecision d.2) { s with decisions := s.decisions.filter (fun d => decide (s.jobFrame ≤ d.1)) }
  let hs := ((s.evicts.filter (fun e => decide (e.1 < s.jobFrame))).map Prod.snd).flatten
  let s : State := { s with evicts := s.evicts.filter (fun e => decide (s.jobFrame ≤ e.1)) }
  (s.prefixes.filter (fun (p : Prefix) => hs.contains p.handle)).foldl (fun s (p : Prefix) => s.dropPrefix p) s

/-! ### Horizons (R201, R202, R237 to R239) -/

/-- Pages that hold only positions at or above the horizon become FREE at once (R202). -/
def State.freeTentative (s : State) (r : Req) : State :=
  let gone (x : Nat × Nat × Nat) : Bool := decide (r.horizon ≤ 256 * x.2.1) && s.refs x.2.2 == 1
  let s := (r.pages.filter gone).foldl (fun s (x : Nat × Nat × Nat) => s.freeNow x.2.2) s
  s.setReq { r with pages := r.pages.filter (fun x => !gone x) }

/-- A step's tokens join the request's input at their positions. -/
def Req.absorb (r : Req) (frame : Nat) (deg : Bool) : Req :=
  let new := (r.outq.filter (fun (x : Sampled) => x.frame = frame)).map Sampled.toks
  { r with input := r.input ++ new.flatten, made := r.made + new.flatten.length,
           outq := r.outq.map (fun (x : Sampled) => if x.frame = frame then { x with pos := r.input.length, deg := x.deg || deg } else x) }

/-- The runs of R239 after a decode step at depth `d` with `j` accepted. -/
def Req.runs (r : Req) (d j : Nat) : Req :=
  if d = 0 then { r with solo := r.solo + j + 1 } else { r with zeros := if j = 0 then r.zeros + 1 else 0 }

/-- The end of a request's step (R201, R237): the horizon rises, the tokens join the input, and a cause that ended the output
takes the request to ENDING or HELD. -/
def State.stepEnd (s : State) (r : Req) (x : StepRun) : State :=
  let recon := s.f RCV_STATE_STATE == 4
  let r0 : Req := { r with step := none, count := none, degr := false }
  if x.pre ∧ ¬ x.last then s.freeTentative { r0 with horizon := r.horizon + x.fed, degr := false }
  else match r.count with
    | none => s.setReq r0
    | some j =>
      let r1 := (({ r0 with horizon := r.horizon + (if x.pre then x.fed else j + 1) } : Req).absorb (x.frame + 3) (r.degr || recon))
      let r2 := if x.pre then r1 else r1.runs x.depth j
      let r3 : Req := if recMask r.sample = 2 then { r2 with mask := [] } else r2
      let s := s.when (!x.pre) (fun s => (s.add SRV_SPEC_PROPOSED x.depth).add SRV_SPEC_ACCEPTED j)
      let s := s.freeTentative r3
      match s.req r.scope r.tag, r.cause with
      | some r4, some c =>
        if c = 5 then ((s.endReq r4 5).evt SRV_EVT_MASK_EMPTY)
        else if c = 0 ∨ c = 1 then (if r.keep then s.setReq { r4 with st := .held, cause := some 3, idle := 0 } else s.endReq r4 c)
        else s
      | _, _ => s

/-- Step 2 of R212: acceptance counts and horizons, then QUARANTINE pages. -/
def State.horizons (s : State) : State :=
  (s.reqs.foldl (fun s (r : Req) => match r.step with
    | some x => if x.frame + 4 ≤ s.jobFrame then s.stepEnd r x else s
    | none => s) s).quarFree

/-- Step 3 of R212: demotions and promotions (R239). -/
def State.depths (s : State) : State :=
  s.reqs.foldl (fun s (r : Req) =>
    if 4 ≤ r.zeros ∧ 0 < r.depth then ((s.setReq { r with depth := 0, zeros := 0, solo := 0 }).inc SRV_DEMO_DEMOTIONS).evt SRV_EVT_DEMOTE
    else if r.depth = 0 ∧ 0 < r.draft ∧ 64 ≤ r.solo then (s.setReq { r with depth := r.draft, zeros := 0, solo := 0 }).inc SRV_DEMO_PROMOTIONS
    else s) s

/-! ### Release (R240 to R243) -/

/-- The job frame below which frames are settled (R28, R271). -/
def State.settled (s : State) : Nat := s.f PAV_HORIZON_HORIZON + s.f IMG_JOB_JOB_BASE

/-- TOKENS entries of up to 8 (R240). -/
def tokenPosts (r : Req) (x : Sampled) : Nat → Nat → List Nat → List Post
  | 0, _, _ => []
  | n + 1, seq, ts =>
    if ts.isEmpty then [] else
      let c := ts.take 8
      ⟨r.scope, r.tag, r.pair, 3, 0, seq, c, if x.deg then 2 ^ c.length - 1 else 0, r.tag⟩ :: tokenPosts r x n (seq + 8) (ts.drop 8)

/-- Release one step's tokens (R240, R242). -/
def State.releaseStep (s : State) (scope tag : Nat) (x : Sampled) : State :=
  match s.req scope tag with
  | none => s
  | some r =>
    let n := x.toks.length
    let s := s.setReq { r with released := r.released + n, outq := r.outq.erase x }
    if s.isHome r then
      let s := s.journal scope tag 3 0 r.released s.jobFrame n ((x.toks.map (leBytes 4)).flatten)
      let s := (s.add SRV_REL_RELEASED n).add SRV_REL_DEGRADED (if x.deg then n else 0)
      { s with posts := s.posts ++ tokenPosts r x n r.released x.toks }
    else s

/-- What follows a request's last released token (R243): DONE, or DONE with cause HELD. -/
def State.afterRelease (s : State) (scope tag : Nat) : State :=
  match s.req scope tag with
  | none => s
  | some r =>
    match r.outq, r.cause with
    | [], some c =>
      if r.st = .ending then
        let s := (s.setReq { r with cause := none }).finish r 4 c
        if s.isHome r then s else { s with reqs := s.reqs.filter (fun (x : Req) => ¬ (x.scope = scope ∧ x.tag = tag)) }
      else if r.st = .held ∧ c = 3 then (s.setReq { r with cause := none }).finish r 4 3
      else s
    | _, _ => s

/-- A request is accepted before another. -/
def insOrder (r : Req) : List Req → List Req
  | [] => [r]
  | x :: xs => if r.order < x.order then r :: x :: xs else x :: insOrder r xs

/-- The requests in ACCEPT order (R221). -/
def State.inOrder (s : State) : List Req := s.reqs.foldl (fun l r => insOrder r l) []

/-- Step 4 of R212: release of settled tokens, then DONE (R221, R240). -/
def State.release (s : State) : State :=
  s.inOrder.foldl (fun s (r : Req) =>
    let due := r.outq.filter (fun (x : Sampled) => decide (x.frame < s.settled))
    (due.foldl (fun s x => s.releaseStep r.scope r.tag x) s).afterRelease r.scope r.tag) s

/-! ### Prefix registration and eviction (R228, R230) -/

/-- Register the next blocks of a request whose positions lie in settled frames: those below its horizon of `hor`. -/
def State.registerReq (s : State) (scope tag hor : Nat) : Nat → State
  | 0 => s
  | n + 1 =>
    match s.req scope tag with
    | none => s
    | some r =>
      if 256 * (r.regd + 1) ≤ min hor r.horizon then
        let toks := blockToks r.input r.regd
        let h := chainNext r.chain toks
        let s := s.setReq { r with chain := h, regd := r.regd + 1 }
        let s : State := if s.prefixes.any (fun (p : Prefix) => p.chain == h && p.toks == toks) then s
          else
            let ps := (r.pages.filter (fun x => x.2.1 = r.regd)).map (fun x => (x.1, x.2.2))
            let s := ps.foldl (fun s (x : Nat × Nat) => s.addRef x.2) s
            { s with prefixes := s.prefixes ++ [⟨h, s.nextHandle, toks, s.jobFrame, s.jobFrame, ps⟩], nextHandle := s.nextHandle + 1 }
        s.registerReq scope tag hor n
      else s

/-- PREFIX_REGISTER (R228): the horizon that settled frames committed is the one kept for the settle horizon's tick. -/
def State.registerAll (s : State) : State :=
  match s.snaps.find? (fun x => x.1 = s.settled) with
  | none => s
  | some old => s.inOrder.foldl (fun s (r : Req) =>
      match old.2.1.find? (fun (q : Req) => q.scope = r.scope ∧ q.tag = r.tag) with
      | some q => s.registerReq r.scope r.tag q.horizon 4096
      | none => s) s

/-- Index entries whose pages carry no reference but the index's, oldest hit first, ties to the lower handle. -/
def State.evictable (s : State) : List Prefix :=
  let free := s.prefixes.filter (fun (p : Prefix) => p.pages.all (fun x => s.refs x.2 == 1))
  let rec ins (p : Prefix) : List Prefix → List Prefix
    | [] => [p]
    | q :: l => if p.hit < q.hit ∨ (p.hit = q.hit ∧ p.handle < q.handle) then p :: q :: l else q :: ins p l
  free.foldl (fun l p => ins p l) []

/-- PREFIX_EVICT (R230): the root drops entries while a member is below its reserve; members follow at the next tick. -/
def State.evict (s : State) : State :=
  let reserve := ((s.img.map (fun im => im.serv.reserve)).getD [])
  if s.isRoot ∧ s.freeRep.any (fun x => decide (x.2 < reserve.getD x.1 0)) then
    let ps := (s.evictable.filter (fun (p : Prefix) => !s.evicts.any (fun e => e.2.contains p.handle))).take (s.f SRV_STEP_EVICT_MAX)
    if ps.isEmpty then s
    else
      let hs := ps.map Prefix.handle
      (State.add { s with evicts := s.evicts ++ [(s.jobFrame, hs)] } SRV_PFX_EVICTIONS ps.length).toAll (.evict s.jobFrame hs)
  else s

/-! ### Fitting requests to slots (R197 to R199, R212, R225, R231) -/

/-- The slots of a variant's plan, in its order: batch slot, bucket and decode depth. -/
def State.planSlots (s : State) : List (Nat × Nat × Option Nat) :=
  match s.img with
  | none => []
  | some im => (((im.serv.plans.getD (s.f PAV_SEL_VARIANT) []).map (fun x =>
      (List.range x.2.2.2).map (fun i => (x.1 + i, x.2.1, x.2.2.1))))).flatten

/-- A slot fits a step (R225). -/
def slotFits (b : Nat) (depth : Option Nat) (x : Nat × Nat × Option Nat) : Bool :=
  decide (b ≤ x.2.1) && (match x.2.2, depth with
    | some d, some want => decide (d ≤ want)
    | none, none => true
    | _, _ => false)

/-- Pages a step writes that this member holds: (layer, page index). -/
def State.writes (s : State) (r : Req) (bkt slot fed : Nat) : List (Nat × Nat) :=
  match s.img with
  | none => []
  | some im =>
    let lo := r.horizon / 256
    let hi := (r.horizon + fed - 1) / 256
    let is := ((List.range (hi + 1 - lo)).map (· + lo)).filter (fun i => s.pageMine (bkt - 10) slot i)
    (im.serv.layers.map (fun l => is.map (fun i => (l, i)))).flatten

/-- Those that need a copy first (R231). -/
def State.shared (s : State) (r : Req) (ws : List (Nat × Nat)) : List (Nat × Nat × Nat) :=
  ws.filterMap (fun x => match r.pageOf x.1 x.2 with
    | some p => if 1 < s.refs p then some (x.1, x.2, p) else none
    | none => none)

/-- A fresh page in place of a shared one (R231). -/
def State.cowPage (s : State) (r : Req) (x : Nat × Nat × Nat) : Option (State × Req) :=
  match s.allocPage false 1 with
  | (_, none) => none
  | (s, some d) =>
    let s := (State.dropRef { s with cow := s.cow ++ [⟨x.2.2, d, min 256 (r.horizon - 256 * x.2.1)⟩] } x.2.2)
    some (s, { r with pages := r.pages.map (fun y => if y.1 = x.1 ∧ y.2.1 = x.2.1 then (x.1, x.2.1, d) else y) })

/-- Allocate the pages a step lacks (R187); none on POOL_EMPTY. -/
def State.stepPages (s : State) (r : Req) : List (Nat × Nat) → Option (State × Req)
  | [] => some (s, r)
  | x :: xs =>
    match r.pageOf x.1 x.2 with
    | some p =>
      if 1 < s.refs p then
        (match s.cowPage r (x.1, x.2, p) with
          | some z => z.1.stepPages z.2 xs
          | none => none)
      else s.stepPages r xs
    | none =>
      match s.allocPage false 1 with
      | (s, some d) => s.stepPages { r with pages := r.pages ++ [(x.1, x.2, d)] } xs
      | (_, none) => none

/-- The requests that stand in slots so far in this frame. -/
structure Fit where
  s    : State
  used : List Nat
  occ  : List (Nat × Nat)

/-- Fit one request to the frame's slots and start its step (R197, R198, R225 to R227, R231). -/
def Fit.take (w : Fit) (r : Req) : Fit :=
  let s := w.s
  let len := r.lEff s.chunk
  let b := bucketOf len
  let want := if r.decodes then some r.depth else none
  let inB := (s.reqs.filter (fun (q : Req) => q.step.any (fun (x : StepRun) => x.frame == s.jobFrame && bucketOf (q.horizon + x.fed) == b))).length
  if s.maxBatch b ≤ inB then { w with s := (s.inc PGM_WAIT_BUCKET_WAIT).evt PGM_EVT_BUCKET_WAIT }
  else match s.planSlots.find? (fun x => slotFits b want x && !w.used.contains x.1) with
    | none => { w with s := (s.inc SRV_WAIT_SLOT_WAIT).evt SRV_EVT_SLOT_WAIT }
    | some sl =>
      let fed := match sl.2.2 with
        | some d => d + 1
        | none => r.feed s.chunk
      let last := decide (r.horizon + fed = r.input.length)
      let samples := r.decodes || last
      if r.st = .waitMask then { w with used := sl.1 :: w.used }
      else if samples ∧ recMask r.sample = 2 ∧ r.mask.isEmpty then ⟨s.setReq { r with st := .waitMask, idle := 0 }, sl.1 :: w.used, w.occ⟩
      else
        let ws := s.writes r sl.2.1 sl.1 fed
        if s.f SRV_STEP_COW_MAX < s.cow.length + (s.shared r ws).length then { w with s := s.inc SRV_WAIT_COW_WAIT }
        else match s.stepPages r ws with
          | none => { w with s := (s.inc PGM_WAIT_POOL_EMPTY).evt PGM_EVT_POOL_EMPTY }
          | some z =>
            let x : StepRun := ⟨s.jobFrame, sl.1, sl.2.1, (sl.2.2).getD 0, fed, !r.decodes, last⟩
            ⟨(z.1.setReq { z.2 with step := some x, count := none, degr := s.f RCV_STATE_STATE == 4 }).taintReq r.tag, sl.1 :: w.used,
              w.occ ++ [(sl.2.1, r.horizon + fed)]⟩

/-- Step 5 of R212 (R197): the micro-batch that runs stage 0 in this frame is fitted to the frame's slots. -/
def State.fitAll (s : State) : State :=
  let mine := s.inOrder.filter (fun (r : Req) => r.mb == s.jobFrame % 4 && (r.st == .active || r.st == .waitMask) && r.step.isNone &&
    r.pausing.isNone && decide (0 < r.unfed))
  let w := mine.foldl (fun (w : Fit) (r : Req) => match w.s.req r.scope r.tag with
    | some q => w.take q
    | none => w) ⟨s, [], []⟩
  (List.range 11).foldl (fun s i =>
    let occ := w.occ.filter (fun o => o.1 = 10 + i)
    let s := s.setf (PGM_BKT_OCCUPIED i) occ.length
    s.add (PGM_PAD_COUNT i) (s.maxBatch (10 + i) * 2 ^ (10 + i) - (occ.map Prod.snd).sum)) w.s

/-- VARIANT_CHOOSE (R225): slots a variant gives to the leading requests of the micro-batch of frame f + 2, every draft taken
as accepted. -/
def State.runLen (s : State) (plan : List (Nat × Nat × Option Nat)) : List Req → List Nat → Nat
  | [], _ => 0
  | r :: rs, used =>
    let grow := match r.step with
      | some x => x.fed
      | none => 0
    let q : Req := { r with horizon := r.horizon + grow, input := r.input ++ (if r.decodes ∨ r.step.any StepRun.last then List.replicate grow 0 else []) }
    let b := bucketOf (q.lEff s.chunk)
    match plan.find? (fun x => slotFits b (if q.decodes then some q.depth else none) x && !used.contains x.1) with
    | some x => 1 + s.runLen plan rs (x.1 :: used)
    | none => 0

/-- The variant chosen for frame f + 2: the one that serves the longest run in ACCEPT order, lowest index first (R225). -/
def State.bestVariant (s : State) : Nat :=
  match s.img with
  | none => 0
  | some im =>
    let rs := s.inOrder.filter (fun (r : Req) => r.mb == (s.jobFrame + 2) % 4 && r.st == .active)
    let plan (v : Nat) := ((im.serv.plans.getD v []).map (fun x => (List.range x.2.2.2).map (fun i => (x.1 + i, x.2.1, x.2.2.1)))).flatten
    let vs := (List.range im.serv.plans.length).filter (fun v => im.combos.any (fun c => c.variant == v && c.patches == s.patchList))
    (vs.foldl (fun (m : Option (Nat × Nat)) v =>
      let n := s.runLen (plan v) rs []
      match m with
      | some x => if x.2 < n then some (v, n) else m
      | none => some (v, n)) none).map Prod.fst |>.getD (s.f PAV_SEL_VARIANT)

/-- The serving engine commits the variant it chose, when PAV is its own (R40, R44). -/
def State.chooseVariant (s : State) : State :=
  let v := s.bestVariant
  if s.f (PAV_OWN_OWNER 1) = 4 ∧ v ≠ s.f PAV_SEL_VARIANT then
    s.setPend (s.txnPend ++ [⟨.serving, (s.jobFrame + 2) % 2 ^ 32, 1, true, s.jobFrame + 2, s.now, false, .none, [⟨0x100020, 0xFFF, v, s.now⟩]⟩])
  else s

/-! ### Sampling (R235 to R238) -/

/-- A token ends the output: 1 STOP, 2 LENGTH, or 0. -/
def endsAt (r : Req) (n tok : Nat) : Nat := if (recStops r.sample).contains tok then 1 else if r.maxNew ≤ r.made + n + 1 then 2 else 0

/-- The tokens a step yields (R237, R238): the leading run where the drafts match, then the main model's own; cut at a stop
token, at MAX_NEW, or where every candidate is excluded. Answers the tokens and 1 plus the DONE cause, or 0. -/
def State.yield (s : State) (r : Req) (slot base : Nat) (drafts : List Nat) : Nat → Nat → List Nat × Nat
  | 0, _ => ([], 0)
  | n + 1, k =>
    match s.sampleTok r slot (base + k) false with
    | none => ([], 6)
    | some tok =>
      let e := endsAt r k tok
      if e ≠ 0 then ([tok], e)
      else if drafts[k]? = some tok then
        let z := s.yield r slot base drafts n (k + 1)
        (tok :: z.1, z.2)
      else ([tok], 0)

/-- SAMPLE_DRAW (R235 to R238): the sampling unit draws a batch slot's tokens, or the `k`-th draft token; `far` are summaries
other members sent, as (position, shard index, summary). -/
def execSampleDraw (t slot : Nat) (draft : Option Nat) (far : List (Nat × Nat × List Nat)) (s : State) : Host.Outcome State Fault Refusal :=
  let s := s.at t
  if ¬ s.active ∨ ¬ s.b SRV_CFG_IS_SAMPLER then .next s
  else
    let s : State := { s with summaries := s.summaries ++ far.map (fun x => (slot, x.1, (⟨x.2.1, slot, x.1, 0, 0, draft.isSome, ⟨0, 0⟩⟩ : Shard), x.2.2)) }
    match draft with
    | some k =>
      (match s.reqs.find? (fun (r : Req) => r.step.any (fun (x : StepRun) => x.slot == slot && x.frame == s.jobFrame)) with
        | some r => match r.step, s.sampleTok r slot k true with
          | some x, some tok => .next { s with draftTok := s.draftTok.filter (fun d => ¬ (d.1 = stepKey x ∧ d.2.1 = k)) ++ [(stepKey x, k, tok)] }
          | _, _ => .next s
        | none => .next s)
    | none =>
      match s.reqs.find? (fun (r : Req) => r.step.any (fun (x : StepRun) => x.slot == slot && x.frame + 3 == s.jobFrame) && r.count.isNone) with
      | none => .next s
      | some r =>
        match r.step with
        | none => .next s
        | some x =>
          if x.pre ∧ ¬ x.last then .next s
          else
            let base := if x.pre then x.fed - 1 else 0
            let y := s.yield r slot base ((s.drafts r).take x.depth) (if x.pre then 1 else x.depth + 1) 0
            let j := y.1.length - 1
            let deg := s.f RCV_STATE_STATE == 4
            let s := (s.takeSampled r.scope r.tag s.jobFrame y.1 deg y.2).takeCount r.scope r.tag j
            .next ((s.toAll (.sampled r.scope r.tag s.jobFrame y.1 deg y.2)).toAll (.accepted r.scope r.tag j))

/-! ### Completions (R214, R221, R385) -/

/-- Post the first waiting completion of a type that no earlier one of its request precedes, once its journal entry is
mirrored. -/
def State.postNext (s : State) (typ : Nat) : State :=
  let first (p : Post) : Bool := (s.posts.find? (fun (q : Post) => q.scope = p.scope ∧ q.own = p.own)) == some p
  match s.posts.find? (fun (p : Post) => p.typ == typ && first p && s.mirrored p.scope p.own) with
  | none => s
  | some p =>
    let s : State := { s with posts := s.posts.erase p }
    let d := (s.decLog.find? (fun x => x.2.1.cmd.scope = p.scope ∧ cmdOwn x.2.1.cmd = p.own ∧ (x.1 + 1) % 2 ^ 32 = p.seq)).map (fun x => x.1)
    let s := match typ, d with
      | 1, some d => (s.markPosted p.scope p.own d).toAll (.posted p.scope p.own d)
      | _, _ => s
    s.post p

/-- ACCEPT (R214). -/
def execAccept (t : Nat) (s : State) : Host.Outcome State Fault Refusal := .next ((s.at t).postNext 1)
/-- TOKENS (R240). -/
def execTokens (t : Nat) (s : State) : Host.Outcome State Fault Refusal := .next ((s.at t).postNext 3)
/-- DONE (R243). -/
def execDoneReq (t : Nat) (s : State) : Host.Outcome State Fault Refusal := .next ((s.at t).postNext 4)
/-- EXPIRED (R246). -/
def execExpired (t : Nat) (s : State) : Host.Outcome State Fault Refusal := .next ((s.at t).postNext 5)

/-! ### Pause, idleness and resume (R204, R205, R244, R245) -/

/-- A request is PAUSED from this tick on, with a time to live in ms. -/
def State.pauseReq (s : State) (r : Req) (ms : Nat) (idle : Bool) : State :=
  (s.setReq { r with st := .paused, pausing := none, ttl := ms, expAt := some (s.f PAV_TICK_TICK_STAMP + ms * 1000000), expSent := false,
                     idlePaused := idle, resumeTo := if r.st = .resuming then r.resumeTo else r.st == .held, idle := 0 }).countLive

/-- PAUSE_EFFECT (R205, R244). -/
def execPauseEffect (t scope tag : Nat) (s : State) : Host.Outcome State Fault Refusal :=
  let s := s.at t
  match s.req scope tag with
  | some r =>
    (match r.pausing with
      | some ms => if r.step.isNone ∧ ¬ s.isMoving r ∧ r.st ≠ .ending ∧ r.st ≠ .expired then .next (s.pauseReq r ms false) else .next s
      | none => .next s)
  | none => .next s

/-- IDLE_PAUSE (R245). -/
def execIdlePause (t scope tag : Nat) (s : State) : Host.Outcome State Fault Refusal :=
  let s := s.at t
  match s.req scope tag with
  | some r =>
    if 0 < s.f SRV_CFG_IDLE_FRAMES ∧ s.f SRV_CFG_IDLE_FRAMES ≤ r.idle ∧ (r.st = .waitMask ∨ r.st = .held) ∧ r.step.isNone then
      .next (s.pauseReq r (s.f SRV_TTL_AUTO_TTL_MS) true)
    else .next s
  | none => .next s

/-- RESUME_DONE (R205): every page is back in tier N. -/
def execResumeDone (t scope tag : Nat) (s : State) : Host.Outcome State Fault Refusal :=
  let s := s.at t
  match s.req scope tag with
  | some r =>
    if r.st = .resuming ∧ ¬ s.isMoving r ∧ r.pages.all (fun x => !s.pageF x.2.2) ∧ r.pausing.isNone then
      let r0 : Req := { r with st := if r.resumeTo then .held else .active, resumeTo := false, idlePaused := false, more := none, idle := 0 }
      .next ((s.setReq (match r.more with | some c => r0.extend c | none => r0)).countLive)
    else .next s
  | none => .next s

/-! ### The serving engine's part of a tick (R27, R212, R374) -/

/-- Members tell the homes of degraded steps (R177, R242), before the frame number rises. -/
def State.tellDegraded (s : State) : State :=
  let mark (s : State) (r : Req) : State :=
    match r.step with
    | none => s
    | some x =>
      if s.isHome r then s.takeDegraded r.scope r.tag (x.frame + 3)
      else { s with ctrlQ := s.ctrlQ ++ [(r.home, .degraded r.scope r.tag (x.frame + 3))] }
  (s.degrade.map (fun d => d.2.2)).eraseDups.foldl (fun s b =>
    if b = 0xFFFF then s.reqs.foldl (fun s r => if (r.step.bind (fun x => s.slotReq x.slot)) = some r then mark s r else s) s
    else match s.slotReq b with
      | some r => mark s r
      | none => s) s

/-- Report the tier N pages free to the root (R222). -/
def State.report (s : State) : State :=
  match s.topo with
  | none => s
  | some t =>
    if s.isRoot then { s with freeRep := sput s.freeRep t.self (s.f PGM_FREE_TIER_N) }
    else { s with ctrlQ := s.ctrlQ ++ [(s.memberPkg s.admRoot, .free t.self (s.f PGM_FREE_TIER_N))] }

/-- DELIVERED entries (R385, R499). -/
def State.deliverAll (s : State) : State :=
  s.delivered.foldl (fun s x => s.journal x.1 x.2 5 0 0 (s.chain x.1 x.2).eaten 0 []) { s with delivered := [] }

/-- Requests with a LOST page are rebuilt (R404). -/
def State.rebuilds (s : State) : State :=
  s.inOrder.foldl (fun s (r : Req) =>
    s.when (r.lost && (r.st == .active || r.st == .waitMask || r.st == .held)) (fun s => s.rebuild r)) s

/-- Keep the requests and the index as they stand before the serving steps of a tick, for P + 2 ticks (R203, R390). -/
def State.snap (s : State) : State :=
  { s with snaps := (s.snaps ++ [(s.jobFrame, s.reqs, s.prefixes)]).drop ((s.snaps.length + 1) - (s.settle + 3)),
           decLog := s.decLog.filter (fun d => decide (s.jobFrame ≤ d.1 + s.settle + 3)) }

/-- An opcode no command has is BAD_ENTRY (R217). -/
def State.badOpcodes (s : State) : State :=
  if s.isRoot then
    (s.arrivals.filter (fun (a : Arrival) => !a.expiry && decide (a.stamp < s.f PAV_TICK_TICK_STAMP) && !(decide (1 ≤ cmdOp a.cmd) && decide (cmdOp a.cmd ≤ 6)))).foldl
      (fun s a => State.announce { s with arrivals := s.arrivals.erase a } ⟨a.cmd, 6, 0, [], false⟩) s
  else s

/-- The serving steps of a tick of a member (R212). -/
def State.serveTick (s : State) : State :=
  let s := s.snap.applyDecisions
  let s := s.rebuilds
  let s := s.horizons.depths
  let s := s.deliverAll
  let s := s.release.jFreeSettled
  let s := s.registerAll.report
  let s := (s.when s.isRoot State.retest).badOpcodes.evict
  let s := s.fitAll
  let s : State := { s with reqs := s.reqs.map (fun (r : Req) => if r.st = .waitMask ∨ r.st = .held then { r with idle := r.idle + 1 } else { r with idle := 0 }) }
  s.chooseVariant.countLive

/-- Commands of a package that takes none are rejected at its next tick (R213, R409, R479). -/
def State.rejectFwd (s : State) (code : Nat) (sel : Cmd → Bool) : State :=
  (s.fwd.filter sel).foldl (fun s (c : Cmd) => s.post ⟨c.scope, cmdTag c, c.pair, 2, code, 0, [], 0, cmdOwn c⟩)
    { s with fwd := s.fwd.filter (fun c => !sel c) }

end Sys2Proof.Machine
end

