-- ==== Sys2Proof/Machine/Recovery.lean ====
section
/-! DEFINITION. Abort rounds, rollback and the patches recovery enables: R268, R299, R321, R371, R387 to R396, R398, R402,
R403, R409, R477, R527. -/

namespace Sys2Proof.Machine

/-! ### Fault classes (R395, R396) -/

/-- The class of a cause: 0 RERUN, 1 ARRAY, 2 CORE, 3 ROUTER, 4 REGION, 5 PORT, 6 LINK, 7 CHANNEL, 8 MEMBER. -/
def faultClass (code kind : Nat) : Nat :=
  if [0x0B, 0x0A, 0x0C, 0x09, 0x0D, 0x0F, 0x10, 0x11, 0x12, 0x16, 0x17, 0x1C, 0x1D, 0x24, 0x25, 0x1F, 0x21, 0x06].contains code then 0
  else if code = 0x02 ∨ code = 0x08 ∨ ((code = 0x03 ∨ code = 0x05) ∧ kind = 1) then 1
  else if (code = 0x03 ∨ code = 0x05) ∧ kind = 3 then 2
  else if code = 0x13 then 3
  else if code = 0x14 then 4
  else if code = 0x19 then 5
  else if code = 0x1A ∨ code = 0x1B then 6
  else if code = 0x22 then 7
  else 8

/-- Rank of a class: the widest is chosen (R395). -/
def classRank (c : Nat) : Nat := [0, 4, 5, 6, 7, 2, 3, 1, 8].getD c 8

/-- Error code, KIND and member of a report: an ABORT with BROADCAST clear (R324). -/
def repCode (m : Qmsg) : Nat := bits m.cause 0 8
def repKind (m : Qmsg) : Nat := bits m.cause 8 4
def repRank (m : Qmsg) : Nat := classRank (faultClass (repCode m) (repKind m))

/-- The chosen fault of a round: the widest class, the first among equals. -/
def chooseFault : List Qmsg → Option Qmsg
  | [] => none
  | m :: ms => match chooseFault ms with
    | some x => if repRank x ≤ repRank m then some m else some x
    | none => some m

/-- The member whose package ID is `pkg`. -/
def State.memberAt (s : State) (pkg : Nat) : Nat :=
  match s.topo with
  | some t => t.members.findIdx (fun (m : Member) => m.pkg == pkg)
  | none => 0

/-- MEMBER of the root's broadcast (R388). -/
def State.faultMember (s : State) (m : Qmsg) : Nat :=
  if repCode m = 0x1E then m.unit else if repCode m = 0x15 then s.memberAt (bits m.detail 20 20) else m.member

/-- How a RERUN fault that recurs is handled (R396): the code and kind that stand for its class, and the unit. -/
def escalate (kind unit : Nat) : Nat × Nat × Nat :=
  match kind with
  | 1 => (0x05, 1, unit)
  | 3 => (0x05, 3, unit)
  | 2 => (0x05, 3, unit / 8)
  | 6 => (0x13, 6, unit)
  | 5 => (0x14, 5, unit)
  | 7 => (0x19, 7, unit)
  | _ => (0x1E, 0xB, unit)

/-- The report as the round handles it: a RERUN fault of one cause on one unit that starts its REPEAT_MAX-th round within
OBS_FRAMES takes its unit's class (R396). -/
def State.judged (s : State) (m : Qmsg) : Qmsg :=
  let key := (m.member * 2 ^ 4 + repKind m) * 2 ^ 32 + m.unit
  let before := (s.qdr.reran.filter (fun x => x.1 = repCode m ∧ x.2.1 = key ∧ s.jobFrame < x.2.2 + s.f CHK_OBS_OBS_FRAMES)).length
  if faultClass (repCode m) (repKind m) = 0 ∧ s.f RCV_CFG_REPEAT_MAX ≤ before + 1 then
    let e := escalate (repKind m) m.unit
    { m with cause := e.1 + 2 ^ 8 * e.2.1, unit := if e.1 = 0x1E then m.member else e.2.2 }
  else m

/-- Recovery table entries of a class for a unit (R396). -/
def State.recFor (s : State) (cls kind member unit : Nat) : List RecEntry :=
  match s.img with
  | none => []
  | some im => im.recover.filter (fun (e : RecEntry) => e.cls == cls && e.unit == unit && e.kind == kind &&
      (e.member == member || (e.member == 0xFFFFFFFF && member == im.topo.self)))

/-- The patches of entries, each PATCH before its PATCH2. -/
def recPatches (es : List RecEntry) : List Nat :=
  (es.map (fun (e : RecEntry) => e.patch :: (if e.patch2 = 0xFFFF then [] else [e.patch2]))).flatten

/-- KIND and unit under which the table lists a fault (R396). -/
def recUnit (cls kind unit : Nat) : Nat × Nat :=
  match cls with
  | 3 => (4, unit / 4)
  | 2 => (3, unit)
  | _ => (kind, unit)

/-! ### The patch set (R394) -/

/-- A patch of the image. -/
def State.patch (s : State) (p : Nat) : Option Patch := s.img.bind (fun im => im.patches[p]?)

/-- Order of kinds in R394. -/
def kindRank : PatchKind → Nat
  | .fallback => 0
  | .fence => 0
  | .spare => 1
  | .detour => 1
  | .route => 2
  | .reconstruct => 3
  | _ => 4

/-- Where a new fence or fallback concerns a core whose detour is enabled, the detour follows it (R394). -/
def State.moveDetours (s : State) (new : List Nat) (ps : List Nat) : List Nat :=
  let cores := (new.map (fun p => match s.patch p with
    | some x => if x.kind = .fence ∨ x.kind = .fallback then x.cores else []
    | none => [])).flatten
  let isD (p : Nat) : Bool := !new.contains p && (match s.patch p with
    | some x => decide (x.kind = .detour) && x.cores.any cores.contains
    | none => false)
  let head := new.filter (fun p => (s.patch p).any (fun x => decide (kindRank x.kind = 0)))
  ps.filter (fun p => !isD p && !new.contains p) ++ head ++ ps.filter isD ++ new.filter (fun p => !head.contains p)

/-- A patch set with the patches of recovery table entries added (R394), in the table's order within each kind. -/
def State.patchSet (s : State) (cur : List Nat) (es : List RecEntry) : List Nat :=
  let table := match s.img with
    | some im => im.recover
    | none => []
  let add := ((recPatches (table.filter es.contains)).filter (fun p => !cur.contains p)).eraseDups
  let by_ (k : Nat) := add.filter (fun p => (s.patch p).any (fun x => kindRank x.kind == k))
  s.moveDetours (by_ 0 ++ by_ 1 ++ by_ 2 ++ by_ 3 ++ by_ 4) cur

/-- A combination is listed (R257). -/
def State.listed (s : State) (variant : Nat) (ps : List Nat) : Bool :=
  match s.img with
  | none => variant == 0 && ps.isEmpty
  | some im => if im.patches.isEmpty ∧ im.combos.isEmpty then ps.isEmpty
    else im.combos.any (fun (c : Combo) => c.variant == variant && c.patches == ps)

/-- Write a patch set into PAV_PATCH0 upward (R394). -/
def State.putPatches (s : State) (ps : List Nat) : State :=
  (List.range 8).foldl (fun s i => match ps[i]? with
    | some p => (s.setf (PAV_PATCH_EN i) 1).setf (PAV_PATCH_PATCH i) p
    | none => s.setf (PAV_PATCH_EN i) 0) s

/-! ### The tree after a loss (R527) -/

/-- QDR_TREE and the child ports follow the tree in force. -/
def State.showTree (s : State) (parent depth : Nat) : State :=
  let ps := s.qdr.kids.map Prod.fst
  let sum (lo hi : Nat) := (((List.range 72).filter (fun p => decide (lo ≤ p) && decide (p < hi) && ps.contains p)).map (fun p => 2 ^ (p - lo))).sum
  let root := match s.topo with
    | some t => if s.qdr.gone.contains t.root then t.standby else t.root
    | none => 0
  let s := ((s.setf QDR_TREE_PARENT parent).setf QDR_TREE_DEPTH depth).setf QDR_TREE_ROOT (s.memberPkg root)
  let s := s.setf QDR_TREE_IS_ROOT (bit ((s.topo.map Topo.self) == some root))
  ((s.setf (QDR_CHILD_PORTS 0) (sum 0 64)).setf (QDR_CHILD_PORTS 1) (sum 64 72)).refreshUse

/-- The tree and the roles after the loss of member `l` (R398, R527). -/
def State.loseMember (s : State) (l : Nat) : State :=
  match s.topo with
  | none => s
  | some t =>
    let gain := ((t.heirs.filter (fun h => h.1 = l)).map Prod.snd).filter (fun h => !s.qdr.kids.any (fun k => k.1 == h.1))
    let moved := l :: (gain.map Prod.snd).flatten
    let kids := (s.qdr.kids.map (fun k => (k.1, k.2.filter (fun m => !moved.contains m)))).filter (fun k => !k.2.isEmpty) ++ gain
    let parentLost := l == t.parentAt && s.f QDR_TREE_PARENT == t.parent && t.fbParent != 127
    let nowRoot := l == t.root && t.standby == t.self
    let s : State := { s with qdr := { s.qdr with gone := if s.qdr.gone.contains l then s.qdr.gone else s.qdr.gone ++ [l], kids := kids } }
    let s := s.when (t.sampler == l) (fun s => s.setf SRV_CFG_IS_SAMPLER (bit (t.members.findIdx (fun (m : Member) =>
      m.role == Role.parity && (t.members[l]?).any (fun (x : Member) => x.group == m.group)) == t.self)))
    let s : State := if l = t.admRoot then { s with fwd := s.undecided ++ s.fwd, undecided := [] } else s
    let s := (s.setf SRV_CFG_ROOT (s.memberPkg s.admRoot)).setf SRV_CFG_IS_ROOT (bit (s.admRoot == t.self))
    if nowRoot then s.showTree 127 0
    else if parentLost then s.showTree t.fbParent t.fbDepth
    else s.showTree (s.f QDR_TREE_PARENT) (s.f QDR_TREE_DEPTH)

/-! ### Rollback (R203, R390 to R392) -/

/-- Undo one taint record, newest action first (R390). -/
def State.undoTaint (s : State) (x : Taint) : State :=
  x.pages.reverse.foldl (fun s a =>
    if a.1 = 1 then s.setPage a.2 0 0 0
    else if a.1 = 3 then s.setPage a.2 2 0 x.frame
    else if a.1 = 2 then s.setPage a.2 1 ((sfind x.refs a.2).getD 1) 0
    else s) s

/-- Taint records of frames from `r` on, newest first. -/
def taintFrom (ts : List Taint) (r : Nat) : List Taint := (ts.filter (fun (x : Taint) => decide (r ≤ x.frame))).reverse

/-- A journal's bytes after the header of each block of a chain (R382). -/
def State.chainBytes (s : State) (c : Chain) : List Nat :=
  ((List.range c.blocks.length).map (fun k => s.bytes (s.jBlock (c.blocks.getD k 0) + 64) (32 * min 126 (c.units - 126 * k)))).flatten

/-- The entries of a chain (R383). -/
def entriesOf : Nat → List Nat → List (List Nat)
  | 0, _ => []
  | n + 1, bs =>
    let u := leNat ((bs.drop 2).take 2)
    if u = 0 ∨ bs.length < 32 * u then [] else bs.take (32 * u) :: entriesOf n (bs.drop (32 * u))

/-- Fields of a journal entry. -/
def entKind (e : List Nat) : Nat := e.getD 0 0
def entSeq (e : List Nat) : Nat := leNat ((e.drop 4).take 4)
def entValue (e : List Nat) : Nat := leNat ((e.drop 8).take 8)
def entCount (e : List Nat) : Nat := leNat ((e.drop 16).take 4)

/-- The append point moves back to the first SAMPLED entry of frame `r` or later; the other kinds are kept (R390). -/
def State.rewindChain (s : State) (c : Chain) (r : Nat) : State :=
  let es := entriesOf c.units (s.chainBytes c)
  let keep := (es.filter (fun e => ¬ (entKind e = 2 ∧ r ≤ entValue e))).flatten
  if keep.length = 32 * c.units then s
  else
    let c' : Chain := { c with units := keep.length / 32 }
    let ks := List.range c.blocks.length
    let s := (s.setChain c').putUnits c' (keep.length / 32) 0 keep
    let s := ks.foldl (fun s k => s.jHeader c' k) s
    ks.foldl (fun s k => s.jMirror c' k) s

/-- Steps whose tokens have been released since: dropped from an older list of unreleased ones. -/
def dropReleased : Nat → List Sampled → List Sampled
  | 0, l => l
  | _ + 1, [] => []
  | n + 1, x :: xs => if x.toks.length ≤ n + 1 then dropReleased (n + 1 - x.toks.length) xs else x :: xs

/-- A request as it stood at tick r, its releases kept (R390, R408). -/
def rewindReq (old cur : Req) : Req :=
  { old with released := cur.released, outq := dropReleased (cur.released - old.released) old.outq, home := cur.home, pair := cur.pair,
             lost := old.lost || cur.lost }

/-- Reference counts follow the restored requests and index. -/
def State.recount (s : State) (ps : List Nat) : State :=
  let all := (s.reqs.map (fun (r : Req) => r.pages.map (fun x => x.2.2))).flatten ++ (s.prefixes.map (fun (p : Prefix) => p.pages.map Prod.snd)).flatten
  (ps ++ all).eraseDups.foldl (fun s p =>
    let n := (all.filter (· == p)).length
    let st := s.pageSt p
    if n = 0 then (if st = 1 then s.setPage p 2 0 s.jobFrame else s)
    else s.setPage p (if st = 0 ∨ st = 2 then 1 else st) n 0) s

/-- Requests, index and pages return to tick `r` (R203, R390). -/
def State.rewindReqs (s : State) (r : Nat) : State :=
  let ts := taintFrom s.taint r
  let touched := (ts.map (fun (x : Taint) => x.pages.map Prod.snd)).flatten ++ (s.reqs.map (fun (q : Req) => q.pages.map (fun x => x.2.2))).flatten
  let s := ts.foldl State.undoTaint s
  let s : State := { s with taint := s.taint.filter (fun (x : Taint) => decide (x.frame < r)), moving := [], cow := [] }
  match s.snaps.find? (fun x => x.1 = r) with
  | none => s.recount touched
  | some old =>
    let back := old.2.1.filterMap (fun (q : Req) => (s.req q.scope q.tag).map (fun c => rewindReq q c))
    let s : State := { s with reqs := back, prefixes := old.2.2, snaps := s.snaps.filter (fun x => decide (x.1 ≤ r)) }
    s.recount (touched ++ (old.2.1.map (fun (q : Req) => q.pages.map (fun x => x.2.2))).flatten)

/-- Decisions of ticks from `r` on: those whose ACCEPT was posted are applied again at their tick + Δ; the root makes the others
again (R214, R392), which are undecided at their homes (R398). -/
def State.replay (s : State) (r sAt : Nat) : State :=
  let d := sAt - r
  let ok := s.decLog.filter (fun x => x.2.1.reason == 0)
  let again := ok.filter (fun x => x.2.2 && decide (r ≤ x.1))
  let redo := ok.filter (fun x => !x.2.2)
  let dead (c : Cmd) : Bool := redo.any (fun x => x.2.1.cmd == c)
  let makesDead (q : Req) : Bool := redo.any (fun x => makes x.2.1 && x.2.1.cmd.scope == q.scope && cmdOwn x.2.1.cmd == q.tag)
  let s := (s.reqs.filter makesDead).foldl (fun s (q : Req) => s.dropPages q) s
  let s : State := { s with
    reqs := s.reqs.filter (fun (q : Req) => !makesDead q),
    chains := s.chains.filter (fun (c : Chain) => !redo.any (fun x => makes x.2.1 && x.2.1.cmd.scope == c.scope && cmdOwn x.2.1.cmd == c.tag)),
    posts := s.posts.filter (fun (p : Post) => p.typ ≠ 1),
    decisions := again.map (fun x => (x.1 + d, x.2.1)) ++ s.decisions.filter (fun x => decide (x.1 < r) && !dead x.2.cmd),
    decLog := s.decLog.filter (fun x => decide (x.1 < r) && x.2.2) ++ again.map (fun x => (x.1 + d, x.2.1, true)) }
  let arr := redo.map (fun x => (⟨x.1, x.2.1.cmd, x.2.1.expiry, if r ≤ x.1 then x.1 + d else sAt⟩ : Arrival))
  let own := (redo.map (fun x => x.2.1.cmd)).filter (fun c => c.home == s.f FAB_ID_PKG_ID)
  let moved := s.topo.any (fun t => s.qdr.leaving.contains t.admRoot)
  (if s.isRoot ∧ ¬ moved then { s with arrivals := arr ++ s.arrivals } else { s with undecided := own ++ s.undecided }).jCount

/-- Latents that failed their check and that the rollback cannot write again lose their page (R183). -/
def State.loseKv (s : State) (r : Nat) : State :=
  (s.kvFail.filter (fun x => decide (x.2 < r % 2 ^ 32))).foldl (fun s x => s.pageLost x.1) { s with kvFail := [] }

/-- ROLLBACK_RESTORE (R390): page states, horizons, journals, states and decisions go back to tick `r`; accumulators, scratchpads,
trims and applied transactions stay (R391). -/
def State.restore (s : State) (r sAt : Nat) : State :=
  let s := s.rewindReqs r
  let s := s.chains.foldl (fun s (c : Chain) => s.rewindChain c r) s
  let s := (s.replay r sAt).loseKv r
  { s with summaries := [], draftTok := [], staged := [], fill := [], fillNext := [], held := [], satRec := [], capture := [], degrade := [],
           evicts := [] }.countLive

/-! ### Job failure and adoption (R402, R403, R409) -/

/-- JOB_FAILED (R409): the job is over for this package; its live requests end, and it runs on alone in the default geometry. -/
def State.jobFail (s : State) : State :=
  if s.failSolo then s
  else
    let s := ((s.setf RCV_STATE_STATE 5).inc RCV_CNT_JOB_FAILS).evt RCV_EVT_JOB_FAILED
    let s := s.inOrder.foldl (fun s (r : Req) =>
      if s.isHome r ∧ r.st ≠ .expired then State.finish (s.setReq { r with st := .ending, step := none, outq := [], cause := none }) r 4 4 else s) s
    let s := (s.setf PAV_CFG_N_PASSES 768).setf PAV_CFG_WORK_SPAN 704
    { s with failSolo := true, qdr := { s.qdr with round := none, member := none, fault := none, mine := [], due := [], dueLate := [] },
             pav := { s.pav with stopped := false, faulted := false, waits := [], waitDead := false } }

/-- A mirror block's header fields: used units, home, tag, next (R382). -/
def State.mirHead (s : State) (b : Nat) : Nat × Nat × Nat × Nat :=
  let a := 4096 * s.f RCV_JMIR_BASE_4K + 4096 * b
  (s.num (a + 2) 2, s.num (a + 4) 4 % 2 ^ 20, s.num (a + 8) 8, s.num (a + 16) 4)

/-- The bytes of a mirrored chain from block `b` on; NEXT counts in the journal it mirrors. -/
def State.mirBytes (s : State) : Nat → Nat → List Nat
  | 0, _ => []
  | n + 1, b =>
    let h := s.mirHead b
    let j := max 1 (s.f RCV_JRNL_BLOCKS)
    s.bytes (4096 * s.f RCV_JMIR_BASE_4K + 4096 * b + 64) (32 * min 126 h.1) ++
      (if h.2.2.2 = 0xFFFFFFFF then [] else s.mirBytes n (b / j * j + h.2.2.2))

/-- The journal bytes mirrored for a request of a lost home. -/
def State.mirChain (s : State) (pkg tag : Nat) : List Nat :=
  let j := max 1 (s.f RCV_JRNL_BLOCKS)
  let bs := s.mirUsed.filter (fun b => (s.mirHead b).2.1 == pkg && (s.mirHead b).2.2.1 == tag)
  match bs.find? (fun b => !bs.any (fun c => (s.mirHead c).2.2.2 == b % j && c / j == b / j)) with
  | some b => s.mirBytes bs.length b
  | none => []

/-- Copy a mirrored chain into the adopter's own journal, where the request goes on (notes/assumptions/31.md). -/
def State.copyChain (s : State) (scope tag : Nat) (bs : List Nat) : State :=
  let n := bs.length / 32
  let c : Chain := s.chain scope tag
  let c' : Chain := { c with blocks := s.takeBlocks c ((n + 125) / 126), units := n }
  let s := (s.setChain c').putUnits c' n 0 bs
  (List.range c'.blocks.length).foldl (fun s k => s.jHeader c' k) s

/-- ADOPT (R402): the mirror holder of a lost member becomes the home of its requests; completions wait for a pair. -/
def State.adopt (s : State) (l : Nat) : State :=
  let pkg := s.memberPkg l
  let holder := match s.topo with
    | none => false
    | some t => (match t.members[l]?, t.members[t.self]? with
      | some x, some me => match x.role with
        | .data => me.role == Role.parity && me.group == x.group
        | .parity => t.members.findIdx (fun (m : Member) => m.group == x.group && m.role == Role.data) == t.self
        | .solo => t.members.findIdx (fun (m : Member) => m.role == Role.solo && m.pkg == pkg) == l && t.peer == l
      | _, _ => false)
  if holder then
    let s := (s.reqs.filter (fun (r : Req) => r.home == pkg)).foldl (fun s (r : Req) =>
      (s.copyChain r.scope r.tag (s.mirChain pkg r.tag)).setReq { r with home := s.f FAB_ID_PKG_ID, pair := 256 }) s
    ((s.setf RCV_ADOPT_LOST_PKG pkg).setf RCV_ADOPT_BOUND 0).evt RCV_EVT_ADOPTED
  else { s with reqs := s.reqs.map (fun (r : Req) => if r.home = pkg then { r with home := s.memberPkg (match s.topo with
      | none => 0
      | some t => match t.members[l]? with
        | some x => t.members.findIdx (fun (m : Member) => m.group == x.group && (m.role != x.role))
        | none => 0) } else r) }

/-- The completions a journal records, in its order (R403). DONE's CODE is read back from what ended the request: HELD while it
lives, STOP and LENGTH from its last tokens, otherwise CANCELLED (notes/assumptions/32.md). -/
def journalPosts (r : Req) (pair : Nat) (live : Bool) (es : List (List Nat)) : List Post :=
  (es.map (fun e =>
    let toks := words32 ((e.drop 32).take (4 * entCount e))
    if entKind e = 1 then
      let op := bits (leNat ((e.drop 32).take 8)) 56 8
      [(⟨r.scope, leNat ((e.drop 40).take 8), pair, 1, op, entValue e % 2 ^ 32, [], 0, r.tag⟩ : Post)]
    else if entKind e = 3 then tokenPosts { r with pair := pair } ⟨0, 0, toks, false⟩ 2 (entSeq e) toks
    else if entKind e = 4 then
      let stop := (recStops r.sample).contains (r.input.getLastD 0)
      let code := if e.getD 1 0 = 5 then 0 else if live then 3 else if stop then 0 else if r.maxNew ≤ r.released then 1 else 2
      [⟨r.scope, r.tag, pair, e.getD 1 0, code, entSeq e, [], 0, r.tag⟩]
    else [])).flatten

/-- DELIVERED count of a journal (R383). -/
def deliveredOf (es : List (List Nat)) : Nat := ((es.filter (fun e => entKind e = 5)).getLast?.map entValue).getD 0

/-- ADOPT_REPOST (R402, R403): a pair is bound and the adopted requests' completions are posted from the journal. -/
def State.bindAdopted (s : State) (pair : Nat) : State :=
  let pkg := s.f RCV_ADOPT_LOST_PKG
  if s.b (QP_CFG_EN pair) ∧ ¬ s.pairLive pair then
    let s := (s.setf RCV_ADOPT_BOUND 1).setf (QP_STAT_SCOPE pair) pkg
    s.inOrder.foldl (fun s (r : Req) =>
      if r.scope = pkg ∧ r.pair = 256 then
        let c := s.chain r.scope r.tag
        let es := entriesOf c.units (s.chainBytes c)
        let s := s.setReq { r with pair := pair }
        ((journalPosts r pair (r.st != .ending) es).drop (deliveredOf es)).foldl State.post s
      else s) s
  else (s.setf RCV_ADOPT_BOUND 0).setf (QP_STAT_ERR pair) 2

/-! ### The round at a member (R321, R388 to R390) -/

/-- PENDING transactions end with ROLLED_BACK (R268). -/
def State.rollTxns (s : State) : State :=
  (s.txnPend.foldl (fun s (p : TxnPend) => s.endTxn p.q p.id 0x0B) s).setPend []

/-- The loss of a member is beyond the guarantee (R396, R399, R409): no entry in the recovery table, or a second loss in its coded
group. -/
def State.beyond (s : State) (l : Nat) : Bool :=
  (s.recFor 8 0xB l l).isEmpty || (match s.topo with
    | none => true
    | some t => match t.members[l]? with
      | none => true
      | some x => x.role != Role.solo && s.qdr.gone.any (fun g => g != l && (t.members[g]?).any (fun (y : Member) => y.group == x.group)))

/-- What the loss of members means for this member: the job fails, this member is excluded, or patches fall due at tick s
(R395, R396, R477); `late` ones that the COMPLETE of the round lists come after the others (R389). -/
def State.sufferLoss (s : State) (l : Nat) (late : Bool) : State :=
  match s.topo with
  | none => s
  | some t =>
    if l = t.self then { s with qdr := { s.qdr with excluded := true } }
    else if s.qdr.leaving.contains l then s
    else if s.beyond l then s.jobFail
    else
      let es := s.recFor 8 0xB l l
      { s with qdr := { s.qdr with due := if late then s.qdr.due else s.qdr.due ++ es,
                                   dueLate := if late then s.qdr.dueLate ++ es else s.qdr.dueLate, leaving := s.qdr.leaving ++ [l],
                                   gone := if s.qdr.gone.contains l then s.qdr.gone else s.qdr.gone ++ [l] } }

/-- Patches for this member's own records of the round (R395, R396); with no entry the member is lost. -/
def State.ownPatches (s : State) (x : ErrRec) : State :=
  match s.topo with
  | none => s
  | some t =>
    let rep := s.judged { kind := 3, member := t.self, cause := x.cause + 2 ^ 8 * x.kind, unit := x.unit, detail := x.detail }
    let cls := faultClass (repCode rep) (repKind rep)
    if 1 ≤ cls ∧ cls ≤ 5 then
      let u := recUnit cls (repKind rep) rep.unit
      let es := s.recFor cls u.1 t.self u.2
      if es.isEmpty then { s with qdr := { s.qdr with excluded := true } }
      else { s with qdr := { s.qdr with due := s.qdr.due ++ es } }
    else s

/-- The port towards the root of the barrier or round that runs: in a round for the loss of the root its children use their fallback
parent (R320). -/
def State.upPort (s : State) : Nat :=
  match s.topo, s.qdr.fault with
  | some t, some m => if bits m.cause 0 8 = 4 ∧ s.f QDR_TREE_DEPTH = 1 then t.fbParent else s.f QDR_TREE_PARENT
  | _, _ => s.f QDR_TREE_PARENT

/-- What a broadcast's fault means here (R395, R396): the entries for this member's own records, the round that its RERUN fault started,
and the entries for the chosen fault; the end of the job with MANY_MISSING. -/
def State.faultPatches (s : State) (m : Qmsg) : State :=
  let code := bits m.cause 8 8
  let kind := bits m.cause 16 4
  let cls := faultClass code kind
  let unit := (s.qdr.mine.find? (fun (x : ErrRec) => x.cause == code)).elim 0 ErrRec.unit
  let again := if cls = 0 ∧ m.member = s.f QDR_SELF_MEMBER_IDX then [(code, (m.member * 2 ^ 4 + kind) * 2 ^ 32 + unit, s.jobFrame)] else []
  let s := (s.qdr.mine.filter (fun (x : ErrRec) => decide (2 ≤ x.sev))).foldl (fun s x => s.ownPatches x) s
  let s : State := { s with qdr := { s.qdr with reran := s.qdr.reran ++ again } }
  if bits m.cause 0 8 = 5 then s.jobFail
  else if cls = 8 then s.sufferLoss m.member false
  else if cls = 6 then
    (let es := s.recFor 6 kind m.member (bits m.cause 20 12)
     if es.isEmpty then s.sufferLoss m.member false else { s with qdr := { s.qdr with due := s.qdr.due ++ es } })
  else s

/-- The root's ABORT reaches a member (R321, R322, R388, R390, R395): it goes on to the children; the member stops, ends its
transactions, answers ABORT_ACK and goes back to tick r. -/
def State.takeAbort (s : State) (m : Qmsg) : State :=
  let r := m.aux
  let sAt := m.frame + 1
  let s := s.qdr.kids.foldl (fun s (k : Nat × List Nat) => s.sendQdr k.1 m) s
  let s := ((s.setf RCV_ROLL_RESUME (sAt % 2 ^ 32)).setf RCV_ROLL_ROLLBACK (r % 2 ^ 32)).setf RCV_REPLAY_DELTA (sAt - r)
  let s := ((s.setf RCV_FAULT_MEMBER m.member).setf RCV_FAULT_CAUSE m.cause).evt QDR_EVT_ABORT
  let s := (s.inc QDR_CNT_ABORTS).rollTxns
  let s : State := { s with pav := { s.pav with stopped := true, waits := [] } }
  let again_ := s.qdr.member.isSome
  let q : QdrSt := { s.qdr with member := some (r, sAt), fault := some m, due := if again_ then s.qdr.due else [],
                                dueLate := if again_ then s.qdr.dueLate else [], own := none, sent := false, done := none, told := false }
  let s : State := { s with qdr := { q with late := false, held := [], since := s.now } }
  let s := s.faultPatches m
  if s.failSolo ∨ s.qdr.excluded then s
  else
    let s := s.setf RCV_STATE_STATE 2
    let ack : Qmsg := { kind := 4, jobId := m.jobId, frame := m.frame, member := s.f QDR_SELF_MEMBER_IDX, arrived := 1 }
    let s := (s.sendQdr s.upPort ack).crossCheck
    (s.restore r sAt).setf RCV_STATE_STATE 3

/-! ### The round at the root (R321, R387 to R389) -/

/-- The earliest frame a report names, or its FRAME − P + 1 when it names none (R387). -/
def State.repFrom (s : State) (m : Qmsg) : Nat := if m.aux = 2 ^ 64 - 1 then m.frame + 1 - s.settle else m.aux

/-- Interruption start (R401): the root's local frame end of the frame the fault holds up, or the broadcast. -/
def State.interruptAt (s : State) : Nat := if s.pav.lfeDone then min s.pav.lfeStamp s.now else s.now

/-- Members that still answer: those not lost. -/
def State.alive (s : State) : List Nat :=
  match s.topo with
  | some t => (List.range t.members.length).filter (fun i => !s.qdr.gone.contains i)
  | none => []

/-- The round has ended: every surviving member has answered (R321). -/
def State.endRound (s : State) : State :=
  match s.qdr.round with
  | some x => if ¬ x.ended ∧ s.alive.all x.acked.contains then { s with qdr := { s.qdr with round := some { x with ended := true, endAt := s.now } } }
    else s
  | none => s

/-- What the root keeps of the chosen fault (R396): the round that a RERUN fault of another member started, and a unit that its class
fences from frame `sAt` on. -/
def State.keepFault (s : State) (x : Qmsg) (sAt : Nat) : State :=
  let cls := faultClass (repCode x) (repKind x)
  let rerun := cls == 0 && x.member != s.f QDR_SELF_MEMBER_IDX
  { s with qdr := { s.qdr with
      reran := if rerun then s.qdr.reran ++ [(repCode x, (x.member * 2 ^ 4 + repKind x) * 2 ^ 32 + x.unit, s.jobFrame)] else s.qdr.reran,
      fenced := if cls = 1 ∨ cls = 2 ∨ cls = 4 then s.qdr.fenced ++ [(x.member, repKind x, x.unit, sAt)] else s.qdr.fenced } }

/-- A fault recurs on a unit whose fence patch has taken effect: the job ends (R396, R409). -/
def State.recurs (s : State) (x : Qmsg) : Bool :=
  s.qdr.fenced.any (fun y => y.1 == x.member && y.2.1 == repKind x && y.2.2.1 == x.unit && decide (y.2.2.2 ≤ x.frame))

/-- The root starts an abort round for reports (R387, R388, R395); `why` 5 is R318's MANY_MISSING, with which the job ends
(notes/assumptions/27.md). -/
def State.startRound (s : State) (reps : List Qmsg) (why : Nat) : State :=
  match chooseFault (reps.map s.judged) with
  | none => s
  | some x =>
    let r0 := (reps.map s.repFrom).foldl min (s.jobFrame + 1)
    let r1 := max s.settled r0
    let r := match s.qdr.round with
      | some old => min old.r r1
      | none => r1
    let sAt := s.jobFrame + 2
    let kind := repKind x
    let cause := (if s.recurs x then 5 else why) + 2 ^ 8 * repCode x + 2 ^ 16 * kind + 2 ^ 20 * (if kind = 7 then x.unit % 2 ^ 12 else 0)
    let m : Qmsg := { kind := 3, bcast := true, jobId := s.f QDR_JOB_JOB_ID, frame := sAt - 1, aux := r, member := s.faultMember x, cause := cause }
    let s : State := { s with qdr := { s.qdr with round := some ⟨r, sAt, (s.qdr.round.map Round.start).getD s.interruptAt, s.now, [s.f QDR_SELF_MEMBER_IDX], false, 0, [], []⟩ } }
    ((s.takeAbort m).keepFault x sAt).endRound

/-- A request held during the round that has ended starts the next (R321). -/
def State.nextRound (s : State) : State :=
  match s.qdr.round with
  | some x => if x.ended ∧ ¬ x.later.isEmpty then
      State.startRound { s with qdr := { s.qdr with round := some { x with later := [] } } } x.later 3
    else s
  | none => s

/-- A request for a round reaches the root: a new round, or held until the running one ends (R321). -/
def State.rootAbort (s : State) (m : Qmsg) : State :=
  match s.qdr.round with
  | some x => if x.ended then s.startRound [m] 3 else { s with qdr := { s.qdr with round := some { x with later := x.later ++ [m] } } }
  | none => s.startRound [m] 3

/-- This package is the root of the tree in force. -/
def State.isQRoot (s : State) : Bool := s.active && !s.failSolo && s.b QDR_TREE_IS_ROOT

/-- Declare a member failed (R318, R389): its record and QDR_FAIL. -/
def State.declare (s : State) (m cause : Nat) : State :=
  let s := (((s.setf QDR_FAIL_MEMBER m).setf QDR_FAIL_CAUSE cause).setf QDR_FAIL_FRAME_LO s.jobFrame).evt QDR_EVT_MEMBER_FAILED
  s.raise 2 0x1E 0xB m cause

/-- The report of a declared failure. -/
def State.failReport (s : State) (m cause : Nat) : Qmsg :=
  { kind := 3, jobId := s.f QDR_JOB_JOB_ID, frame := s.jobFrame, member := s.f QDR_SELF_MEMBER_IDX, aux := s.jobFrame,
    cause := 0x1E + 2 ^ 8 * 0xB, unit := m, detail := cause }

/-- A member sends ABORT for its record (R321, R376, R387). -/
def State.sendAbort (s : State) (x : ErrRec) : State :=
  let m : Qmsg := { kind := 3, jobId := s.f QDR_JOB_JOB_ID, frame := x.frame, member := s.f QDR_SELF_MEMBER_IDX, aux := x.sfrom,
                    cause := x.cause + 2 ^ 8 * x.kind, unit := x.unit, detail := x.detail }
  if s.isQRoot then s.rootAbort m else s.sendQdr (s.f QDR_TREE_PARENT) m

/-- The loss of the root as a report of ROOT_LOST (R320). -/
def isRootLost (m : Qmsg) : Bool := repCode m == 0x1E && m.detail == 4

/-- ABORT (R320, R321): a request climbs the tree, the root folds it into a round; the root's broadcast stops the member. -/
def execAbort (t port : Nat) (f : Flit) (s : State) : Host.Outcome State Fault Refusal :=
  let m := qmsgOf f.payload
  .next ((s.at t).rxMsg port f 3 (fun s =>
    if m.kind ≠ 3 ∨ ¬ s.active ∨ s.failSolo then s
    else if m.bcast then (if s.isQRoot ∧ s.qdr.round.isSome then s else s.takeAbort m)
    else if s.isQRoot then s.rootAbort m
    else match s.topo with
      | none => s
      | some tp =>
        if isRootLost m ∧ tp.standby = tp.self then
          (s.loseMember tp.root).startRound [m] 4
        else if isRootLost m ∧ s.f QDR_TREE_DEPTH = 1 then s.sendQdr tp.fbParent m
        else s.sendQdr (s.f QDR_TREE_PARENT) m))

end Sys2Proof.Machine
end

