-- ==== Sys2Proof/Machine/Quadrille.lean ====
section
/-! DEFINITION. Quadrille's barriers, commit rounds and START rounds: R258, R272 to R275, R308, R315 to R324, R389, R390. -/

namespace Sys2Proof.Machine

/-! ### Votes (R323) -/

/-- Merge one vote record into a list with one record for each requester code. -/
def mergeVote (vs : List Vote) (v : Vote) : List Vote :=
  match vs.find? (fun (x : Vote) => x.req == v.req) with
  | none => vs ++ [v]
  | some x =>
    let same := x.state == 0 && v.state == 0 && x.id == v.id && x.target == v.target && x.digest == v.digest
    let y : Vote := { x with state := if same then 0 else 1, count := x.count + v.count }
    vs.map (fun (z : Vote) => if z.req = v.req then y else z)

/-- Merge two lists of vote records. -/
def mergeVotes (a b : List Vote) : List Vote := b.foldl mergeVote a

/-- A later message of one port, with what came before it counted in: LEVEL the highest, SKIP the OR, votes merged (R316). -/
def mergeMsg (a b : Qmsg) : Qmsg :=
  { b with level := max a.level b.level, skip := a.skip || b.skip, arrived := a.arrived + b.arrived, votes := mergeVotes a.votes b.votes }

/-- The root's verdict on merged records: COMMIT when an agreeing record counts `n` members (R323). -/
def verdicts (n : Vote → Nat) (vs : List Vote) : List Vote :=
  vs.map (fun (v : Vote) => { v with state := if v.state = 0 ∧ n v ≤ v.count then 2 else 3 })

/-- This package's vote on a transaction. -/
def State.voteOf (s : State) (p : TxnPend) : Vote := ⟨p.q.code, 0, p.id, p.target, s.topoDigest, 1⟩

/-- Mark PENDING transactions as voted. -/
def State.markVoted (s : State) (sel : TxnPend → Bool) : State :=
  { s with txnPend := s.txnPend.map (fun (p : TxnPend) => if sel p then { p with voted := true } else p) }

/-! ### The barrier in progress (R316, R318, R390) -/

/-- The local frame end this package would have at L_job (R48). -/
def State.lfeAt (s : State) : Nat :=
  s.f PAV_TICK_TICK_STAMP + 64 * (s.f PAV_CFG_WORK_SPAN * (16 + min 7 s.pav.jobLevel) / 16 + s.pav.holds)

/-- The window has its base: the local frame end has come, or a round restores. -/
def State.windowSet (s : State) : Bool :=
  match s.qdr.member with
  | none => s.pav.lfeDone
  | some _ => if s.isQRoot then s.qdr.round.any Round.ended else true

/-- The close of the window: R318's, and the restore window of R390, which a combiner counts from the broadcast. -/
def State.windowClose (s : State) : Nat :=
  match s.qdr.member with
  | none => s.lfeAt + s.f QDR_CFG_WINDOW_NS
  | some _ => (if s.isQRoot then (s.qdr.round.map Round.endAt).getD 0 else s.qdr.since) + 1000 * s.f RCV_CFG_RESTORE_US

/-- The window has closed (half-open, R51). -/
def State.windowShut (s : State) : Bool := s.windowSet && decide (s.windowClose ≤ s.now)

/-- The barrier's completion is in hand. -/
def State.barDone (s : State) : Bool := s.qdr.done == some s.barFrame

/-- Members below a child that count. -/
def State.below (s : State) (k : Nat × List Nat) : List Nat := k.2.filter (fun m => !s.qdr.gone.contains m)

/-- What has come from a port for the barrier in progress; JOIN arrivals lie under 1,000 + the port. -/
def State.gotOf (s : State) (port : Nat) : Option Qmsg :=
  (s.qdr.got.find? (fun x => x.1 = port ∧ x.2.frame = s.barFrame)).map Prod.snd

/-- Every member below a child has arrived. -/
def State.kidDone (s : State) (k : Nat × List Nat) : Bool :=
  match s.gotOf k.1 with
  | none => (s.below k).isEmpty
  | some m => !m.part || decide ((s.below k).length ≤ m.arrived)

/-- Members below a child known to be missing. -/
def State.kidMissing (s : State) (k : Nat × List Nat) : List Nat :=
  if s.kidDone k then []
  else match s.gotOf k.1 with
    | none => s.below k
    | some m => (s.below k).filter m.missing.contains

/-- Missing members, this one among them until it has posted. -/
def State.missing (s : State) : List Nat :=
  (if s.qdr.own.isSome then [] else [s.f QDR_SELF_MEMBER_IDX]) ++ (s.qdr.kids.map s.kidMissing).flatten

/-- A child said that more are missing than it could list. -/
def State.saidMany (s : State) : Bool :=
  s.qdr.kids.any (fun k => !s.kidDone k && (match s.gotOf k.1 with
    | some m => m.many
    | none => false))

/-- Own arrival and every child's are in hand (R316). -/
def State.allIn (s : State) : Bool := s.qdr.own.isSome && s.qdr.kids.all s.kidDone

/-- The arrivals in hand as one message (R316). -/
def State.merged (s : State) : Qmsg :=
  let ms := (s.qdr.got.filter (fun x => x.2.frame = s.barFrame)).map Prod.snd
  let m := (s.qdr.own.toList ++ ms).foldl mergeMsg { kind := 1 }
  { m with kind := 1, part := false, many := false, supp := false, join := false, missing := [], jobId := s.f QDR_JOB_JOB_ID, frame := s.barFrame }

/-- A message marked with what is still missing. -/
def State.withMissing (s : State) (m : Qmsg) : Qmsg :=
  { m with part := !s.missing.isEmpty || s.saidMany, missing := s.missing.take 4, many := decide (4 < s.missing.length) || s.saidMany }

/-- Keep an arrival from a port. -/
def State.putGot (s : State) (port : Nat) (m : Qmsg) : State :=
  let key := if m.join then 1000 + port else port
  let m : Qmsg := if m.join then { m with arrived := 0 } else m
  let old := s.qdr.got.find? (fun x => x.1 = key ∧ x.2.frame = m.frame)
  let new := match old with
    | some x => mergeMsg x.2 m
    | none => m
  { s with qdr := { s.qdr with got := s.qdr.got.filter (fun x => ¬ (x.1 = key ∧ x.2.frame = m.frame)) ++ [(key, new)] } }

/-! ### Completion (R272, R275, R319, R322, R389) -/

/-- Child ports of the tree in force, and those TOPO names, where a joiner may stand (R275). -/
def State.downPorts (s : State) : List Nat :=
  (s.qdr.kids.map Prod.fst ++ ((s.topo.map Topo.kids).getD []).map Prod.fst).eraseDups

/-- One commit round's verdict reaches a PENDING transaction (R272): an ABORT ends whatever transactions disagreed in it. -/
def State.takeVerdict (s : State) (vs : List Vote) (p : TxnPend) : State :=
  match vs.find? (fun (v : Vote) => v.req == p.q.code) with
  | some v =>
    if v.state = 2 ∧ v.id = p.id then { s with txnPend := s.txnPend.map (fun (x : TxnPend) => if x = p then { x with verdict := .commit } else x) }
    else (s.setPend (s.txnPend.filter (fun (x : TxnPend) => x ≠ p))).endTxn p.q p.id 0x0A
  | none => s

/-- The verdicts of a completion of frame `f` (R272). -/
def State.takeVerdicts (s : State) (f : Nat) (vs : List Vote) : State :=
  let s := s.add QDR_CNT_COMMITS (vs.filter (fun (v : Vote) => v.state == 2)).length
  (s.txnPend.filter (fun (p : TxnPend) => p.job && p.mode == 1 && p.voted && p.target == f + 2)).foldl (fun s p => s.takeVerdict vs p) s

/-- A member takes COMPLETE (R319, R389). -/
def State.takeComplete (s : State) (m : Qmsg) : State :=
  let s := s.downPorts.foldl (fun s p => s.sendQdr p m) s
  if m.frame ≠ s.barFrame ∨ s.barDone then s
  else
    let lat := s.now - s.pav.lfeStamp
    let s := s.when (s.qdr.member.isNone) (fun s => (s.setf QDR_LAT_LAST_NS (min lat (2 ^ 32 - 1))).setf QDR_LAT_MAX_NS
      (min (max lat (s.f QDR_LAT_MAX_NS)) (2 ^ 32 - 1)))
    let s := (s.setf QDR_DONE_FRAME m.frame).setf PAV_THR_JOB_LEVEL m.level
    let s : State := { s with qdr := { s.qdr with done := some m.frame, skipNext := m.skip } }
    let s := s.takeVerdicts m.frame m.votes
    if s.qdr.member.isNone then s
    else if m.many then s.jobFail
    else m.missing.foldl (fun s l => s.sufferLoss l true) s

/-- A joiner's vote is expected in the round of a record (notes/assumptions/38.md): a member is away and the root's own transaction sets
nothing. -/
def State.joinRound (s : State) (v : Vote) : Bool :=
  !s.qdr.gone.isEmpty && s.txnPend.any (fun (p : TxnPend) => p.q.code == v.req && p.id == v.id && p.shadows.isEmpty)

/-- The root completes the barrier (R318, R319, R323, R389). -/
def State.completeBar (s : State) : State :=
  let m := s.merged
  let failed := (s.qdr.round.map Round.failed).getD []
  let lost := if s.qdr.member.isSome then failed else []
  s.takeComplete { kind := 2, level := min m.level 11, skip := m.skip, many := decide (4 < lost.length), missing := lost.take 4,
                   jobId := m.jobId, frame := m.frame, arrived := m.arrived, votes := verdicts (fun v => s.alive.length + bit (s.joinRound v)) m.votes }

/-- What an arrival sets off: a combiner with everything in hand sends its merged ARRIVE, the root completes the barrier. -/
def State.barStep (s : State) : State :=
  if s.isQRoot then
    if s.allIn ∧ ¬ s.barDone ∧ (s.qdr.member.isNone ∨ s.windowSet) then s.completeBar else s
  else if s.allIn ∧ ¬ s.qdr.sent then
    State.sendQdr { s with qdr := { s.qdr with sent := true } } s.upPort s.merged
  else s

/-- An arrival from below reaches a combiner or the root (R275, R316, R318). -/
def State.takeArrive (s : State) (port : Nat) (m : Qmsg) : State :=
  if m.frame < s.barFrame ∨ (m.frame = s.barFrame ∧ s.barDone) then s
  else if s.isQRoot ∧ m.frame = s.barFrame ∧ s.windowShut ∧ ¬ m.join then (s.add QDR_CNT_LATE m.arrived).evt QDR_EVT_LATE
  else if ¬ s.isQRoot ∧ s.qdr.sent ∧ m.frame = s.barFrame then
    let s := s.putGot port m
    s.sendQdr s.upPort (if m.join then m else s.withMissing { m with supp := true })
  else (s.putGot port m).barStep

/-- This package's own arrival (R47, R272, R316): level, skip request, and its votes for frame F − 2. -/
def State.postArrive (s : State) : State :=
  let sel (p : TxnPend) : Bool := p.job && p.mode == 1 && !p.voted && p.target == s.barFrame + 2
  let m : Qmsg := { kind := 1, jobId := s.f QDR_JOB_JOB_ID, frame := s.barFrame, arrived := 1, level := s.pav.latched, skip := s.pav.skipReq,
                    votes := (s.txnPend.filter sel).map s.voteOf }
  let s := s.markVoted sel
  if s.isQRoot ∧ s.windowShut then (s.inc QDR_CNT_LATE).evt QDR_EVT_LATE
  else
    let was := s.qdr.sent
    let s : State := { s with qdr := { s.qdr with own := some m } }
    if was then s.sendQdr s.upPort (s.withMissing { m with supp := true }) else s.barStep

/-- Mirror writes that no slot has sent yet (R308). -/
def isMirror : CtrlMsg → Bool
  | .latent _ _ _ => true
  | .journal _ _ => true
  | _ => false

/-- ARRIVE_POST (R308, R316, R372): after its local frame end, once every sequenced flit sent in the frame is acknowledged; a member
with a JOB_FAULT posts nothing. -/
def execArrivePost (t : Nat) (s : State) : Host.Outcome State Fault Refusal :=
  let s := s.at t
  let busy := s.tx.any (fun (x : TxFlit) => x.flit.frame == s.jobFrame % 2 ^ 32) || s.ctrlQ.any (fun m => isMirror m.2)
  if s.active ∧ ¬ s.failSolo ∧ ¬ s.qdr.excluded ∧ s.qdr.member.isNone ∧ s.qdr.own.isNone ∧ s.pav.lfeDone ∧ ¬ s.pav.faulted ∧
      ¬ s.pav.waitDead ∧ ¬ s.pav.stopped ∧ ¬ busy then .next s.postArrive
  else .next s

/-- A Quadrille message of one kind for this job reaches a running member. -/
def State.rxQdr (s : State) (port : Nat) (f : Flit) (kind : Nat) (k : Qmsg → State → State) : State :=
  let m := qmsgOf f.payload
  s.rxMsg port f 3 (fun s => if m.kind = kind ∧ s.active ∧ ¬ s.failSolo ∧ m.jobId = s.f QDR_JOB_JOB_ID then k m s else s)

/-- ARRIVE (R316, R318, R323). -/
def execArrive (t port : Nat) (f : Flit) (s : State) : Host.Outcome State Fault Refusal :=
  .next ((s.at t).rxQdr port f 1 (fun m s => s.takeArrive port m))

/-- PARTIAL_TIMEOUT (R316): a combiner at depth d that lacks arrivals at its local frame end + WINDOW − d × HOP_GUARD. -/
def execPartialTimeout (t : Nat) (s : State) : Host.Outcome State Fault Refusal :=
  let s := s.at t
  if s.active ∧ ¬ s.failSolo ∧ ¬ s.isQRoot ∧ ¬ s.qdr.kids.isEmpty ∧ ¬ s.qdr.sent ∧ ¬ s.barDone ∧ s.windowSet ∧
      s.windowClose ≤ s.now + s.f QDR_TREE_DEPTH * s.f QDR_CFG_HOP_GUARD_NS then
    let m := s.withMissing s.merged
    .next (State.sendQdr { s with qdr := { s.qdr with sent := true } } s.upPort m)
  else .next s

/-! ### The end of a round (R321, R389, R390) -/

/-- The round has ended: the next one starts, or arrivals already in hand may complete the barrier of s − 1. -/
def State.afterRound (s : State) : State := s.endRound.nextRound.barStep

/-- ABORT_ACK (R321). -/
def execAbortAck (t port : Nat) (f : Flit) (s : State) : Host.Outcome State Fault Refusal :=
  .next ((s.at t).rxQdr port f 4 (fun m s =>
    if s.isQRoot then
      (match s.qdr.round with
        | some x => if x.ended ∨ m.frame + 1 ≠ x.s then s
            else State.afterRound { s with qdr := { s.qdr with round := some { x with acked := (x.acked ++ [m.member]).eraseDups } } }
        | none => s)
    else s.sendQdr s.upPort m))

/-- ABORT_ACK_TIMEOUT (R389): members silent for ACK_WAIT_US after the broadcast are declared failed, and the round ends. -/
def execAbortAckTimeout (t : Nat) (s : State) : Host.Outcome State Fault Refusal :=
  let s := s.at t
  match s.qdr.round with
  | some x =>
    if s.isQRoot ∧ ¬ x.ended ∧ x.first + 1000 * s.f RCV_CFG_ACK_WAIT_US ≤ s.now then
      let silent := s.alive.filter (fun i => !x.acked.contains i)
      let s := silent.foldl (fun s m => s.declare m 1) s
      let s : State := { s with qdr := { s.qdr with round := some { x with failed := silent, acked := x.acked ++ silent } } }
      .next (silent.foldl (fun s m => s.sufferLoss m true) s).afterRound
    else .next s
  | none => .next s

/-! ### The close of a window at the root (R318, R390) -/

/-- The culprit a HELD notice names for a missing member (R318). -/
def State.culpritOf (s : State) (m : Nat) : Option Nat :=
  (s.qdr.held.find? (fun (h : Qmsg) => h.member == m)).map (fun h => s.memberAt (bits h.aux 20 20))

/-- Declare what is missing at the close and start the round. -/
def State.closeBar (s : State) : State :=
  let miss := s.missing
  let culprits := (miss.filterMap s.culpritOf).eraseDups
  if s.saidMany ∨ 1 < culprits.length then
    let x := miss.headD 0
    State.startRound ((s.evt QDR_EVT_MANY_MISSING).declare x 5) [s.failReport x 5] 5
  else
    let absent := miss.filter (fun m => (s.culpritOf m).isNone && !culprits.contains m)
    let list := culprits.map (fun m => (m, 2)) ++ absent.map (fun m => (m, 1))
    let reps := list.map (fun x => s.failReport x.1 x.2)
    (list.foldl (fun s x => s.declare x.1 x.2) s).startRound reps (if culprits.isEmpty then 1 else 2)

/-- WINDOW_CLOSE (R318). -/
def execWindowClose (t : Nat) (s : State) : Host.Outcome State Fault Refusal :=
  let s := s.at t
  if s.isQRoot ∧ s.qdr.member.isNone ∧ ¬ s.barDone ∧ s.windowShut ∧ ¬ s.pav.stopped then .next s.closeBar else .next s

/-- RESTORE_WINDOW_CLOSE (R318, R390). -/
def execRestoreWindowClose (t : Nat) (s : State) : Host.Outcome State Fault Refusal :=
  let s := s.at t
  if s.isQRoot ∧ s.qdr.member.isSome ∧ ¬ s.barDone ∧ s.windowShut then .next s.closeBar else .next s

/-- HELD (R317, R318): it climbs to the root, which keeps it for the close. -/
def execHeld (t port : Nat) (f : Flit) (s : State) : Host.Outcome State Fault Refusal :=
  .next ((s.at t).rxQdr port f 7 (fun m s =>
    if s.isQRoot then (if s.barFrame ≤ m.frame then { s with qdr := { s.qdr with held := s.qdr.held ++ [m] } } else s)
    else s.sendQdr s.upPort m))

/-! ### COMPLETE at members and joiners (R274, R275, R319) -/

/-- TOPO of the image loaded and READY. -/
def State.newTopo (s : State) : Option Topo := if s.f IMG_STATE_STATE = 5 then s.staging.map Image.topo else none

/-- A COMPLETE reaches a joiner (R274, R275): it learns the job frame, sends its vote for frame F − 2, and takes verdicts. -/
def State.joinerComplete (s : State) (tp : Topo) (m : Qmsg) : State :=
  let s : State := { s with joinSeen := some m.frame }
  let sel (p : TxnPend) : Bool := p.job && p.mode == 1 && !p.voted && p.target == m.frame + 3
  let vs := (s.txnPend.filter sel).map s.voteOf
  let s := s.markVoted sel
  let s := if vs.isEmpty then s
    else s.sendQdr tp.parent { kind := 1, join := true, jobId := tp.jobId, frame := m.frame + 1, arrived := 1, votes := vs }
  let s := s.takeVerdicts m.frame m.votes
  if s.txnPend.any (fun (p : TxnPend) => p.job && p.mode == 1 && p.verdict == .commit && p.target == m.frame + 1) then
    { s.setf PAV_THR_JOB_LEVEL m.level with qdr := { s.qdr with done := some m.frame } }
  else s

/-- COMPLETE (R272, R275, R319, R322): a stopped member takes only the completion of frame s − 1. -/
def execComplete (t port : Nat) (f : Flit) (s : State) : Host.Outcome State Fault Refusal :=
  let m := qmsgOf f.payload
  .next ((s.at t).rxMsg port f 3 (fun s =>
    if m.kind ≠ 2 then s
    else if s.active then (if s.failSolo ∨ m.jobId ≠ s.f QDR_JOB_JOB_ID then s else s.takeComplete m)
    else match s.newTopo with
      | some tp => if tp.jobId = m.jobId then s.joinerComplete tp m else s
      | none => s))

/-- ROOT_LOST (R320): no COMPLETE by the local frame end at L_job + 2 × WINDOW. -/
def execRootLost (t : Nat) (s : State) : Host.Outcome State Fault Refusal :=
  let s := s.at t
  match s.topo with
  | none => .next s
  | some tp =>
    if s.active ∧ ¬ s.failSolo ∧ ¬ s.isQRoot ∧ s.qdr.member.isNone ∧ s.pav.lfeDone ∧ ¬ s.barDone ∧ ¬ s.qdr.lostSent ∧
        s.lfeAt + 2 * s.f QDR_CFG_WINDOW_NS ≤ s.now then
      let m : Qmsg := { s.failReport tp.root 4 with aux := 2 ^ 64 - 1 }
      let s : State := { s.evt QDR_EVT_ROOT_LOST with qdr := { s.qdr with lostSent := true } }
      if tp.standby = tp.self then .next ((s.loseMember tp.root).startRound [m] 4)
      else .next (s.sendQdr (if s.f QDR_TREE_DEPTH = 1 then tp.fbParent else s.f QDR_TREE_PARENT) m)
    else .next s

/-! ### Restoring (R390) -/

/-- Reload a bank from its tier N source (R149, R390). -/
def State.reloadBank (s : State) (bk src : Nat) : State :=
  let a := spd (bk / 16) (bk % 16 * 65536)
  let s : State := { s with poison := s.poison.filter (fun (p : Poison) => ¬ (a ≤ p.addr ∧ p.addr < a + 65536)) }
  s.write a (s.bytes src 65536)

/-- Banks that raised SPD_UNCORR in this round, as 16 × core + bank. -/
def State.badBanks (s : State) : List Nat :=
  (s.qdr.mine.filter (fun (x : ErrRec) => x.cause == 0x10)).map (fun x => 16 * x.unit + x.detail % 2 ^ 20 / 65536)

/-- RESTORE_DONE (R149, R390): the banks that raised SPD_UNCORR are reloaded from the tier N sources that `srcs` gives, and ARRIVE is
posted for frame s − 1. -/
def execRestoreDone (t : Nat) (srcs : List (Nat × Nat)) (s : State) : Host.Outcome State Fault Refusal :=
  let s := s.at t
  if s.active ∧ ¬ s.failSolo ∧ ¬ s.qdr.excluded ∧ s.qdr.member.isSome ∧ s.f RCV_STATE_STATE = 3 ∧ s.qdr.own.isNone then
    let s := (srcs.filter (fun x => s.badBanks.contains x.1 && decide (x.2 + 65536 ≤ 2 ^ 39))).foldl (fun s x => s.reloadBank x.1 x.2) s
    .next (State.postArrive { s with pav := { s.pav with faulted := false } })
  else .next s

/-! ### START rounds (R273, R323) -/

/-- PENDING transactions a START round decides. -/
def isStart (p : TxnPend) : Bool := p.job && p.mode == 2

/-- The START votes in hand as one message. -/
def State.startMerged (s : State) (tp : Topo) : Qmsg :=
  { (s.qdr.startVotes.map Prod.snd).foldl mergeMsg { kind := 5 } with kind := 5, jobId := tp.jobId }

/-- START_GO at a member (R273): a COMMIT brings the apply tick, anything else ends the round's transactions. -/
def State.takeGo (s : State) (tp : Topo) (m : Qmsg) : State :=
  let s := tp.kids.foldl (fun s k => s.sendQdr k.1 m) s
  let yes (p : TxnPend) : Bool := isStart p && m.votes.any (fun (v : Vote) => v.req == p.q.code && v.id == p.id && v.state == 2)
  let go := s.txnPend.any yes
  let dead := s.txnPend.filter (fun (p : TxnPend) => isStart p && !yes p)
  let keep := (s.txnPend.filter (fun (p : TxnPend) => !(isStart p && !yes p))).map (fun (p : TxnPend) => if yes p then { p with verdict := .commit } else p)
  let s := dead.foldl (fun s (p : TxnPend) => s.endTxn p.q p.id 0x0A) (s.setPend keep)
  { s with qdr := { s.qdr with startGo := s.qdr.startGo || go, startSent := s.qdr.startSent && go, startVotes := [], startFirst := none } }

/-- A START vote is in hand: a combiner passes everything on once it is complete, the root judges it (R273, R323). -/
def State.startStep (s : State) (tp : Topo) : State :=
  let below (k : Nat × List Nat) : Bool := match s.qdr.startVotes.find? (fun x => x.1 = k.1) with
    | some x => decide (k.2.length ≤ x.2.arrived)
    | none => k.2.isEmpty
  if s.qdr.startSent ∧ tp.kids.all below then
    let m := s.startMerged tp
    if tp.self = tp.root then s.takeGo tp { m with kind := 6, votes := verdicts (fun _ => tp.members.length) m.votes }
    else State.sendQdr { s with qdr := { s.qdr with startVotes := [] } } tp.parent m
  else s

/-- The first vote at the root starts START_WAIT (R273). -/
def State.putStart (s : State) (tp : Topo) (port : Nat) (m : Qmsg) : State :=
  let old := s.qdr.startVotes.find? (fun x => x.1 = port)
  let new := match old with
    | some x => mergeMsg x.2 m
    | none => m
  let vs := s.qdr.startVotes.filter (fun x => x.1 ≠ port) ++ [(port, new)]
  State.startStep { s with qdr := { s.qdr with startVotes := vs, startFirst := some (s.qdr.startFirst.getD s.now) } } tp

/-- A package whose START transaction is PENDING votes once every expected port reports MATCH (R273, R323). -/
def State.postStart (s : State) : State :=
  match s.newTopo with
  | none => s
  | some tp =>
    let ps := s.txnPend.filter isStart
    if ps.isEmpty ∨ s.qdr.startSent ∨ s.active ∨ ¬ tp.expect.all (fun p => s.f (FAB_PSTAT_REPORT p) == 1) then s
    else
      let m : Qmsg := { kind := 5, jobId := tp.jobId, arrived := 1, votes := ps.map s.voteOf }
      let s := s.markVoted isStart
      State.putStart { s with qdr := { s.qdr with startSent := true } } tp 1000 m

/-- START_VOTE (R323). -/
def execStartVote (t port : Nat) (f : Flit) (s : State) : Host.Outcome State Fault Refusal :=
  let m := qmsgOf f.payload
  .next ((s.at t).rxMsg port f 3 (fun s => match s.newTopo with
    | some tp => if m.kind = 5 ∧ m.jobId = tp.jobId then s.putStart tp port m else s
    | none => s))

/-- START_GO (R273). -/
def execStartGo (t port : Nat) (f : Flit) (s : State) : Host.Outcome State Fault Refusal :=
  let m := qmsgOf f.payload
  .next ((s.at t).rxMsg port f 3 (fun s => match s.newTopo with
    | some tp => if m.kind = 6 ∧ m.jobId = tp.jobId then s.takeGo tp m else s
    | none => s))

/-- START_WAIT_EXPIRE (R273): START_WAIT after the first vote the root ends the round with ROUND_ABORT. -/
def execStartWaitExpire (t : Nat) (s : State) : Host.Outcome State Fault Refusal :=
  let s := s.at t
  match s.newTopo, s.qdr.startFirst with
  | some tp, some a =>
    if tp.self = tp.root ∧ ¬ s.qdr.startGo ∧ a + tp.startWait * 1000000000 ≤ s.now then
      let m := s.startMerged tp
      .next (s.takeGo tp { m with kind := 6, votes := m.votes.map (fun (v : Vote) => { v with state := 3 }) })
    else .next s
  | _, _ => .next s

/-- COMMIT on a transaction port (R265); a START commit may complete this package's vote (R273). -/
def State.commitCmd (s : State) (q : Requester) (mode : Nat) (job : Bool) : State := (s.commit q mode job).postStart

/-- TXN_COMMIT (R265, R273): `mode` 0 NEXT, 1 FRAME, 2 START, 3 a reserved code answered RANGE. -/
def State.wrCommit (s : State) (q : Requester) (mode : Nat) (job : Bool) : State :=
  s.port (·.commitCmd q mode job)

/-- TXN_COMMIT: that write, as a command. -/
def execTxnCommit (t : Nat) (q : Requester) (mode : Nat) (job : Bool) (s : State) : Host.Outcome State Fault Refusal :=
  .next ((s.at t).wrCommit q mode job)

end Sys2Proof.Machine
end

