-- ==== Sys2Proof/Machine/Checks.lean ====
section
/-! DEFINITION. The shadow checker, the drift tracker, suspects and rails over time, and the error collector: R167, R171 to R173,
R354 to R361, R364 to R368, R376 to R381, R446, R471, R478, R511. -/

namespace Sys2Proof.Machine

/-! ### The start-up phase (R471) -/

/-- The phase shown changes, with its event (R509). -/
def State.setPhase (s : State) (p : Nat) : State :=
  if s.f SYS_STATUS_PHASE = p then s else (s.setf SYS_STATUS_PHASE p).evt SYS_EVT_PHASE

/-! ### Array duplicates (R358) -/

/-- The duplicate's view of one lane of a captured pass: y* and p, in unit products. -/
structure DupLane where
  exact : Num
  p     : Num

/-- Residual vector of a captured pass over its driven rows (R159 step 1), in unit products. -/
def State.dupZ (s : State) (c : Capture) : List Num :=
  (List.range (s.factRank c.arr)).map (fun k => fadd .zero (round32 (c.inputs.foldl (fun acc x =>
    numAdd acc (numMul (s.factV c.arr x.1 k) (numOfInt x.2 0))) .zero)))

/-- The sparse term of lane `j` over the driven rows (R159 step 3), in unit products. -/
def State.dupSparse (s : State) (c : Capture) (j : Nat) : Num :=
  ((s.sparse c.arr).filter (fun x => x.2.1 = j)).foldl (fun acc x => match sfind c.inputs x.1 with
    | none => acc
    | some v => numAdd acc (numMul (numOfInt x.2.2 (-4)) (numOfInt v 0))) .zero

/-- Lane `j` of a duplicate: the exact product with the W8 copy at tier N offset `a`, and p = y* − r − s. Without valid factors the
correction path adds nothing, so r and s are zero (R163). -/
def State.dupLane (s : State) (c : Capture) (a : Nat) (z : List Num) (j : Nat) : DupLane :=
  let y := c.inputs.foldl (fun acc x => numAdd acc (numMul (s.w8 a 1024 256 x.1 j) (numOfInt x.2 0))) .zero
  if s.b (COR_ACFG_FACT_VALID c.arr) then ⟨y, numAdd (numAdd y (numNeg (s.uLane c.arr j z))) (numNeg (s.dupSparse c j))⟩ else ⟨y, y⟩

/-- V = Σ x² of a captured pass. -/
def dupV (c : Capture) : Nat := (c.inputs.map (fun x => x.2.natAbs * x.2.natAbs)).sum

/-- |z| > Z / 4 for a difference d, with σ = sigma / 2^12: d² > Z² σ² V / 16. -/
def beyondZ (d : Num) (z sigma v : Nat) : Bool := numLt (.fin false (z * z * sigma * sigma * v) (-28)) (numMul d d)

/-- The sample of one shadowed pass goes into its array's tracker window (R171 to R173). -/
def State.trackPass (s : State) (c : Capture) (ls : List DupLane) : State :=
  let w := s.trk c.arr
  if s.f (COR_TRK_WIN_SAMPLES c.arr) ≤ w.passes then s
  else if ¬ c.usable then s.setTrk c.arr { w with passes := w.passes + 1 }
  else
    let ft := numOfInt (s.f (COR_GAIN_F_T c.arr)) (-14)
    let js := (List.range 256).filter (fun j => !c.mask.getD j false)
    let lane (j : Nat) : DupLane := ls.getD j ⟨.zero, .zero⟩
    let ok := js.filter (fun j => !numLt (numMul (lane j).p (lane j).p) (numOfInt 256 0))
    let sum (xs : List Nat) (f : Nat → Num) : Num := xs.foldl (fun a j => numAdd a (f j)) .zero
    let q (j : Nat) : Num := numMul ft (numOfInt (c.raw.getD j 0) 0)
    let err (j : Nat) : Num := numAdd (numOfInt (c.y.getD j 0) 0) (numNeg (lane j).p)
    s.setTrk c.arr { w with
      passes := w.passes + 1, lanes := w.lanes + ok.length,
      spp := numAdd w.spp (sum ok (fun j => numMul (lane j).p (lane j).p)),
      spq := numAdd w.spq (sum ok (fun j => numMul (lane j).p (q j))),
      err2 := numAdd w.err2 (sum js (fun j => numMul (err j) (err j))),
      ref2 := numAdd w.ref2 (sum js (fun j => numMul (lane j).exact (lane j).exact)) }

/-- The last CLEAN outcome of a unit makes the earliest frame a fault may have touched (R371). -/
def State.sinceClean (s : State) (kind unit : Nat) : Nat :=
  match sfind s.lastClean (2 ^ 32 * kind + unit) with
  | some f => f + 1
  | none => 0

/-- A CLEAN outcome. -/
def State.clean (s : State) (kind unit : Nat) : State :=
  { s.inc CHK_SHCNT_CLEAN with lastClean := sput s.lastClean (2 ^ 32 * kind + unit) s.jobFrame }

/-- A HARD outcome on a unit checked by core `c` (R360, R363, R371): one record, both units suspects. -/
def State.hard (s : State) (c kind unit detail : Nat) : State :=
  let s := (s.inc CHK_SHCNT_HARD).raiseFrom 2 0x03 kind unit detail 1 (s.sinceClean kind unit)
  { (s.suspect kind unit).suspect 3 c with pxFails := [] }

/-- A SOFT visit that has just made its array a suspect starts the cross-checks' count afresh (R363). -/
def State.named (s : State) (A : Nat) : State :=
  if sfind s.suspLast (2 ^ 32 + A) = some s.now then { s with pxFails := [] } else s

/-- One array visit of a SHADOW slot (R358 to R361). -/
def State.arrVisit (s : State) (c : Nat) (v : Word × Word) : State :=
  let slot := bits v.1.toNat 48 16
  match s.capture.find? (fun (x : Capture) => x.tile / 8 == c && x.slot == slot) with
  | none => s
  | some cap =>
    let z := s.dupZ cap
    let ls := if cap.usable then (List.range 256).map (s.dupLane cap (bits v.2.toNat 0 42) z) else []
    let s := s.trackPass cap ls
    if ¬ cap.usable then s
    else
      let far (z : Nat) : List Nat := (List.range 256).filter (fun j => !cap.mask.getD j false &&
        beyondZ (numAdd (numOfInt (cap.y.getD j 0) 0) (numNeg (ls.getD j ⟨.zero, .zero⟩).p)) z (bits v.1.toNat 32 16) (dupV cap))
      let n := (far (s.f CHK_CFG_HARD_Z)).length
      let spoil (s : State) : State := s.setTrk cap.arr { s.trk cap.arr with spoilt := true }
      if s.f CHK_CFG_HARD_LANES ≤ n then (spoil s).hard c 1 cap.arr n
      else if ¬ (far (s.f CHK_CFG_SOFT_Z)).isEmpty then (((spoil s).inc CHK_SHCNT_SOFT).addScore 1 cap.arr 1).named cap.arr
      else s.clean 1 cap.arr

/-- One wide duplicate (R356, R359, R360): `diff` is the first differing byte, none when every output byte is equal. -/
def State.wideVisit (s : State) (c nb slot : Nat) (diff : Option Nat) : State :=
  if ¬ s.ran.contains (nb, slot) ∨ s.stubbed nb then s
  else match diff with
    | none => s.clean 3 nb
    | some d => s.hard c 3 nb d

/-- The wide entries the slot visits in this frame (R356, R366). -/
def State.wideVisits (s : State) (desc nb : Nat) : List Nat :=
  match s.img with
  | none => []
  | some im =>
    let es := (im.wideVisit.drop (bits desc 0 18)).take (bits desc 37 11)
    let n := if s.observing 3 nb then 4 else 1
    if es.isEmpty then [] else (List.range n).map (fun v => bits (es.getD ((s.jobFrame * n + v) % es.length) 0).toNat 48 16)

/-- SHADOW (R354 to R361): the core's SHADOW slot runs its array and wide duplicates; `differ` gives, for each wide duplicate, the first
output byte in which the neighbour's engine and the checking one differ. -/
def execShadow (t core slot : Nat) (differ : List (Option Nat)) (s : State) : Host.Outcome State Fault Refusal :=
  let s := s.at t
  if s.slotDue core slot 7 then
    match s.shadowSlot core with
    | none => .next s
    | some (_, desc) =>
      let vs := s.visits core
      let s := vs.foldl (fun s v => s.arrVisit core v) (s.mark core slot)
      let s := match reach core (bits desc 59 3) with
        | some nb =>
          let ws := s.wideVisits desc nb
          (List.range ws.length).foldl (fun (s : State) i => s.wideVisit core nb (ws.getD i 0) (differ.getD i none)) s
        | none => s
      .next { s with capture := s.capture.filter (fun (x : Capture) => x.tile / 8 ≠ core) }
  else .next s

/-! ### The drift tracker (R171 to R173) -/

/-- A finite number as a multiple of 2^e. -/
def Num.scaled (e : Int) : Num → Int
  | .fin n m x => alignTo n m x e
  | _ => 0

/-- The exponent of a finite number. -/
def Num.exp : Num → Int
  | .fin _ _ x => x
  | _ => 0

/-- a / b as integers with a positive denominator, none where b is zero or either is not finite. -/
def numRatio (a b : Num) : Option (Int × Int) :=
  let e := min a.exp b.exp
  let d := b.scaled e
  match a, b with
  | .fin _ _ _, .fin _ _ _ => if d = 0 then none else if d < 0 then some (-(a.scaled e), -d) else some (a.scaled e, d)
  | _, _ => none

/-- The nearest Q2.14 code of n / d. -/
def q14 (n d : Int) : Nat := (max 0 (min 65535 (divAway (n * 16384) d.toNat))).toNat

/-- A DRIFT cause: a READY array enters FLAGGED; the DRIFT_FLAG record is raised in any state (R168, R172, R173, R379,
R528). -/
def State.driftFlag (s : State) (A reason : Nat) : State := (s.flag A 2 0 reason).raise 0 0x26 1 A reason

/-- ε² of two windows in units of 10^−8, as a numerator and denominator. -/
def rmsRatio (w : TrkWin) : Int × Int := (numRatio (numAdd w.err2 w.pErr2) (numAdd w.ref2 w.pRef2)).getD (0, 1)

/-- Accept a window (R172, R173). -/
def State.acceptWindow (s : State) (A : Nat) (w : TrkWin) (g p : Int × Int) : State :=
  let r := rmsRatio w
  let x := (r.1 * 10 ^ 8 * 4 / r.2).toNat
  let thr : Int := s.f (COR_ACFG_REPROG_THR A)
  let s := ((s.inc (COR_TRK_ACCEPTS A)).setf (COR_TRK_REJ_RUN A) 0).setf (COR_ERR_RMS_LAST A) (min 65535 ((isqrt x + 1) / 2))
  let s : State := { s with trkPrev := serase s.trkPrev A, trkNext := sput s.trkNext A (q14 (g.1 * p.2 + p.1 * g.2) (2 * g.2 * p.2)) }
  s.when (decide (thr * thr * r.2 < r.1 * 10 ^ 8)) (·.driftFlag A 2)

/-- Judge a completed window that is not void (R172). An estimate whose sums leave it undefined is a free value. -/
def State.judgeWindow (s : State) (A : Nat) (w : TrkWin) : State :=
  let free := (numRatio w.spp w.spq).isNone
  let g := (numRatio w.spp w.spq).getD ((s.fresh % 65536 : Nat), 16384)
  let s := (s.when free State.used).setf (COR_TRK_EST_LAST A) (q14 g.1 g.2)
  let keep (s : State) : State := { s with trkPrev := sput s.trkPrev A g }.setTrk A { pErr2 := w.err2, pRef2 := w.ref2 }
  match sfind s.trkPrev A with
  | none => keep s
  | some p =>
    if 250 * (g.1 * p.2 - p.1 * g.2).natAbs ≤ p.1 * g.2 then (s.setTrk A {}).acceptWindow A w g p
    else
      let run := s.f (COR_TRK_REJ_RUN A)
      let s := (keep s).setf (COR_TRK_REJ_RUN A) (min 8 (run + 1))
      s.when (run == 7) (·.driftFlag A 1)

/-- TRACKER_WINDOW (R171 to R173, R361): WIN_SAMPLES shadowed passes of the array have run. -/
def execTrackerWindow (t arr : Nat) (s : State) : Host.Outcome State Fault Refusal :=
  let s := s.at t
  let w := s.trk arr
  if s.active ∧ s.f (COR_TRK_WIN_SAMPLES arr) ≤ w.passes then
    if w.spoilt ∨ w.lanes < 128 * s.f (COR_TRK_WIN_SAMPLES arr) ∨ w.comp < 16 * w.mism then
      .next ((s.inc (COR_TRK_VOIDS arr)).setTrk arr { pErr2 := w.pErr2, pRef2 := w.pRef2 })
    else .next (s.judgeWindow arr w)
  else .next s

/-! ### Suspects, scores and rails over time (R167, R364, R367, R368, R446) -/

/-- Run `k` when `c` holds and marker `m` has not been set in this frame. -/
def State.once (s : State) (m : Nat) (c : Bool) (k : State → State) : State :=
  if c ∧ ¬ s.done.contains m ∧ s.power = .on then k { s with done := s.done ++ [m] } else s

/-- Region n's offset in steps becomes `k`, and its effective code follows (R367, R446). -/
def State.setRail (s : State) (n k : Nat) : State := (s.setf (CHK_RAIL n) k).setf (PWR_VEFF n) (min 16 (s.f (PWR_VCORE n) + k))

/-- One step more for region n, unless 4 steps or 0.85 V are reached (R367). -/
def State.railUp (s : State) (n : Nat) : State :=
  if 4 ≤ s.f (CHK_RAIL n) ∨ 16 ≤ s.f (PWR_VCORE n) + s.f (CHK_RAIL n) then s.evt CHK_EVT_RAIL_MAX else s.setRail n (s.f (CHK_RAIL n) + 1)

/-- Free an entry of the suspect table. -/
def State.freeSuspect (s : State) (i : Nat) : State :=
  (((s.setf (CHK_SUSP_STATE i) 0).setf (CHK_SUSP_KIND i) 0).setf (CHK_SUSP_SINCE i) 0).setf (CHK_SUSP_UNIT i) 0

/-- SUSPECT_EXPIRE (R368): OBS_FRAMES frames of OBSERVING without a further event. -/
def execSuspectExpire (t entry : Nat) (s : State) : Host.Outcome State Fault Refusal :=
  let s := s.at t
  if entry < 16 ∧ s.f (CHK_SUSP_STATE entry) = 1 ∧ s.since entry + s.f CHK_OBS_OBS_FRAMES ≤ s.jobFrame then .next (s.freeSuspect entry)
  else .next s

/-- SCORE_DECAY (R364): at a tick whose job frame is a multiple of 64 every soft score halves. -/
def execScoreDecay (t : Nat) (s : State) : Host.Outcome State Fault Refusal :=
  .next ((s.at t).once 1 (s.jobFrame % 64 == 0) (fun s => { s with score := (s.score.map (fun x => (x.1, x.2 / 2))).filter (fun x => x.2 ≠ 0) }))

/-- RAIL_DECAY (R367): RAIL_DECAY frames without a suspect event take one step off. -/
def execRailDecay (t region : Nat) (s : State) : Host.Outcome State Fault Refusal :=
  let s := s.at t
  let last := (sfind s.lastSusp region).getD 0
  if region < 32 ∧ 0 < s.f (CHK_RAIL region) ∧ last + s.f CHK_OBS_RAIL_DECAY ≤ s.jobFrame then
    .next { s.setRail region (s.f (CHK_RAIL region) - 1) with lastSusp := sput s.lastSusp region s.jobFrame }
  else .next s

/-- One array's unrepaired count against its core's limit (R167). -/
def State.satpArr (s : State) (A : Nat) : State :=
  let n := s.f (COR_ERR_SATP_CNT A)
  if n = 0 then s
  else
    let s := s.setf (COR_ERR_SATP_CNT A) 0
    s.when (decide (s.f (COR_SATP_SATP_LIMIT (A / 32)) ≤ n)) (fun s =>
      (s.setf (COR_EVT_LAST_ARRAY (A / 32)) (A % 32)).evt (COR_EVT_SAT_PRESSURE (A / 32)))

/-- SATP_CHECK (R167): at a tick whose frame number is a multiple of 256. -/
def execSatpCheck (t : Nat) (s : State) : Host.Outcome State Fault Refusal :=
  .next ((s.at t).once 2 (s.frame % 256 == 0) (fun s => (List.range 32768).foldl State.satpArr s))

/-! ### The error collector (R376 to R381, R511) -/

/-- A record's 32 bytes at the collector (R377). -/
def State.recBytes (s : State) (r : ErrRec) : List Nat :=
  [r.sev, r.cause, r.kind, r.flags] ++ leBytes 4 r.unit ++ leBytes 8 r.detail ++ leBytes 8 s.now ++ leBytes 4 r.frame ++ leBytes 4 r.sfrom

/-- The record goes into the log ring, if it has one and room (R380). -/
def State.logRec (s : State) (r : ErrRec) : State :=
  let lg := s.f CHK_LOGSZ_LOG2
  if lg = 0 then s
  else
    let head := s.f CHK_LOGHEAD_HEAD
    let free := 2 ^ lg - (head + 2 ^ 32 - s.f CHK_LOGTAIL_TAIL) % 2 ^ 32
    if free < (if r.sev < 2 then 16 else 1) then (s.inc CHK_LOGHEAD_DROPPED).evt CHK_EVT_LOG_DROP
    else (s.write (s.f CHK_LOGBASE_ADDR + 32 * (head % 2 ^ lg)) (s.recBytes r)).setf CHK_LOGHEAD_HEAD ((head + 1) % 2 ^ 32)

/-- The counter and the event of each severity. -/
def sevCount (n : Nat) : Fld := match n with | 0 => CHK_SEV_CORRECTED | 1 => CHK_SEV_DEGRADED | 2 => CHK_SEV_JOB_FAULT | _ => CHK_SEV_FATAL
def sevEvt (n : Nat) : Fld := match n with | 0 => CHK_EVT_CORRECTED | 1 => CHK_EVT_DEGRADED | 2 => CHK_EVT_JOB_FAULT | _ => CHK_EVT_FATAL

/-- The record as the package takes it: a JOB_FAULT without an active image is CORRECTED with NO_IMAGE (R378). -/
def State.asTaken (s : State) (r : ErrRec) : ErrRec :=
  if r.sev = 2 ∧ ¬ s.active then { r with sev := 0, flags := r.flags + 4, sfrom := r.frame } else r

/-- What a JOB_FAULT or FATAL record sets off: SYS_ERR, SUSPECT_FROM, ABORT for the first of a round (R321, R376, R511). A member
declared failed has its round already (R318, R389). -/
def State.faultRec (s : State) (r : ErrRec) : State :=
  let bs := s.recBytes r
  let s := (List.range 4).foldl (fun s w => s.setf (SYS_ERR_REC w) (leNat ((bs.drop (8 * w)).take 8))) s
  let s := s.setf CHK_SFROM_FRAME (min (s.f CHK_SFROM_FRAME) r.sfrom)
  if s.active ∧ ¬ s.failSolo then
    let s : State := { s with qdr := { s.qdr with mine := s.qdr.mine ++ [r] } }
    if s.qdr.told ∨ r.cause = 0x1E then s else State.sendAbort { s with qdr := { s.qdr with told := true } } r
  else s

/-- A FATAL record other than AUDIT_FAIL holds the package in HALTED (R478). -/
def State.fatalRec (s : State) (r : ErrRec) : State :=
  if r.cause = 0x29 then s else { s with halted := true }.setPhase 6

/-- One record at the collector (R376 to R380). -/
def State.collect (s : State) (r0 : ErrRec) : State :=
  let r := s.asTaken r0
  let again := r.sev == 0 && s.logSeen.contains (r.cause, r.kind * 2 ^ 32 + r.unit, r.frame)
  let s := if again then s else s.logRec r
  let s := s.when (r.sev == 0 && !again) (fun s => { s with
    logSeen := s.logSeen.filter (fun x => decide (s.jobFrame ≤ x.2.2)) ++ [(r.cause, r.kind * 2 ^ 32 + r.unit, r.frame)] })
  let s := ((s.inc (sevCount r.sev)).inc (CHK_CDATA_COUNT r.cause)).setf (CHK_CDATA_LAST_UNIT r.cause) r.unit
  let s := (s.when (decide (2 ≤ r.sev)) (·.faultRec r)).evt (sevEvt r.sev)
  s.when (r.sev == 3) (·.fatalRec r)

/-- ERROR_RECORD (R376): the record at place `idx` of those on their way reaches the hub collector. -/
def execErrorRecord (t idx : Nat) (s : State) : Host.Outcome State Fault Refusal :=
  let s := s.at t
  match s.records[idx]? with
  | none => .next s
  | some r => .next (State.collect { s with records := s.records.eraseIdx idx } r)

/-- SYS_ERR_READ (R511): a read of SYS_ERR0 captures all four registers; the others give the capture. -/
def execSysErrRead (t w : Nat) (s : State) : Host.Outcome State Fault Refusal :=
  let s := s.at t
  if s.power ≠ .on then .next s
  else if w = 0 then
    let cap := (List.range 4).map (fun i => s.f (SYS_ERR_REC i))
    .next { s with errCap := cap, lastRead := BitVec.ofNat 64 (cap.getD 0 0) }
  else .next { s with lastRead := BitVec.ofNat 64 (s.errCap.getD w 0) }

end Sys2Proof.Machine
end

