-- ==== Sys2Proof/Machine/Mesh.lean ====
section
/-! DEFINITION. The on-chip network, its clock regions, and units that are reset, drained and powered: R282 to R292, R297, R298,
R405 to R407. -/

namespace Sys2Proof.Machine

/-! ### Paths (R279, R284, R285) -/

/-- Cores of a die on the way along x from `x0` to `x1` in row `y`, both ends included. -/
def alongX (die y x0 x1 : Nat) : List Nat :=
  if x0 ≤ x1 then (List.range (x1 - x0 + 1)).map (fun i => coreAt die (x0 + i) y) else (List.range (x0 - x1 + 1)).map (fun i => coreAt die (x0 - i) y)

/-- Cores of a die on the way along y in column `x`. -/
def alongY (die x y0 y1 : Nat) : List Nat :=
  if y0 ≤ y1 then (List.range (y1 - y0 + 1)).map (fun i => coreAt die x (y0 + i)) else (List.range (y0 - y1 + 1)).map (fun i => coreAt die x (y0 - i))

/-- An XY path on one die. -/
def pathXY (a b : Nat) : List Nat := alongX (coreDie a) (coreY a) (coreX a) (coreX b) ++ alongY (coreDie a) (coreX b) (coreY a) (coreY b)

/-- A YX path on one die. -/
def pathYX (a b : Nat) : List Nat := alongY (coreDie a) (coreX a) (coreY a) (coreY b) ++ alongX (coreDie a) (coreY b) (coreX a) (coreX b)

/-- A path by ORDER: 0 XY, 1 YX, 2 XY to the waypoint and on (R285). -/
def pathBy (order wp a b : Nat) : List Nat :=
  match order with
  | 0 => pathXY a b
  | 1 => pathYX a b
  | _ => pathXY a wp ++ pathXY wp b

/-- A route entry's fields (R284). -/
structure Route where
  srcN  : Bool
  dstN  : Bool
  src   : Nat
  dst   : Nat
  len   : Nat
  srcAt : Nat
  dstAt : Nat
  order : Nat
  wp    : Nat
  edge  : Nat
  col   : Nat
  tier  : Nat

/-- Read a route entry. -/
def routeOf (w : Word × Word × Word) : Route :=
  let a := w.1.toNat
  let b := w.2.1.toNat
  ⟨bits a 62 2 == 1, bits a 60 2 == 1, bits a 50 10, bits a 40 10, bits a 0 32, 8 * bits b 47 17, 8 * bits b 30 17, bits b 28 2, bits b 18 10,
   bits b 11 1, bits b 6 5, bits w.2.2.toNat 0 42⟩

/-- The core at the route's ring port on a die (R285). -/
def Route.port (r : Route) (die : Nat) : Nat := coreAt die r.col (if r.edge = 0 then 0 else 15)

/-- The routers a route crosses (R285). -/
def Route.path (r : Route) : List Nat :=
  if r.srcN ∧ r.dstN then []
  else if r.srcN then pathBy r.order r.wp (r.port (coreDie r.dst)) r.dst
  else if r.dstN then pathBy r.order r.wp r.src (r.port (coreDie r.src))
  else if coreDie r.src = coreDie r.dst then pathBy r.order r.wp r.src r.dst
  else pathBy r.order r.wp r.src (r.port (coreDie r.src)) ++ pathBy r.order r.wp (r.port (coreDie r.dst)) r.dst

/-- The core in whose table the route's slot sits (R285). -/
def Route.home (r : Route) : Nat := if r.srcN then r.dst else r.src

/-- The route delivers no whole trailer: a router on it is in reset, dark or failed in self-test, or its end is a stub (R289, R297). -/
def State.routeCut (s : State) (r : Route) : Bool :=
  r.path.any (fun c => s.b (RCV_EPDATA_IN_RESET 2 c) || s.dark c || s.boot.routers.contains c) || (!r.dstN && s.stubbed r.dst)

/-- The route entry a STREAM slot names (R284). -/
def State.routeAt (s : State) (core slot : Nat) : Option Route :=
  let d := slotDesc (s.entry core slot)
  if bits d 23 1 = 1 then (s.img.bind (fun im => im.routes[bits d 0 23]?)).map routeOf else none

/-! ### Streams (R282, R289) -/

/-- A failed beat: its link is counted and its words arrive poisoned (R282). -/
def State.badBeat (s : State) (at_ link : Nat) : State :=
  let ws := (List.range 8).map (fun i => (⟨at_ + 8 * i, 0x11, link⟩ : Poison))
  { s.inc (CHK_NDATA_CRC_ERRS link) with poison := s.poison.filter (fun (p : Poison) => ¬ (at_ ≤ p.addr ∧ p.addr < at_ + 64)) ++ ws }

/-- Poison of the source range, moved to the destination. -/
def State.carryPoison (s : State) (src dst n : Nat) : State :=
  let moved := (s.poison.filter (fun (p : Poison) => src ≤ p.addr ∧ p.addr < src + n)).map (fun (p : Poison) => { p with addr := dst + (p.addr - src) })
  { s with poison := s.poison.filter (fun (p : Poison) => ¬ (dst ≤ p.addr ∧ p.addr < dst + n)) ++ moved }

/-- STREAM_SHORT (R289). -/
def State.streamShort (s : State) (core desc : Nat) : State := s.raise 2 0x12 3 core (bits desc 0 23)

/-- Read the source of a route: scratchpad or tier N. -/
def State.routeRead (s : State) (r : Route) (errs : List WordErr) (lines : List Nat) : Rd :=
  if r.srcN then s.readTier false r.tier r.len lines else s.readSpd r.src 0 r.srcAt r.len errs

/-- STREAM_ROUTE (R282, R285, R289, R297): the slot moves its route's bytes; `bad` are beats that failed their CRC, with the link that
each failed on, `errs` bit errors in the source's words and `lines` uncorrectable tier N lines. -/
def execStreamRoute (t core slot : Nat) (bad : List (Nat × Nat)) (errs : List WordErr) (lines : List Nat) (s : State) :
    Host.Outcome State Fault Refusal :=
  let s := s.at t
  match s.routeAt core slot with
  | none => .next s
  | some r =>
    if s.slotDue core slot 3 ∧ r.home = core then
      let desc := slotDesc (s.entry core slot)
      let s := s.mark core slot
      if s.routeCut r then .next (s.streamShort (if r.dstN then core else r.dst) desc)
      else
        let rd := s.routeRead r errs lines
        let src := if r.srcN then r.tier else spd r.src r.srcAt
        let dst := if r.dstN then r.tier else spd r.dst r.dstAt
        let s := (if r.dstN then rd.s.write r.tier rd.bs else rd.s.writeSpd r.dst 0 r.dstAt rd.bs).carryPoison src dst r.len
        .next ((bad.filter (fun b => decide (64 * b.1 < r.len))).foldl (fun s b => s.badBeat (dst + 64 * b.1) b.2) s)
    else .next s

/-! ### Clock regions (R291, R292) -/

/-- The link from a core in a direction (KIND NOC_LINK) crosses a region boundary (R279). -/
def crossing (link : Nat) : Bool :=
  match reach (link / 4) (link % 4 + 1) with
  | some c => c / 32 != link / 4 / 32
  | none => false

/-- CDC_SLIP (R291): the pointers of a crossing have come within one entry. -/
def execCdcSlip (t link : Nat) (s : State) : Host.Outcome State Fault Refusal :=
  let s := s.at t
  if s.power = .on ∧ crossing link then .next (s.raise 2 0x13 6 link 0) else .next s

/-- A region's PLL has lost lock (R292, R447). -/
def State.pllLoss (s : State) (n : Nat) : State :=
  if s.pllLost.contains n then s else { s with pllLost := s.pllLost ++ [n] }.raise 2 0x14 5 n 0

/-- PLL_UNLOCK (R292). -/
def execPllUnlock (t region : Nat) (s : State) : Host.Outcome State Fault Refusal :=
  let s := s.at t
  if s.power = .on ∧ region < 32 then .next (s.pllLoss region) else .next s

/-! ### Units in use -/

/-- The tile a STREAM slot's transfer descriptor names (R133). -/
def State.xferTile (s : State) (c i : Nat) : Option Nat :=
  match s.xferDesc c i with
  | some (w0, _) => if bits w0 62 2 = 3 then none else some (bits w0 55 3)
  | none => none

/-- The combination in force uses tile `t` of core `c`. -/
def State.usesTile (s : State) (c t : Nat) : Bool :=
  (s.slotIdxs c).any (fun i =>
    let e := s.entry c i
    (slotClass e == 1 && slotTarget e / 4 % 8 == t) || (slotClass e == 6 && slotTarget e % 8 == t) ||
    (slotClass e == 3 && s.xferTile c i == some t))

/-- It uses core `c`'s wide engine: WIDE, SHADOW and REPAIR slots. -/
def State.usesWide (s : State) (c : Nat) : Bool := (s.slotIdxs c).any (fun i => [2, 7, 8].contains (slotClass (s.entry c i)))

/-- It uses core `c`: a slot of its table that is not EMPTY. -/
def State.usesCore (s : State) (c : Nat) : Bool := (s.slotIdxs c).any (fun i => slotClass (s.entry c i) != 0)

/-- It uses the unit of enable bit `n` of RCV_UPWR (R407). -/
def State.usesUnit (s : State) (c n : Nat) : Bool :=
  s.active && (if n < 8 then s.usesTile c n else if n < 16 then s.usesTile c (n - 8) else if n = 16 then s.usesWide c else s.usesCore c)

/-! ### Reset of a part (R405, R406) -/

/-- The epoch of a part rises (R405): kind 0 core, 1 tile, 2 router, 3 Larkspur. -/
def State.epochUp (s : State) (k i : Nat) : State := s.setf (RCV_EPDATA_EPOCH k i) ((s.f (RCV_EPDATA_EPOCH k i) + 1) % 2 ^ 16)

/-- The unit kind of a record for a part (R377). -/
def partKind (k : Nat) : Nat := match k with | 0 => 3 | 1 => 2 | 2 => 4 | _ => 13

/-- A reply that carries an epoch from before the part's reset is discarded (R405). -/
def State.staleReply (s : State) (k i old : Nat) : State :=
  if s.active ∧ k ≠ 3 then s.raise 2 0x25 (partKind k) i old else s.inc RCV_STALE_STALE_REPLIES

/-- A reset of Larkspur discards its open transaction and its watchdog; its PENDING ones stay (R268, R405). -/
def State.larkspurDown (s : State) : State := { s.setOpen .larkspur none with lspIn := [] }

/-- A part's reset starts (R405, R406); `late` says that a reply of it was still on its way. -/
def State.resetPart (s : State) (k i : Nat) (late : Bool) : State :=
  let old := s.f (RCV_EPDATA_EPOCH k i)
  let s := (s.epochUp k i).setf (RCV_EPDATA_IN_RESET k i) 1
  let s := s.when (k == 3) (·.larkspurDown)
  s.when late (·.staleReply k i old)

/-- The part selected by a requester's RCV_EPSEL (R410). -/
def State.epSel (s : State) (q : Requester) : Nat × Nat :=
  (s.f ⟨selCopy 0xA00050 q.code, 16, 2⟩, if s.f ⟨selCopy 0xA00050 q.code, 16, 2⟩ = 3 then 0 else s.f ⟨selCopy 0xA00050 q.code, 0, 13⟩)

/-- UNIT_RESET (R405, R406): a write of RCV_EPDATA.RESET for the part the requester has selected. -/
def State.wrUnitReset (s : State) (q : Requester) (late : Bool) : State :=
  s.guarded q 0xA00058 false true (fun s => s.resetPart (s.epSel q).1 (s.epSel q).2 late)

/-- UNIT_RESET: that write, as a command. -/
def execUnitReset (t : Nat) (q : Requester) (late : Bool) (s : State) : Host.Outcome State Fault Refusal :=
  .next ((s.at t).wrUnitReset q late)

/-- UNIT_RESET_END (R298, R406): the part's reset ends. -/
def execUnitResetEnd (t kind idx : Nat) (s : State) : Host.Outcome State Fault Refusal :=
  let s := s.at t
  if kind < 4 ∧ s.b (RCV_EPDATA_IN_RESET kind idx) then .next (s.setf (RCV_EPDATA_IN_RESET kind idx) 0) else .next s

/-! ### Unit enables (R407, R410) -/

/-- The enable, DRAINING and PEND_ON bits of unit `n`: 0 to 7 tiles, 8 to 15 their banks, 16 the wide engine, 17 the core. -/
def upEn (c n : Nat) : Fld := ⟨upwrBank c, n, 1⟩
def upDraining (c n : Nat) : Fld := ⟨upwrBank c, 18 + n, 1⟩
def upPend (c n : Nat) : Fld := ⟨upwrBank c, 36 + n, 1⟩

/-- One enable bit is written (R407): the last value written during a drain wins. -/
def State.writeEn (s : State) (c n v : Nat) : State :=
  if s.b (upDraining c n) then s.setf (upPend c n) v
  else if v = 1 then s.setf (upEn c n) 1
  else if s.b (upEn c n) then (s.setf (upEn c n) 0).setf (upDraining c n) 1
  else s

/-- UNIT_EN_WRITE (R407): a write of RCV_UPWR for the core the requester has selected. -/
def State.wrUnitEn (s : State) (q : Requester) (val : Word) : State :=
  let c := s.f ⟨selCopy 0xA00060 q.code, 0, 10⟩
  let v := val.toNat
  let ok := (List.range 18).all (fun n => bits v n 1 == 1 || !s.usesUnit c n)
  (s.guarded q 0xA00068 false ok (fun s => (List.range 18).foldl (fun s n => s.writeEn c n (bits v n 1)) s))

/-- UNIT_EN_WRITE: that write, as a command. -/
def execUnitEnWrite (t : Nat) (q : Requester) (val : Word) (s : State) : Host.Outcome State Fault Refusal :=
  .next ((s.at t).wrUnitEn q val)

/-- Held results of a tile merge as they are when it drains (R407). -/
def State.drainTile (s : State) (T : Nat) : State :=
  let mine := s.held.filter (fun (h : Held) => h.tile = T)
  let s := mine.foldl (fun s (h : Held) => s.merge h.tile h.group (if h.split then List.replicate 256 0 else h.lanes) h.e) s
  { s with held := s.held.filter (fun (h : Held) => h.tile ≠ T) }.setf (CNV_STAT_POWERED T) 0

/-- UNIT_DRAIN_DONE (R407): the unit powers down, and up again where PEND_ON is set. -/
def execUnitDrainDone (t core n : Nat) (s : State) : Host.Outcome State Fault Refusal :=
  let s := s.at t
  if n < 18 ∧ s.b (upDraining core n) then
    let s := s.setf (upDraining core n) 0
    let s := if n < 8 then s.drainTile (8 * core + n) else if n < 16 then s.setf (CNV_STAT_POWERED (8 * core + n - 8)) 0
      else if n = 17 then (List.range 8).foldl (fun s i => s.drainTile (8 * core + i)) s else s
    if s.b (upPend core n) then .next (((s.setf (upPend core n) 0).setf (upEn core n) 1).evt RCV_EVT_PEND_APPLIED) else .next s
  else .next s

end Sys2Proof.Machine
end

