-- ==== Sys2Proof/Machine/Validate.lean ====
section
/-! DEFINITION. What the loader checks in an image before it touches an array: the container (R250, R251) and the validator's checks
of what the spec gives a layout (R23, R30 to R34, R43, R77, R95, R109, R131, R133, R137, R143, R144, R158, R253, R255 to R258, R260,
R285, R296, R310, R354, R357, R401). What only the compiler's own layouts hold is the verdict operand of the load's commands
(notes/assumptions/16.md). -/

namespace Sys2Proof.Machine

/-! ### The container (R250, R251) -/

/-- The nine section types as four characters, shorter names padded with spaces and longer ones cut (notes/assumptions/17.md). -/
def sectTypes : List (List Nat) := [
  [0x54, 0x4F, 0x50, 0x4F], [0x4D, 0x41, 0x50, 0x20], [0x41, 0x52, 0x52, 0x20], [0x57, 0x49, 0x44, 0x45], [0x53, 0x43, 0x48, 0x45],
  [0x52, 0x4F, 0x55, 0x54], [0x50, 0x41, 0x54, 0x43], [0x53, 0x45, 0x52, 0x56], [0x53, 0x49, 0x47, 0x20]]

/-- Offset and size of section type `k` of the image at tier N offset `b`; none where the table does not name it once. -/
def State.sect (s : State) (b k : Nat) : Option (Nat × Nat) :=
  match (List.range 9).filter (fun i => s.bytes (b + 64 + 32 * i) 4 == sectTypes.getD k []) with
  | [i] => some (s.num (b + 72 + 32 * i) 8, s.num (b + 80 + 32 * i) 8)
  | _ => none

/-- A section's place, 0 and 0 where it is missing. -/
def State.sectAt (s : State) (b k : Nat) : Nat × Nat := (s.sect b k).getD (0, 0)

/-- HEADER (R259): MAGIC, FMT_MAJOR, N_SECT, LENGTH and HDR_CRC. -/
def State.headerOk (s : State) (b : Nat) : Bool :=
  let n := s.num (b + 32) 8
  s.bytes b 4 == [0x47, 0x52, 0x54, 0x49] && s.byte (b + 4) == 1 && s.num (b + 6) 2 == 9 && decide (n ≤ 48 * 2 ^ 30) && decide (b + n ≤ 2 ^ 39) &&
    crc32 (s.bytes b 44 ++ [0, 0, 0, 0] ++ s.bytes (b + 48) (16 + 288)) == s.num (b + 44) 4

/-- TARGET (R259): the part and the stepping. -/
def State.targetOk (s : State) (b : Nat) : Bool :=
  s.num (b + 8) 2 == 0x5A08 && decide (s.byte (b + 10) ≤ 0xB0) && decide (0xB0 ≤ s.byte (b + 11))

/-- SECTIONS (R259): R250 and R251; TOPO, MAP, SCHED, ROUTE, SERV and SIG may not be empty. -/
def State.sectionsOk (s : State) (b : Nat) : Bool :=
  let n := s.num (b + 32) 8
  let xs := (List.range 9).filterMap (s.sect b)
  decide (xs.length = 9) && xs.all (fun x => x.1 % 64 == 0 && decide (64 + 288 ≤ x.1) && decide (x.1 + x.2 ≤ n)) &&
    (List.range 9).all (fun i => (List.range i).all (fun j =>
      let x := s.sectAt b i
      let y := s.sectAt b j
      decide (x.1 + x.2 ≤ y.1) || decide (y.1 + y.2 ≤ x.1))) &&
    [0, 1, 4, 5, 7, 8].all (fun k => (s.sectAt b k).2 != 0) &&
    ((List.range 8).all (fun k => decide ((s.sectAt b k).1 ≤ (s.sectAt b 8).1)) && (s.sectAt b 8).1 + (s.sectAt b 8).2 == n)

/-- Which section the table's entry `i` names; 9 for none. -/
def State.sectType (s : State) (b i : Nat) : Nat := sectTypes.findIdx (· == s.bytes (b + 64 + 32 * i) 4)

/-- Where the section of the table's entry `i` lies in the image. -/
def State.sectSpan (s : State) (b i : Nat) : Nat × Nat := (s.num (b + 72 + 32 * i) 8, s.num (b + 80 + 32 * i) 8)

/-- The table's entry `i` breaks R250 or R251 by itself, or names a type that an earlier one names. -/
def State.badSectEntry (s : State) (b i : Nat) : Bool :=
  let k := s.sectType b i
  let x := s.sectSpan b i
  k == 9 || (List.range i).any (fun j => s.sectType b j == k) || x.1 % 64 != 0 || decide (x.1 < 64 + 288) || decide (s.num (b + 32) 8 < x.1 + x.2) ||
    (x.2 == 0 && [0, 1, 4, 5, 7, 8].contains k)

/-- The offset of the first section entry that breaks the rules of the container: by itself, by an overlap, or as SIG, which lies last. -/
def State.badSect (s : State) (b : Nat) : Nat :=
  let meet (i j : Nat) : Bool :=
    let x := s.sectSpan b i
    let y := s.sectSpan b j
    i != j && decide (y.1 < x.1 + x.2) && decide (x.1 < y.1 + y.2)
  let i := match (List.range 9).find? (s.badSectEntry b) with
    | some i => i
    | none => match (List.range 9).find? (fun i => (List.range 9).any (meet i)) with
      | some i => i
      | none => (List.range 9).findIdx (fun i => s.sectType b i == 8)
  64 + 32 * i

/-! ### ARR (R253) -/

/-- Tier N offsets of the records of ARR: each starts on the 64-byte boundary after the one before it. -/
def State.arrRecs (s : State) (a e : Nat) : Nat → List Nat
  | 0 => []
  | fuel + 1 =>
    if e ≤ a then []
    else a :: (if s.num (a + 16) 4 = 0 then [] else s.arrRecs (a + (s.num (a + 16) 4 + 63) / 64 * 64) e fuel)

/-- Records of the image at `b`; 32,768 arrays bound them. -/
def State.records_ (s : State) (b : Nat) : List Nat :=
  let x := s.sectAt b 2
  s.arrRecs (b + x.1) (b + x.1 + x.2) 32769

/-- The array a record's LOC names. -/
def State.recLoc (s : State) (a : Nat) : Nat := s.num (a + 6) 2 % 2 ^ 15

/-- The first record that breaks R253, as its offset in the image. -/
def State.badRecord (s : State) (b : Nat) : Option Nat :=
  let rs := s.records_ b
  (rs.find? (fun a => !s.recordOk a || decide (2 ^ 15 ≤ s.num (a + 6) 2) || decide (1 < (rs.filter (fun x => s.recLoc x == s.recLoc a)).length))).map
    (· - b)

/-! ### The image under one combination -/

/-- The value a register takes at the image's commit (R255): the last entry's, or the reset value. -/
def regAt (im : Image) (a : Nat) : Nat :=
  match (im.regList.filter (fun (e : RegEntry) => e.off == a)).getLast? with
  | some e => e.val
  | none => (resetVal a).toNat

/-- The package with one combination in force. -/
def State.trial (s : State) (im : Image) (c : Combo) : State :=
  State.putPatches (({ s with img := some im }.setf IMG_STATE_STATE 6).setf PAV_SEL_VARIANT c.variant) c.patches

/-- The permitted combinations (R257). -/
def combosOf (im : Image) : List Combo :=
  if im.patches.isEmpty ∧ im.combos.isEmpty then (List.range im.scheds.length).map (fun v => ⟨v, []⟩) else im.combos

/-- Every slot in force as (core, index, entry). -/
def State.slots (s : State) : List (Nat × Nat × Nat) :=
  (List.range 1024).flatMap (fun c => (s.slotIdxs c).filterMap (fun i =>
    let e := s.entry c i
    if slotClass e = 0 then none else some (c, i, e)))

/-- One past a slot's last pass. -/
def slotEnd (e : Nat) : Nat := slotStart e + slotLen e

/-- Two slots share a pass. -/
def overlap (a b : Nat) : Bool := decide (slotStart a < slotEnd b) && decide (slotStart b < slotEnd a)

/-! ### The checks, by code (R260) -/

/-- LAYOUT: combinations and recovery entries name variants and patches the image holds; descriptors lie in their tables. -/
def layoutOk (im : Image) : Bool :=
  im.combos.all (fun (c : Combo) => decide (c.variant < im.scheds.length) && decide (c.patches.length ≤ 8) && c.patches.all (fun p => decide (p < im.patches.length))) &&
    im.recover.all (fun (e : RecEntry) => decide (e.patch < im.patches.length) && (decide (e.patch2 < im.patches.length) || e.patch2 == 0xFFFF)) &&
    !im.scheds.isEmpty

/-- LAYOUT, slot by slot: the descriptor a slot names lies in its table. -/
def State.descOk (s : State) (e : Nat) : Bool :=
  match s.sched, s.img with
  | some sc, some im =>
    (match slotClass e with
      | 1 => decide (slotDesc e < sc.tile.length)
      | 2 => decide (slotDesc e < sc.wide.length)
      | 3 => if bits (slotDesc e) 23 1 = 1 then decide (slotDesc e % 2 ^ 23 < im.routes.length) else decide (slotDesc e < sc.xfer.length)
      | 4 => decide (slotDesc e < im.sends.length)
      | 5 => decide (slotDesc e < im.bufs.length)
      | 7 => decide (slotDesc e < sc.shadow.length)
      | 10 => decide (slotDesc e < im.bufs.length)
      | _ => true)
  | _, _ => false

/-- SLOT_FORM of one slot (R30, R33, R34, R310): `n` passes and `w` work passes. -/
def State.formOk (s : State) (n w : Nat) (x : Nat × Nat × Nat) : Bool :=
  let e := x.2.2
  let cls := slotClass e
  decide (cls ≤ 10) && decide (slotEnd e ≤ (if cls = 9 then n else w)) && decide (x.2.1 < 65536) &&
    (cls != 1 || decide (1 ≤ slotStart e)) && (cls != 10 || slotLen e == 1) &&
    (cls != 4 || (match s.img.bind (fun im => im.sends[slotDesc e]?) with
      | some d => decide (slotTarget e < 72) && decide ((bits d.1.toNat 23 21 + 223) / 224 ≤ 23 * slotLen e) && bits d.1.toNat 23 3 == 0
      | none => false)) &&
    (cls != 9 || decide (slotTarget e < 72) || slotTarget e == 0x3FF)

/-- SLOT_FORM of a combination: each slot, CAL slots apart (R77), one SHADOW slot a core (R354), and what a fence patch leaves (R296). -/
def State.formsOk (s : State) (n w : Nat) : Bool :=
  let xs := s.slots
  let fences := (s.patchList.filterMap s.patch).filter (fun (p : Patch) => p.kind == .fence)
  xs.all (s.formOk n w) &&
    xs.all (fun x => xs.all (fun y => x.1 != y.1 || x.2.1 == y.2.1 ||
      !(slotClass x.2.2 == 6 && slotClass y.2.2 == 6 && slotTarget x.2.2 == slotTarget y.2.2 && overlap x.2.2 y.2.2))) &&
    xs.all (fun x => xs.all (fun y => x.1 != y.1 || x.2.1 == y.2.1 || !(slotClass x.2.2 == 7 && slotClass y.2.2 == 7))) &&
    fences.all (fun (p : Patch) => p.cores.all (fun c => xs.all (fun x => x.1 != c)))

/-- A resource a slot claims (R32, R144, R286): its kind (0 converter bank, 1 wide engine, 2 scratchpad bank, 3 port direction, 4 link
direction, 5 control slot), which, and a tag under which it may be shared. -/
structure Claim where
  kind : Nat
  id   : Nat
  tag  : Nat

/-- A bank reached by a selector, and the link direction on the way. -/
def bankClaims (c sel bank tag : Nat) : List Claim :=
  match reach c sel with
  | some d => ⟨2, 16 * d + bank, tag⟩ :: (if sel = 0 then [] else [⟨4, 8 * c + sel, tag⟩])
  | none => []

/-- What a slot claims. -/
def State.claims (s : State) (x : Nat × Nat × Nat) : List Claim :=
  let c := x.1
  let e := x.2.2
  match s.sched with
  | none => []
  | some sc =>
    match slotClass e with
    | 1 =>
      let d := (sc.tile.getD (slotDesc e) 0).toNat
      let a := 8 * bits d 28 17
      ⟨0, 8 * c + slotTarget e / 4 % 8, 0⟩ :: bankClaims c (bits d 45 3) (a / 65536 % 16) (1 + 2 ^ 20 * (8 * c + bits d 45 3) + a)
    | 2 => [⟨1, c, 0⟩]
    | 3 =>
      match s.routeAt c x.2.1 with
      | some r => (if r.srcN then [] else [⟨2, 16 * r.src + r.srcAt / 65536 % 16, 0⟩]) ++ (if r.dstN then [] else [⟨2, 16 * r.dst + r.dstAt / 65536 % 16, 0⟩])
      | none => match s.xferDesc c x.2.1 with
        | some d => bankClaims c (if bits d.1 62 2 = 3 then 0 else bits d.1 52 3) (slotTarget e % 16) 0
        | none => []
    | 4 =>
      match s.img.bind (fun im => im.sends[slotDesc e]?) with
      | some d => ⟨3, slotTarget e, 0⟩ :: bankClaims c (bits d.1.toNat 61 3) (8 * bits d.1.toNat 44 17 / 65536 % 16) 0
      | none => []
    | 7 => [⟨1, c, 0⟩, ⟨2, 16 * c + slotTarget e % 16, 0⟩]
    | 8 => [⟨1, c, 0⟩]
    | 9 => ⟨5, c, 0⟩ :: (if slotTarget e < 72 then [⟨3, slotTarget e, 0⟩] else [])
    | _ => []

/-- SLOT_CONFLICT (R32): no two slots claim one resource in one pass. -/
def State.conflictFree (s : State) : Bool :=
  let cs := (s.slots.map (fun x => (x, s.claims x)))
  cs.all (fun p => cs.all (fun q => (p.1.1 == q.1.1 && p.1.2.1 == q.1.2.1) || !overlap p.1.2.2 q.1.2.2 ||
    p.2.all (fun a => q.2.all (fun b => a.kind != b.kind || a.id != b.id || (a.tag != 0 && a.tag == b.tag)))))

/-- The slot at an index of a core is a REPAIR slot wholly after `e` (R109). -/
def State.repairAfter (s : State) (c i e : Nat) : Bool :=
  let r := s.entry c i
  slotClass r == 8 && decide (slotEnd e ≤ slotStart r)

/-- ORDER of one slot (R109, R131, R158). -/
def State.orderOk (s : State) (x : Nat × Nat × Nat) : Bool :=
  let c := x.1
  let e := x.2.2
  match s.sched with
  | none => true
  | some sc =>
    match slotClass e with
    | 1 => s.repairAfter c (bits (sc.tile.getD (slotDesc e) 0).toNat 48 16) e
    | 2 =>
      (match sc.wide.getD (slotDesc e) (.corr 0) with
        | .corr w =>
          let d := w.toNat
          let ps := s.productSlots c (32 * c + 4 * bits d 42 3 + bits d 40 2) (bits d 36 4) (bits d 48 16) (bits d 45 3 + 1)
          ps.all (fun i => decide (slotStart (s.entry c i) + 2 ≤ slotStart e) &&
            decide (slotEnd e ≤ slotStart (s.entry c (bits (sc.tile.getD (slotDesc (s.entry c i)) 0).toNat 48 16))))
        | .task _ r _ => s.repairAfter c r e
        | _ => true)
    | 3 =>
      (match s.xferDesc c x.2.1 with
        | some d => bits d.1 62 2 == 3 || s.slots.all (fun y => y.1 != c || slotClass y.2.2 != 1 || slotTarget y.2.2 / 4 % 8 != bits d.1 55 3 ||
            bits (sc.tile.getD (slotDesc y.2.2) 0).toNat 24 4 != bits d.1 58 4 || !overlap e y.2.2)
        | none => true)
    | _ => true

/-- REACH of one slot (R143, R285, R354): the selectors and route ends it names. -/
def State.reachOk (s : State) (x : Nat × Nat × Nat) : Bool :=
  let c := x.1
  let e := x.2.2
  let sel (k : Nat) : Bool := (reach c k).isSome
  match s.sched with
  | none => true
  | some sc =>
    match slotClass e with
    | 1 => sel (bits (sc.tile.getD (slotDesc e) 0).toNat 45 3)
    | 2 => (match sc.wide.getD (slotDesc e) (.corr 0) with
        | .corr w => bits w.toNat 34 2 != 1 || sel (bits w.toNat 31 3)
        | _ => true)
    | 3 => (match s.routeAt c x.2.1 with
        | some r => r.home == c
        | none => (match s.xferDesc c x.2.1 with
          | some d => bits d.1 62 2 == 3 || (sel (bits d.1 52 3) && (bits d.1 62 2 != 0 || bits d.1 24 2 == 0 || sel (bits d.2 61 3)))
          | none => true))
    | 4 => (match s.img.bind (fun im => im.sends[slotDesc e]?) with
        | some d => sel (bits d.1.toNat 61 3)
        | none => true)
    | 7 => (let d := (sc.shadow.getD (slotDesc e) 0).toNat
        bits d 48 11 == 0 && bits d 37 11 == 0 || (bits d 59 3 != 0 && sel (bits d 59 3)))
    | _ => true

/-- FORMAT of one slot (R133, R137, R158). -/
def State.slotFormat (s : State) (x : Nat × Nat × Nat) : Bool :=
  match s.sched with
  | none => true
  | some sc =>
    match slotClass x.2.2 with
    | 2 => (match sc.wide.getD (slotDesc x.2.2) (.corr 0) with
        | .corr w => decide (bits w.toNat 34 2 ≤ 1)
        | _ => true)
    | 3 => (match s.routeAt x.1 x.2.1, s.xferDesc x.1 x.2.1 with
        | none, some d => bits d.1 62 2 != 0 || (decide (bits d.1 32 3 ≤ 3) && decide (bits d.1 26 4 ≤ 7) && bits d.1 24 2 != 3)
        | _, _ => true)
    | _ => true

/-- FORMAT of a register list entry (R255): an aligned offset of a register, bits on RWT fields only, every field in its range. PAV_SEL,
PAV_PATCH and IMG_APPLY depend on the image in force and are judged by R257 and R269 instead. -/
def State.entryOk (s : State) (e : RegEntry) : Bool :=
  e.off % 8 == 0 && (match regRow e.off with
    | some r => Nat.land e.val r.rwt == e.val && (decide (0x100020 ≤ e.off ∧ e.off < 0x100068) || e.off == 0x300020 || s.rangeOk e.off e.val)
    | none => false)

/-- FORMAT (R95, R255). -/
def State.formatOk (s : State) (im : Image) : Bool :=
  im.streams.all (fun (x : Stream) => decide (1 ≤ x.expLo) && decide (x.expLo ≤ x.expHi) && decide (x.expHi ≤ 250) && decide (x.expHi ≤ x.expLo + 31)) &&
    im.regList.all s.entryOk

/-- OWNER (R43): SEC and MGT belong to YARROW and nothing else does. -/
def ownerOk (im : Image) : Bool :=
  (List.range 48).all (fun g =>
    let v := regAt im (0x100100 + 8 * g) % 16
    if g = 11 ∨ g = 12 then v == 3 else v != 3)

/-- The largest value a field may take while the image runs: its bound's MAX, or its value. -/
def mostOf (im : Image) (a lo w : Nat) : Nat :=
  match boundOf im.bounds a lo w with
  | some b => b.max
  | none => bits (regAt im a) lo w

/-- BOUNDS (R256, R401). -/
def boundsSane (im : Image) : Bool :=
  im.bounds.all (fun (b : Bound) => decide (b.min ≤ b.max) && (let v := bits (regAt im b.off) b.lo b.w; decide (b.min ≤ v) && decide (v ≤ b.max))) &&
    decide (mostOf im 0x700000 0 20 + 1000 * (mostOf im 0xA00000 32 16 + mostOf im 0xA00000 48 16) + 50000 ≤ 1000000)

/-- TOPO (R258, R312, R527): places exist, each coded group has one parity member, and ports are ports. -/
def topoOk (im : Image) : Bool :=
  let t := im.topo
  let n := t.members.length
  let grouped := t.members.filter (fun (m : Member) => m.role != .solo)
  decide (t.self < n) && decide (t.root < n) && decide (t.standby < n) && decide (t.admRoot < n) && decide (t.sampler < n) &&
    decide (1 ≤ t.startWait) && decide (t.startWait ≤ 600) &&
    (if t.self = t.root then true else decide (t.parent < 72)) && t.kids.all (fun k => decide (k.1 < 72)) && t.expect.all (fun p => decide (p < 72)) &&
    grouped.all (fun (m : Member) => ((grouped.filter (fun (x : Member) => x.group == m.group && x.role == .parity)).length == 1))

/-- CAPACITY (R260, R341, R384): tier N areas of the register list end inside the tier and keep off the staged image and each other. -/
def State.capacityOk (s : State) (im : Image) : Bool :=
  let r (a : Nat) : Nat := regAt im a
  let pool (a : Nat) : Nat × Nat := (4096 * bits (r a) 22 30, pageBytes * bits (r a) 0 22)
  let area (a : Nat) : Nat × Nat := (4096 * bits (r a) 0 30, 4096 * bits (r a) 30 30)
  let pages := bits (r 0x500000) 0 22 + bits (r 0x500008) 0 22
  let xs := ([pool 0x500000, pool 0x500010, (bits (r 0x500018) 0 42, 16 * pages), area 0xA00008, area 0xA00010,
    (bits (r 0x900068) 0 42, 66 * 4096 * bits (r 0x900068) 48 10), (s.stageBase, s.stageLen), queueArea] ++
    im.wideCopy.map (fun w => (w.2.1, w.2.2))).filter (fun x => x.2 != 0)
  let k := xs.length
  xs.all (fun x => decide (x.1 + x.2 ≤ 2 ^ 39)) &&
    (List.range k).all (fun i => (List.range i).all (fun j => !meets [xs.getD j (0, 0)] (xs.getD i (0, 0)).1 (xs.getD i (0, 0)).2))

/-- Whether the image passes the check of one code (R260). -/
def State.checkOk (s : State) (im : Image) (b code : Nat) : Bool :=
  let geo := regAt im 0x100000
  let all (p : State → Bool) : Bool := (combosOf im).all (fun c => p (s.trial im c))
  match code with
  | 0x16 => layoutOk im && all (fun x => x.slots.all (fun y => x.descOk y.2.2))
  | 0x07 => s.rangeHub 0x100000 geo && all (fun x => x.formsOk (bits geo 0 14) (bits geo 16 14))
  | 0x08 => all State.conflictFree
  | 0x09 => all (fun x => x.slots.all x.orderOk)
  | 0x0A => all (fun x => x.slots.all x.reachOk)
  | 0x0C => s.formatOk im && all (fun x => x.slots.all x.slotFormat)
  | 0x0D => ownerOk im
  | 0x0E => boundsSane im
  | 0x0F => topoOk im
  | 0x10 => (s.badRecord b).isNone
  | 0x11 => s.capacityOk im
  | _ => true

/-- The validator (R260): the code of the first check that fails, in the table's order; 0 for none. `vet` is the first code under which
what the compiler's layouts hold fails, if one does. -/
def State.validate (s : State) (im : Image) (b : Nat) (vet : Option Nat) : Nat :=
  ([0x16, 0x07, 0x08, 0x09, 0x0A, 0x0B, 0x0C, 0x0D, 0x0E, 0x0F, 0x10, 0x11].find? (fun c => vet == some c || !s.checkOk im b c)).getD 0

end Sys2Proof.Machine
end

