-- ==== Sys2Proof/Machine/Load.lean ====
section
/-! DEFINITION. The image load (R252, R254, R258 to R260, R277, R278, R415, R426, R427). -/

namespace Sys2Proof.Machine

/-- IMG_STATE's state. -/
def State.imgSt (s : State) : Nat := s.f IMG_STATE_STATE

/-- IMG_ID0 and IMG_ID1: the ID of the loaded or active image, 0 without one (R278; notes/assumptions/73.md). -/
def State.setImgId (s : State) (lo hi : Nat) : State := (s.setf (IMG_ID_ID 0) lo).setf (IMG_ID_ID 1) hi

/-- The load stops with an error and the offset of what caused it (R259, R278). -/
def State.loadFail (s : State) (err off : Nat) : State :=
  let s := (((s.setf IMG_STATE_STATE 7).setf IMG_STATE_ERR err).setf IMG_STATE_ERR_OFFSET off).setImgId 0 0
  { s with staging := none, stageBase := 0, stageLen := 0, loadStop := false, loadFact := false, loadArrs := [] }.evt IMG_EVT_LOAD_FAIL

/-- The load runs on unless an ABORT is waiting for this step boundary (R259). -/
def State.loadStep (s : State) (f : State → State) : State := if s.loadStop then s.loadFail 0x13 0 else f s

/-- LOAD (R179, R259, R478): BUSY while a load runs, an image is active or the package is HALTED; AUDIT_HOLD ends it at once. -/
def State.load (s : State) (img : Image) : State :=
  if (1 ≤ s.imgSt ∧ s.imgSt ≤ 4) ∨ s.imgSt = 6 ∨ s.halted then s.setf IMG_STATE_ERR 0x14
  else if s.audit.hold then s.loadFail 0x15 0
  else
    let b := 4096 * s.f IMG_STAGE_BASE_4K
    let s := ((s.setf IMG_STATE_STATE 1).setf IMG_STATE_ERR 0).setf IMG_STATE_ERR_OFFSET 0
    let s := ((s.setf IMG_PROG_TOTAL 0).setf IMG_PROG_DONE 0).setf IMG_PROG_FAILED 0
    let s := s.setImgId 0 0
    let s : State := { s with staging := some img, stageBase := b, stageLen := s.num (b + 32) 8, loadStop := false, loadFact := false, loadArrs := [] }
    if ¬ s.headerOk b then s.loadFail 0x01 0
    else if ¬ s.targetOk b then s.loadFail 0x02 8
    else if ¬ s.sectionsOk b then s.loadFail 0x03 (s.badSect b)
    else s

/-- LOAD (R259): a write of IMG_CTRL. `img` is what the image's sections of the compiler's own layout say (R251). -/
def execLoad (t : Nat) (q : Requester) (img : Image) (s : State) : Host.Outcome State Fault Refusal :=
  .next ((s.at t).guarded q 0x300010 false true (·.load img))

/-- ABORT stops the load at the next step boundary; nothing without a load (R259). -/
def State.loadAbort (s : State) : State := if 1 ≤ s.imgSt ∧ s.imgSt ≤ 4 then { s with loadStop := true } else s

/-- LOAD_ABORT (R259): a write of IMG_CTRL. -/
def State.wrLoadAbort (s : State) (q : Requester) : State :=
  s.guarded q 0x300010 false true State.loadAbort

/-- LOAD_ABORT: that write, as a command. -/
def execLoadAbort (t : Nat) (q : Requester) (s : State) : Host.Outcome State Fault Refusal :=
  .next ((s.at t).wrLoadAbort q)

/-! ### Ownership (R415, R427) -/

/-- The hash of the owner key: the highest valid OWNER slot, unless it holds all ones (R415). -/
def State.ownerHash (s : State) : Option (List Nat) :=
  match s.fuses.owners.getLast? with
  | some h => if h = List.replicate 32 0xFF then none else some h
  | none => none

/-- The place of SIG in tier N. -/
def State.sigAt (s : State) : Nat := s.stageBase + (s.sectAt s.stageBase 8).1

/-- The first byte of the encrypted range and its length (R252, R427). -/
def State.cipher (s : State) : Nat × Nat :=
  let lo := ((List.range 8).map (fun k => (s.sectAt s.stageBase k).1)).foldl min (s.sectAt s.stageBase 8).1
  (s.stageBase + lo, (s.sectAt s.stageBase 8).1 - lo)

/-- A DECRYPT failure: zeros over the range (R427). -/
def State.decryptFail (s : State) (off : Nat) : State :=
  (s.write s.cipher.1 (List.replicate s.cipher.2 0)).loadFail 0x06 off

/-! ### From the checks to the arrays (R258 to R260) -/

/-- One array of the load: PROGRAM, unless a command is in hand there already. -/
def State.loadArr (s : State) (rec : Nat) : State :=
  let A := s.recLoc rec
  let s : State := { s with loadArrs := s.loadArrs ++ [A] }
  if (s.cmdOf A).isSome then s.inc IMG_PROG_FAILED else s.progQueue A false rec

/-- Records in ascending LOC. -/
def State.byLoc (s : State) (rs : List Nat) : List Nat :=
  (List.range 32768).flatMap (fun l => rs.filter (fun a => s.recLoc a == l))

/-- PROGRAMMING begins: payload copies, the copy to tier F, and a PROGRAM for each record in ascending LOC (R259). -/
def State.loadProgram (s : State) (im : Image) : State :=
  let b := s.stageBase
  let s := s.setf IMG_STATE_STATE 4
  let s := im.wideCopy.foldl (fun s w => s.write w.2.1 (s.bytes (b + w.1) w.2.2)) s
  let s := s.when (s.b IMG_COPYF_EN) (fun s => s.write (tierF + 4096 * s.f IMG_COPYF_BASE_4K) (s.bytes b s.stageLen))
  let rs := s.byLoc (s.records_ b)
  rs.foldl State.loadArr (s.setf IMG_PROG_TOTAL rs.length)

/-- VALIDATING (R260), and on to PROGRAMMING. `place` is the byte offset of the first offending entry where `vet` or a check of a section
of the compiler's own layout fails. -/
def State.loadValidate (s : State) (vet : Option Nat) (place : Nat) : State :=
  match s.staging with
  | none => s
  | some im =>
    let x := s.sectAt s.stageBase 0
    let s : State := { s.setf IMG_STATE_STATE 3 with topoDigest := leNat ((sha256 (s.bytes (s.stageBase + x.1) x.2)).take 16) }
    match s.validate im s.stageBase vet with
    | 0 => s.loadProgram im
    | c => s.loadFail c (if c = 0x10 then (s.badRecord s.stageBase).getD place else place)

/-- HASH_DONE (R259, R260, R427): the digest is known; ROLL_VER, then ownership, KEY_ID, ALG and the signature (`sig` is its verdict),
then for an encrypted image KEY_SLOT. A clear image goes on to the validator. -/
def execHashDone (t : Nat) (sig : Bool) (vet : Option Nat) (place : Nat) (s : State) : Host.Outcome State Fault Refusal :=
  let s := s.at t
  if s.imgSt ≠ 1 then .next s
  else
    .next (s.loadStep (fun s =>
      let b := s.stageBase
      let g := s.sigAt
      let s : State := { s.setf IMG_STATE_STATE 2 with imgDigest := sha256 (s.bytes b (g - b)) }
      if s.num (b + 40) 4 < s.fuses.floorI then s.loadFail 0x04 40
      else if ¬ (s.ownerHash.any (fun h => h.take 16 == s.bytes g 16) && s.num (g + 16) 2 == 0x0192 && sig) then
        (s.inc SEC_CNT_BAD_SIG).loadFail 0x05 (g - b)
      else if s.num (b + 12) 4 % 2 = 0 then s.loadValidate vet place
      else if s.f SEC_STATE_DEBUG = 2 ∨ (sfind s.fuses.keys (s.num (g + 18) 2)).isNone then s.decryptFail (g - b + 18)
      else s))

/-- DECRYPT_DONE (R427): the GCM tag holds and `plain` is the clear text, or the load fails and the range is zeroed. -/
def execDecryptDone (t : Nat) (tag : Bool) (plain : List Nat) (vet : Option Nat) (place : Nat) (s : State) : Host.Outcome State Fault Refusal :=
  let s := s.at t
  if s.imgSt ≠ 2 then .next s
  else
    .next (s.loadStep (fun s =>
      if ¬ tag then s.decryptFail (s.sigAt - s.stageBase + 32)
      else (s.write s.cipher.1 (plain.take s.cipher.2)).loadValidate vet place))

/-- Every target array has reported PROG_DONE. -/
def State.loadSettled (s : State) : Bool := s.loadArrs.all (fun A => (s.cmdOf A).isNone)

/-- LOAD_PROGRAMMED (R259): every target has reported; one that failed fails the load. -/
def execLoadProgrammed (t : Nat) (s : State) : Host.Outcome State Fault Refusal :=
  let s := s.at t
  if s.imgSt = 4 ∧ s.loadSettled ∧ ¬ s.loadFact then
    .next (s.loadStep (fun s => if s.f IMG_PROG_FAILED ≠ 0 then s.loadFail 0x12 0 else { s with loadFact := true }))
  else .next s

/-- LOAD_DONE (R259, R432): Larkspur has written the factor records, each `facts` entry a tier N offset and bytes; the image is READY. -/
def execLoadDone (t : Nat) (facts : List (Nat × List Nat)) (s : State) : Host.Outcome State Fault Refusal :=
  let s := s.at t
  if s.imgSt = 4 ∧ s.loadFact ∧ s.f MGT_LSTATE_STATE = 2 then
    .next (s.loadStep (fun s =>
      let s := s.setImgId (s.num (s.stageBase + 16) 8) (s.num (s.stageBase + 24) 8)
      let s := (facts.filter (fun x => decide (x.1 + x.2.length ≤ 2 ^ 39))).foldl (fun s x => s.write x.1 x.2) s
      ({ s with loadFact := false, loadArrs := [] }.setf IMG_STATE_STATE 5).evt IMG_EVT_LOAD_DONE))
  else .next s

end Sys2Proof.Machine
end

