-- ==== Sys2Proof/Machine/Ports.lean ====
section
/-! DEFINITION. Ports, beacons, the cable plan and stand-ins: R302, R303, R306, R309, R325 to R332. -/

namespace Sys2Proof.Machine

/-! ### Beacons (R325) -/

/-- A beacon's payload. -/
def State.beaconBytes (s : State) (p : Nat) : List Nat :=
  [1, 0] ++ leBytes 2 (s.portName p) ++ leBytes 4 (s.f FAB_ID_PKG_ID) ++ leBytes 4 (if s.active then s.f QDR_JOB_JOB_ID else 0) ++
  leBytes 2 (s.f (FAB_PSTAT_EPOCH p))

/-- Send one beacon; none while PKG_ID is unassigned (R325). -/
def State.sendBeacon (s : State) (p : Nat) : State :=
  if s.f FAB_ID_PKG_ID = 0xFFFFF then s
  else
    let f := sealFlit { s.dress p { typ := 4, payload := s.beaconBytes p } with seq := 0 }
    let s := s.setPrt p { s.prt p with beacon := s.now, nak := none }
    { s with out := s.out ++ [.flit p f] }

/-- A port that sends beacons: UP, a spare in service, or an idle spare. -/
def State.beacons (s : State) (p : Nat) : Bool := s.portUp p || s.f (FAB_PSTAT_STATE p) == 5

/-- BEACON_SEND (R325): every port whose last beacon is 100 µs old sends the next. -/
def execBeaconSend (t : Nat) (s : State) : Host.Outcome State Fault Refusal :=
  let s := s.at t
  if s.power = .on then
    .next (((List.range 72).filter (fun p => s.beacons p && decide ((s.prt p).beacon + 100000 ≤ s.now))).foldl State.sendBeacon s)
  else .next s

/-! ### Beacons received, and Promenade's commands (R325 to R328) -/

/-- An idle spare whose fibre ends anywhere but at itself leaves its loopback: its cable lights it, and it is UP (R522). -/
def State.spareLit (s : State) (p : Nat) : State :=
  s.when (s.f (FAB_PSTAT_STATE p) == 5 && s.sees p != (1, s.f FAB_ID_PKG_ID, p)) (·.setf (FAB_PSTAT_STATE p) 3)

/-- BEACON (R303, R325, R327, R328, R522): the far end's kind, ID, port and job are recorded and the ports judged again. -/
def execBeacon (t port : Nat) (f : Flit) (s : State) : Host.Outcome State Fault Refusal :=
  let s := s.at t
  if f.typ % 16 = 4 then
    let r := s.rx port f false false
    if r.2 then
      let p := f.payload
      let s := ((r.1.setf (FAB_PNBR_KIND port) (pNum p 0 1)).setf (FAB_PNBR_ID port) (pNum p 4 4)).setf (FAB_PNBR_PORT port) (pNum p 2 2)
      let s := ((s.setPrt port { s.prt port with farJob := pNum p 8 4 }).spareLit port).rejudge
      let s := s.when (s.f (FAB_PSTAT_REPORT port) == 1) (fun s => s.setPrt port { s.prt port with standAt := none })
      .next s.postStart
    else .next r.1
  else .next s

/-- PROMENADE_TIMEOUT (R328): 2 s after the plan's load ports that are not UP report DARK. -/
def execPromenadeTimeout (t : Nat) (s : State) : Host.Outcome State Fault Refusal :=
  let s := s.at t
  match s.planAt with
  | some a => if a + 2000000000 ≤ s.now then .next s.rejudge else .next s
  | none => .next s

/-- Read the cable plan and start reporting (R326, R328). Where the offset lies beyond tier N the entries are free values. -/
def State.loadPlan (s : State) (a : Nat) : State :=
  let inN := decide (a + 576 ≤ 2 ^ 39)
  let es := (List.range 72).map (fun p => if inN then s.num (a + 8 * p) 8 else (Config.freeWord (s.freeCount + p)).toNat)
  let s : State := { s with plan := es, planAt := some s.now, freeCount := s.freeCount + (if inN then 0 else 72) }
  let s := if s.f FAB_ID_PKG_ID = 0xFFFFF then s else (List.range 72).foldl (fun s p => s.setf (FAB_PSTAT_REPORT p) 0) s
  s.rejudge.postStart

/-- CABLE_PLAN_LOAD (R326, R328): a write of FAB_PLAN with LOAD set. -/
def State.wrPlan (s : State) (q : Requester) (addr : Nat) : State :=
  s.guarded q 0x600010 false (bits addr 0 6 == 0) (fun s => (s.setf FAB_PLAN_ADDR addr).loadPlan (bits addr 0 42))

/-- CABLE_PLAN_LOAD: that write, as a command. -/
def execCablePlanLoad (t : Nat) (q : Requester) (addr : Nat) (s : State) : Host.Outcome State Fault Refusal :=
  .next ((s.at t).wrPlan q addr)

/-! ### Light, training and drains (R302, R306, R309, R329, R330, R332) -/

/-- A port goes dark: what it held is gone, its neighbour is forgotten, and its epoch rises (R309, R329, R405). -/
def State.portDark (s : State) (p : Nat) : State :=
  let s := ((s.setf (FAB_PSTAT_STATE p) 1).setf (FAB_PSTAT_EPOCH p) ((s.f (FAB_PSTAT_EPOCH p) + 1) % 2 ^ 16)).setf (FAB_PNBR_KIND p) 0
  let s := ((s.setf (FAB_PNBR_ID p) 0).setf (FAB_PNBR_PORT p) 0).setPrt p { fec := (s.prt p).fec, beacon := (s.prt p).beacon }
  State.poolEpoch { s with tx := s.tx.filter (fun (x : TxFlit) => x.port ≠ p) } p

/-- LOSS_OF_LIGHT (R302, R329): the whole port is dark; a JOB_FAULT when it was in use. -/
def execLossOfLight (t port : Nat) (s : State) : Host.Outcome State Fault Refusal :=
  let s := s.at t
  if s.power = .on ∧ port < 72 ∧ 2 ≤ s.f (FAB_PSTAT_STATE port) then
    let used := (port < 64 || s.b (FAB_SPARE_EN (port - 64))) && s.portInUse port
    let s := ((s.portDark port).inc (FAB_PERR_LOL port)).fabEvt FAB_EVT_LOSS_OF_LIGHT port
    .next (s.raise (if used then 2 else 0) 0x1A 7 port 0).rejudge
  else .next s

/-- The port may train: enabled, not draining, and no spare stands in for it (R303, R330, R332). -/
def State.mayTrain (s : State) (p : Nat) : Bool :=
  s.b (FAB_PCTL_EN p) && !s.b (FAB_PCTL_DRAINING p) && s.onPort p == p

/-- LIGHT_STEADY (R330): a dark port that sees steady light for 10 ms trains. -/
def execLightSteady (t port : Nat) (s : State) : Host.Outcome State Fault Refusal :=
  let s := s.at t
  if s.power = .on ∧ port < 72 ∧ s.f (FAB_PSTAT_STATE port) ≤ 1 ∧ s.mayTrain port then .next (s.setf (FAB_PSTAT_STATE port) 2) else .next s

/-- Training ends: the round trip, the far end's epoch, fresh sequence numbers, and a beacon at once (R306, R309, R325). -/
def State.trained (s : State) (p st rtt far : Nat) : State :=
  let s := (s.setf (FAB_PSTAT_STATE p) st).setf (FAB_PSTAT_RTT_NS p) (min rtt 65535)
  State.sendBeacon (s.setPrt p { farEp := some (far % 2 ^ 16), fec := (s.prt p).fec }) p

/-- PORT_UP (R306, R325, R330): training ends with a round trip of `rtt` ns and the far end announcing epoch `far`; a fibre over
5,200 ns is refused. An idle spare trains in loopback (R11). -/
def execPortUp (t port rtt far : Nat) (s : State) : Host.Outcome State Fault Refusal :=
  let s := s.at t
  if s.power = .on ∧ port < 72 ∧ s.f (FAB_PSTAT_STATE port) = 2 ∧ ¬ (64 ≤ port ∧ s.b (FAB_SPARE_EN (port - 64))) then
    if 5200 < rtt then .next ((s.setf (FAB_PSTAT_STATE port) 1).fabEvt FAB_EVT_TOO_LONG port).rejudge
    else .next (s.trained port (if port < 64 then 3 else 5) rtt far).rejudge
  else .next s

/-- A write of EN (R332). -/
def State.writePortEn (s : State) (p : Nat) (en : Bool) : State :=
  if s.b (FAB_PCTL_DRAINING p) then s.setf (FAB_PCTL_PEND_ON p) (bit en)
  else if en then s.setf (FAB_PCTL_EN p) 1
  else (s.setf (FAB_PCTL_EN p) 0).when (decide (2 ≤ s.f (FAB_PSTAT_STATE p))) (·.setf (FAB_PCTL_DRAINING p) 1)

/-- PORT_EN_WRITE (R332): a write of FAB_PCTL. -/
def State.wrPortEn (s : State) (q : Requester) (port : Nat) (en : Bool) : State :=
  let used := (port < 64 || s.b (FAB_SPARE_EN (port - 64))) && s.portInUse port
  if port < 72 then (s.guarded q (portRegs port + 8) false (en || !used) (·.writePortEn port en)) else s

/-- PORT_EN_WRITE: that write, as a command. -/
def execPortEnWrite (t : Nat) (q : Requester) (port : Nat) (en : Bool) (s : State) : Host.Outcome State Fault Refusal :=
  .next ((s.at t).wrPortEn q port en)

/-- PORT_DRAIN_DONE (R332): every flit is acknowledged or the link has failed. -/
def execPortDrainDone (t port : Nat) (s : State) : Host.Outcome State Fault Refusal :=
  let s := s.at t
  if s.b (FAB_PCTL_DRAINING port) ∧ ((s.txOf port).isEmpty ∨ ¬ s.portUp port) then
    let s := (s.setf (FAB_PCTL_DRAINING port) 0).portDark port
    let s := s.when (s.b (FAB_PCTL_PEND_ON port)) (fun s => (s.setf (FAB_PCTL_PEND_ON port) 0).setf (FAB_PCTL_EN port) 1)
    .next s.rejudge
  else .next s

/-! ### Stand-ins (R303) -/

/-- FAB_SPARE's commit reaches engine `m` (R303): `old` is the engine's byte before. A spare that stands in anew retrains and the port
it replaces goes dark; a spare withdrawn goes back to its loopback; one that a cable lights cannot stand in (R522). -/
def State.standIn (s : State) (m old : Nat) : State :=
  let new := bits (s.reg 0x600018).toNat (8 * m) 8
  let p := 64 + m
  if new = old ∨ s.f (FAB_PSTAT_STATE p) = 3 then s
  else if bits new 7 1 = 1 then
    ((s.portDark (m + 8 * (new % 8))).portDark p).setf (FAB_PSTAT_STATE p) 2
  else if bits old 7 1 = 1 then
    let s := (s.portDark p).setf (FAB_PSTAT_STATE p) 5
    s.setPrt p { s.prt p with farEp := some (s.f (FAB_PSTAT_EPOCH p)) }
  else s

/-- STANDIN_RETRAIN_DONE (R303): either end of the fibre has retrained: the spare that stands in here, or the active port whose far end
a spare took over. It sends a beacon at once (R325). -/
def execStandinRetrainDone (t port rtt far : Nat) (s : State) : Host.Outcome State Fault Refusal :=
  let s := s.at t
  if 64 ≤ port ∧ port < 72 ∧ s.b (FAB_SPARE_EN (port - 64)) ∧ s.f (FAB_PSTAT_STATE port) = 2 then
    let s := s.trained port 6 rtt far
    .next (s.setPrt port { s.prt port with standAt := some (s.now + 60000) }).rejudge
  else if port < 64 ∧ s.f (FAB_PSTAT_STATE port) = 3 then .next ((s.portDark port).trained port 3 rtt far).rejudge
  else .next s

/-- STANDIN_FAIL (R303): 60 µs after retraining the first beacon exchange has not given MATCH. -/
def execStandinFail (t port : Nat) (s : State) : Host.Outcome State Fault Refusal :=
  let s := s.at t
  match (s.prt port).standAt with
  | some d =>
    if d ≤ s.now then
      let s := (s.setPrt port { s.prt port with standAt := none }).fabEvt FAB_EVT_STANDIN_FAIL port
      .next (s.raise 2 0x1B 7 port (s.stoodFor port))
    else .next s
  | none => .next s

end Sys2Proof.Machine
end

