-- ==== Sys2Proof/Machine/Apply.lean ====
section
/-! DEFINITION. What a tick does with committed transactions and images, and what follows from a change of a register: R44, R84, R152,
R162, R230, R255 to R257, R267, R269 to R274, R296, R303, R339, R340, R368, R398, R400, R446, R479, R502. -/

namespace Sys2Proof.Machine

/-! ### RWT bits by key -/

/-- The RWT bits of the register at a key: those of its BAR0 row, a range code's, a column scale's. -/
def rwtMask (k : Nat) : Nat :=
  if k < 0x4000000 then (regRow k).elim 0 RegRow.rwt
  else if 0x1100000000 ≤ k ∧ k < 0x1200000000 then 7 * 2 ^ 48
  else if 0x1200000000 ≤ k ∧ k < 0x1300000000 then 2 ^ 32 - 1
  else 0

/-- The register group of a key (R41). -/
def keyGroup (k : Nat) : Nat :=
  if 0x1100000000 ≤ k ∧ k < 0x1200000000 then 16 + (k - 0x1100000000) / 0x100000
  else if 0x1200000000 ≤ k ∧ k < 0x1300000000 then 16 + (k - 0x1200000000) / 0x40000
  else groupOf k

/-- Replace the bits of a register under a mask. -/
def State.putBits (s : State) (k mask v : Nat) : State :=
  let r := (s.reg k).toNat
  s.setReg k (BitVec.ofNat 64 (r - Nat.land r mask + Nat.land v mask))

/-- What a register would hold with a shadow applied. -/
def State.merged_ (s : State) (w : Shadow) : Nat :=
  let r := (s.reg w.key).toNat
  r - Nat.land r w.mask + Nat.land w.val w.mask

/-! ### Effects of a change -/

/-- A bank whose protection changes is rewritten with zeros during passes 0 to 10 (R152). -/
def State.clearBank (s : State) (c b : Nat) : State :=
  let a := spd c (65536 * b)
  let bk := 16 * c + b
  { s with mem := s.mem.filter (fun p => ¬ (a ≤ p.1 ∧ p.1 < a + 65536)),
           poison := s.poison.filter (fun (p : Poison) => ¬ (a ≤ p.addr ∧ p.addr < a + 65536)),
           scrubLog := serase s.scrubLog bk, clearing := sput s.clearing bk 11 }.setf (SPD_PEND c b) 0

/-- Where a tier N offset lies: its stack and the place within it, taken from the offset's other bits in order
(notes/assumptions/41.md); and the offset of a place. -/
def nPlace (mode : Bool) (a : Nat) : Nat × Nat :=
  if mode then (bits a 8 3, a / 2 ^ 11 * 2 ^ 8 + a % 2 ^ 8)
  else (4 * bits a 38 1 + bits a 8 2, bits a 10 28 * 2 ^ 8 + a % 2 ^ 8)

/-- The tier N offset of a place. -/
def nOffset (mode : Bool) (p : Nat × Nat) : Nat :=
  if mode then p.2 / 2 ^ 8 * 2 ^ 11 + p.1 * 2 ^ 8 + p.2 % 2 ^ 8
  else p.1 / 4 * 2 ^ 38 + p.2 / 2 ^ 8 * 2 ^ 10 + p.1 % 4 * 2 ^ 8 + p.2 % 2 ^ 8

/-- The tier F offset of a byte of a channel under the mode in force (R340). -/
def State.fOffset (s : State) (c x : Nat) : Nat :=
  if s.b MEM_FCFG_MODE then
    let ps := (List.range 16).filter s.populated
    (x / 4096 * ps.length + ps.findIdx (· == c)) * 4096 + x % 4096
  else c * 2 ^ 37 + x

/-- Memory under a new mapping: the bytes stay where they lie, and offsets name other places (R339, R340). -/
def State.remap (s old : State) : State :=
  let move (a : Nat) : Nat :=
    if a < 2 ^ 39 then nOffset (s.b MEM_NCFG_MODE) (nPlace (old.b MEM_NCFG_MODE) a)
    else if tierF ≤ a ∧ a < 2 * tierF then (match old.chanOf (a - tierF) with
      | some x => tierF + s.fOffset x.1 x.2
      | none => a)
    else a
  { s with mem := s.mem.foldl (fun m p => sset memDefault m (move p.1) p.2) [] }

/-- PGM_FREE and PGM_QUAR counted from the directory after a change of the pools (R208). -/
def State.recountPages (s : State) : State :=
  let n := s.f PGM_POOLN_PAGES
  let count (st lo k : Nat) := ((List.range k).filter (fun i => s.pageSt (lo + i) == st)).length
  (((s.setf PGM_FREE_TIER_N (count 0 0 n)).setf PGM_FREE_TIER_F (count 0 n (s.f PGM_POOLF_PAGES))).setf PGM_QUAR_TIER_N (count 2 0 n)).setf
    PGM_QUAR_TIER_F (count 2 n (s.f PGM_POOLF_PAGES))

/-- The array a key of the COR part of a core window belongs to. -/
def corOf (k : Nat) : Nat := 32 * coreOf k + (k % 0x8000 - 0x5100) / 0x40

/-- The key holds an array's RANK or COR_FACT: an image's commit of either clears FACT_VALID (R261). -/
def isFactKey (k : Nat) : Bool :=
  let rel := k % 0x8000
  decide (0x2000000 ≤ k) && decide (k < 0x4000000) && decide (0x5100 ≤ rel) && decide (rel < 0x5900) && (rel % 0x40 == 0 || rel % 0x40 == 8)

/-- What follows from a change of a register in a core window: protection (R152), RANK and COR_FACT (R162). -/
def State.coreEffect (s old : State) (k : Nat) : State :=
  let rel := k % 0x8000
  if rel = 0x4000 then
    (List.range 16).foldl (fun s b => s.when (old.secded (coreOf k) b != s.secded (coreOf k) b) (·.clearBank (coreOf k) b)) s
  else if 0x5100 ≤ rel ∧ rel < 0x5900 ∧ rel % 0x40 = 0 then
    s.when (old.f (COR_ACFG_RANK (corOf k)) != s.f (COR_ACFG_RANK (corOf k))) (·.setf (COR_ACFG_FACT_VALID (corOf k)) 0)
  else if 0x5100 ≤ rel ∧ rel < 0x5900 ∧ rel % 0x40 = 8 then
    s.when (old.f (COR_FACT_ADDR (corOf k)) != s.f (COR_FACT_ADDR (corOf k))) (·.setf (COR_ACFG_FACT_VALID (corOf k)) 0)
  else s

/-- What follows from the value a register takes at a tick: a change of owner (R44), a stand-in (R303), a new prefix seed (R230), a
setpoint (R446), a forced level (R455), a memory mapping, this package's ID (R327), the journal's and the pools' sizes. -/
def State.regEffect (s old : State) (k : Nat) : State :=
  if 0x2000000 ≤ k ∧ k < 0x4000000 then s.coreEffect old k
  else if old.reg k = s.reg k then s
  else if 0x100100 ≤ k ∧ k < 0x100280 then { s with ownAt := sput s.ownAt ((k - 0x100100) / 8) s.now }
  else if k = 0x600018 then
    ((List.range 8).foldl (fun s m => s.standIn m (bits (old.reg 0x600018).toNat (8 * m) 8)) s).rejudge
  else if k = 0x400018 ∨ k = 0x400020 then s.prefixes.foldl State.dropPrefix s
  else if 0xD00000 ≤ k ∧ k < 0xD00020 then (List.range 8).foldl (fun s i => s.setRail (k - 0xD00000 + i) (s.f (CHK_RAIL (k - 0xD00000 + i)))) s
  else if k = 0xE00000 then s.request
  else if k = 0x800000 ∨ k = 0x800008 then s.remap old
  else if k = 0x600000 then s.rejudge
  else if k = 0xA00008 ∨ k = 0xA00010 then s.jCount
  else if k = 0x500000 ∨ k = 0x500008 then s.recountPages
  else s

/-! ### Patches that take effect (R296, R368, R398, R400) -/

/-- The patches enabled. -/
def State.patches (s : State) : List Patch := s.patchList.filterMap s.patch

/-- A member has left the job or is lost: tree, roles, and its requests' home (R398, R402, R480). -/
def State.memberGone (s : State) (l : Nat) : State := if s.qdr.gone.contains l then s else (s.loseMember l).adopt l

/-- The Quadrille tree and the roles as TOPO gives them (R334, R249). -/
def State.plantTree (s : State) (tp : Topo) : State :=
  let s : State := { s with qdr := { s.qdr with kids := tp.kids, fbParent := tp.fbParent } }
  let s := (s.setf QDR_TREE_STANDBY (s.memberPkg tp.standby)).setf QDR_TREE_IS_STANDBY (bit (tp.standby == tp.self))
  let s := ((s.setf SRV_CFG_ROOT (s.memberPkg s.admRoot)).setf SRV_CFG_IS_ROOT (bit (s.admRoot == tp.self))).setf SRV_CFG_IS_SAMPLER
    (bit (tp.sampler == tp.self))
  s.showTree tp.parent tp.depth

/-- A member is back in its role (R400): the tree of TOPO with the members still lost taken out. -/
def State.memberBack (s : State) (l : Nat) : State :=
  match s.topo with
  | none => s
  | some tp =>
    let rest := s.qdr.gone.filter (· ≠ l)
    rest.foldl State.loseMember (State.plantTree { s with qdr := { s.qdr with gone := [] } } tp)

/-- A fenced core powers down: its tiles' banks go off (R296). -/
def State.powerDown (s : State) (c : Nat) : State := (List.range 8).foldl (fun s t => s.setf (CNV_STAT_POWERED (8 * c + t)) 0) s

/-- A suspect's fence or fallback patch is among those that take effect (R368). -/
def relieves (ps : List Patch) (kind unit : Nat) : Bool :=
  ps.any (fun (p : Patch) => (p.kind == .fence && p.cores.contains (if kind = 1 then unit / 32 else unit)) ||
    (p.kind == .fallback && kind == 1 && p.arrays.contains unit))

/-- The recovery state follows the reconstruct patches in force (R398, R410). -/
def State.rcvState (s old : State) (new : List Patch) : State :=
  let s := (new.filter (fun (p : Patch) => p.kind = .reconstruct)).foldl (fun s (p : Patch) =>
    (((s.setf RCV_STATE_STATE 4).setf RCV_STATE_LOST_MEMBER p.member).inc RCV_CNT_RECONSTRUCTS).evt RCV_EVT_RECONSTRUCT) s
  if old.f RCV_STATE_STATE = 4 ∧ ¬ s.patches.any (fun (p : Patch) => p.kind == .reconstruct) then
    (s.setf RCV_STATE_STATE 1).setf RCV_STATE_LOST_MEMBER 0xFFFFFFFF
  else s

/-- What follows from the patch set that takes effect at a tick: fenced cores, suspects relieved, members taken out of the job and taken
back. -/
def State.patchEffects (s old : State) : State :=
  let new := (s.patchList.filter (fun p => !old.patchList.contains p)).filterMap s.patch
  let fenced := ((s.patches.filter (fun (p : Patch) => p.kind = .fence)).map Patch.cores).flatten.eraseDups
  let s : State := { s with fenced := fenced }
  let s := (fenced.filter (fun c => !old.fenced.contains c)).foldl State.powerDown s
  let s := (List.range 16).foldl (fun s i =>
    s.when (s.f (CHK_SUSP_STATE i) == 2 && relieves new (s.f (CHK_SUSP_KIND i)) (s.f (CHK_SUSP_UNIT i))) (·.freeSuspect i)) s
  let s := (new.filter (fun (p : Patch) => p.kind = .reconstruct)).foldl (fun s (p : Patch) => s.memberGone p.member) s
  let s := (new.filter (fun (p : Patch) => p.kind = .back)).foldl (fun s (p : Patch) => s.memberBack p.member) s
  let s : State := if new.any (fun (p : Patch) => p.kind == .rejoin) then { s with copied := 0 } else s
  (s.rcvState old new).refreshUse

/-! ### The image takes effect and is removed (R255, R269, R270) -/

/-- Keys of an array's ARR_CFG and ARR_TOL and of its range codes, as the array. -/
def cfgArr (k : Nat) : Option Nat :=
  if 0x1100000000 ≤ k ∧ k < 0x1200000000 then some ((k - 0x1100000000) / 0x400)
  else if 0x2000000 ≤ k ∧ k < 0x4000000 ∧ k % 0x8000 < 0x1000 then some (32 * coreOf k + k % 0x8000 / 0x80)
  else none

/-- Bits that keep their values when an image takes effect or is removed (R255): the package ID, the mapping modes, and what PROGRAM
loaded into an array (range codes DEDUCED with it: notes/assumptions/42.md). -/
def State.kept (s : State) (k : Nat) : Nat :=
  if k = 0x600000 then 0xFFFFF
  else if k = 0x800000 ∨ k = 0x800008 then 1
  else match cfgArr k with
    | some A => if s.f (ARR_STATE_STATE A) = 2 ∨ s.f (ARR_STATE_STATE A) = 3 then 2 ^ 64 - 1 else 0
    | none => 0

/-- Every RWT field at its reset value, but for what is kept. -/
def State.plainRegs (s : State) : State :=
  let fresh (p : Nat × Word) : Nat × Word :=
    let m := rwtMask p.1 - Nat.land (rwtMask p.1) (s.kept p.1)
    let v := p.2.toNat
    (p.1, BitVec.ofNat 64 (v - Nat.land v m + Nat.land (resetVal p.1).toNat m))
  let s : State := { s with regs := (s.regs.map fresh).filter (fun p => p.2 ≠ resetVal p.1) }
  (List.range 32).foldl (fun s n => s.setf (PWR_VCORE n) (factoryCode n)) s

/-- One entry of the register list (R255). Converter data and scales lie behind selectors and are not reached by it. -/
def State.putEntry (s : State) (e : RegEntry) : State :=
  let keep := if e.off = 0x600000 then 0xFFFFF else if e.off = 0x800000 ∨ e.off = 0x800008 then 1 else 0
  let far := (e.off % 0x8000 < 0x1800 ∧ 0x1000 ≤ e.off % 0x8000 ∧ e.off % 0x100 = 0x30) ∨ (e.off % 0x8000 < 0x2800 ∧ 0x2000 ≤ e.off % 0x8000 ∧ e.off % 0x100 = 8)
  if 0x2000000 ≤ e.off ∧ far then s else s.putBits e.off (rwtMask e.off - Nat.land (rwtMask e.off) keep) e.val

/-- Registers that differ between two states. -/
def State.changed (s old : State) : List Nat :=
  ((old.regs ++ s.regs).map Prod.fst).eraseDups.filter (fun k => old.reg k ≠ s.reg k)

/-- What serving and recovery keep of a job, gone with its image. A package without one rejects the commands it had not decided. -/
def State.clearJob (s : State) : State :=
  let s : State := { s with reqs := [], posts := [], fwd := s.undecided ++ s.fwd, undecided := [], fwdIn := [], notices := [], leaves := [],
                            evicts := [], arrivals := [], decisions := [], ctrlQ := [], freeRep := [], nextOrder := 0 }
  let s : State := { s with prefixes := [], nextHandle := 0, moving := [], cow := [], kvFail := [], taint := [], summaries := [],
                            draftTok := [], chains := [], delivered := [], snaps := [], decLog := [], mirUsed := [], copied := 0, fill := [],
                            fillNext := [], staged := [], joinSeen := none, lspIn := [] }
  (s.setDeferred []).countLive.jCount

/-- SERV's parameters that registers show (R208, R249). -/
def State.showServ (s : State) (sv : Serv) : State :=
  let s := s.setf SRV_STEP_CHUNK sv.chunk
  let s := (List.range 11).foldl (fun s b =>
    let x := sv.buckets.getD b (0, false)
    (s.setf (PGM_BKT_MAX_BATCH b) x.1).setf (PGM_BKT_MODE b) (bit x.2)) s
  let s := ((s.setf PGM_FREE_TIER_N (s.f PGM_POOLN_PAGES)).setf PGM_FREE_TIER_F (s.f PGM_POOLF_PAGES)).setf PGM_MIG_IN_FLIGHT 0
  let s := (s.setf PGM_QUAR_TIER_N 0).setf PGM_QUAR_TIER_F 0
  (List.range s.pageCount).foldl (fun s p => s.putPage p 0 0 0) s

/-- The state of a drain, as registers show it (R482, R509). -/
def State.setDrain (s : State) (st : Nat) : State :=
  let s : State := { s with drain := { s.drain with st := st } }
  if s.f SYS_STATUS_DRAIN = st then s else (s.setf SYS_STATUS_DRAIN st).evt SYS_EVT_DRAIN

/-- LEFT is reached: MGT DRAIN answers (R479, R482). -/
def State.drainLeft (s : State) : State :=
  let s := s.setDrain 4
  if s.drain.door then State.reply { s with drain := { s.drain with door := false } } 1 0 [] else s

/-- The image takes effect (R255, R257, R269, R274, R422); `base` is JOB_BASE. -/
def State.applyImage (s : State) (base : Nat) : State :=
  match s.staging with
  | none => s
  | some im =>
    let old := s
    let s := im.regList.foldl State.putEntry s.plainRegs
    let s := im.scales.foldl (fun s x => (List.range x.2.length).foldl (fun s i =>
      s.putBits (scaleBank (4 * x.1 + i / 256) (i % 256)) (2 ^ 32 - 1) (x.2.getD i 0)) s) s
    let c := im.combos.headD ⟨0, []⟩
    let s : State := { s with img := some im, staging := none, qdr := {}, failSolo := false }
    let s := ((s.setf IMG_STATE_STATE 6).setf IMG_APPLY_APPLY 1).setf IMG_JOB_JOB_BASE base
    let s := (s.setf PAV_FRAME_FRAME_NUM 0).setf PAV_HORIZON_HORIZON 0
    let s := (s.setf PAV_SEL_VARIANT c.variant).putPatches c.patches
    let s := (s.changed old).foldl (fun s k => s.regEffect old k) s
    let s := im.regList.foldl (fun s (e : RegEntry) =>
      s.when (isFactKey e.off) (·.setf (COR_ACFG_FACT_VALID (corOf e.off)) 0)) s
    let s := (s.clearJob.showServ im.serv).jCount
    let tp := im.topo
    let s := ((s.setf QDR_JOB_JOB_ID tp.jobId).setf QDR_JOB_MEMBERS tp.members.length).setf QDR_SELF_MEMBER_IDX tp.self
    let s := (s.setf RCV_STATE_STATE 1).setf RCV_STATE_LOST_MEMBER 0xFFFFFFFF
    let s := ((s.plantTree tp).patchEffects { old with fenced := [] }).extend 5 s.imgDigest
    let s : State := { s with drain := { s.drain with asked := false, st := 0 } }
    ((s.setf SYS_STATUS_DRAIN 0).setPhase 4).evt IMG_EVT_IMG_APPLIED

/-- The image is removed (R270): RWT fields and owners at their reset values, no page pool, transit mode. -/
def State.removeImage (s : State) : State :=
  if ¬ s.active then s
  else
    let old := s
    let s := s.plainRegs
    let s : State := { s with img := none, staging := none, stageBase := 0, stageLen := 0, failSolo := false, fenced := [],
                              qdr := { excluded := s.qdr.excluded },
                              pav := { s.pav with stopped := false, faulted := false, waitDead := false, waits := [] } }
    let s := ((s.setf IMG_STATE_STATE 0).setf IMG_APPLY_APPLY 0).setf IMG_JOB_JOB_BASE 0
    let s := s.setImgId 0 0
    let s := (s.changed old).foldl (fun s k => s.regEffect old k) s
    let s := s.clearJob.showServ ⟨[], 0, [], 0, [], [], []⟩
    let s := [0x700008, 0x700010, 0x700018, 0x700020, 0x700028].foldl (fun s k => s.setReg k 0) s
    let s := ((s.setf SRV_CFG_ROOT 0).setf SRV_CFG_IS_ROOT 0).setf SRV_CFG_IS_SAMPLER 0
    let s := ((s.setf RCV_STATE_STATE 0).setf RCV_STATE_LOST_MEMBER 0xFFFFFFFF).refreshUse
    let s := (List.range 11).foldl (fun s b => s.setf (PGM_BKT_OCCUPIED b) 0) s
    let s := (s.setPhase (if s.halted then 6 else 3)).evt IMG_EVT_IMG_REMOVED
    if 1 ≤ s.drain.st ∧ s.drain.st ≤ 3 then s.drainLeft else s

/-! ### Transactions at a tick (R267, R272) -/

/-- IMG_APPLY's value in a transaction, if it sets it. -/
def applyOf (p : TxnPend) : Option Nat := (p.shadows.find? (fun (w : Shadow) => w.key = 0x300020)).map (fun w => w.val % 2)

/-- The combination that a transaction's shadows leave in force is listed (R257). -/
def State.leavesListed (s : State) (p : TxnPend) : Bool :=
  let s := (p.shadows.filter (fun (w : Shadow) => decide (0x100020 ≤ w.key) && decide (w.key < 0x100068))).foldl
    (fun s (w : Shadow) => s.putBits w.key w.mask w.val) s
  s.listed (s.f PAV_SEL_VARIANT) s.patchList

/-- The first step of R267 at which a transaction fails: OWNER_CHANGED, RANGE or UNLISTED. -/
def State.txnFails (s : State) (p : TxnPend) : Option Nat :=
  if p.shadows.any (fun (w : Shadow) => match sfind s.ownAt (keyGroup w.key) with
      | some a => decide (w.stamp < a) && decide (a < s.f PAV_TICK_TICK_STAMP)
      | none => false) then some 0x08
  else if ¬ p.shadows.all (fun (w : Shadow) => decide (0x4000000 ≤ w.key) || s.rangeOk w.key (s.merged_ w)) then some 0x06
  else if s.active ∧ (applyOf p).isNone ∧ ¬ s.leavesListed p then some 0x09
  else none

/-- All shadows of a transaction take effect together: an image that takes effect or is removed sets every RWT field itself
(notes/assumptions/43.md). -/
def State.takeShadows (s : State) (p : TxnPend) : State :=
  match applyOf p with
  | some 1 => s.applyImage (if p.job ∧ p.mode = 1 then p.target else 0)
  | some _ => if s.active then s.removeImage else s.setf IMG_APPLY_APPLY 0
  | none =>
    let old := s
    let s := p.shadows.foldl (fun s (w : Shadow) => s.putBits w.key w.mask w.val) s
    let s := p.shadows.foldl (fun s (w : Shadow) => s.regEffect old w.key) s
    let s := if p.shadows.any (fun (w : Shadow) => w.key = 0xA00070) then s.bindAdopted (s.f RCV_ADOPT_QUEUE) else s
    if touchesVariant p.shadows then s.patchEffects old else s

/-- The transaction ID of a member's leave (notes/assumptions/44.md). -/
def leaveId (m f : Nat) : Nat := 2 ^ 31 + f % 2 ^ 15 * 2 ^ 16 + m % 2 ^ 16

/-- A leave's transaction has applied: the others run as after the loss of that member (R480). -/
def State.leaveDone (s : State) (p : TxnPend) : State :=
  match s.leaves.find? (fun x => p.q = .larkspur ∧ p.id = leaveId x.1 x.2) with
  | some x =>
    let s : State := { s with leaves := s.leaves.filter (fun y => y ≠ x) }
    if s.topo.any (fun t => t.self == x.1) then s else s.memberGone x.1
  | none => s

/-- One transaction at its tick (R267); a JOB-scope one that fails here on this member alone is TXN_SPLIT (R272). -/
def State.applyTxn (s : State) (p : TxnPend) : State :=
  let s := s.setPend (s.txnPend.filter (fun (x : TxnPend) => x ≠ p))
  match s.txnFails p with
  | some code =>
    (s.endTxn p.q p.id code).when p.job (fun s => ((s.inc TXN_CNT_SPLIT).evt TXN_EVT_SPLIT).raise 2 0x18 0 (s.f FAB_ID_PKG_ID) p.id)
  | none => ((s.takeShadows p).endTxn p.q p.id 0x02).leaveDone p

/-- A transaction is due at the current tick: `start` at a START apply tick, `join` at a joiner's. -/
def State.txnDue (s : State) (start join : Bool) (p : TxnPend) : Bool :=
  match p.mode with
  | 0 => decide (p.stamp < s.f PAV_TICK_TICK_STAMP)
  | 1 =>
    if s.active then decide (p.target ≤ s.jobFrame)
    else if p.job ∧ p.verdict = .commit then join
    else match s.joinSeen with
      | some f => decide (p.target ≤ f + 1)
      | none => !p.job && decide (p.target ≤ s.frame)
  | _ => start && (!p.job || p.verdict == .commit)

/-- Applied before another: by COMMIT stamp, then requester code (R267). -/
def txnBefore (a b : TxnPend) : Bool := decide (a.stamp < b.stamp) || (a.stamp == b.stamp && decide (a.q.code ≤ b.q.code))

/-- Transactions in the order of R267. -/
def insTxn (p : TxnPend) : List TxnPend → List TxnPend
  | [] => [p]
  | x :: xs => if txnBefore x p then x :: insTxn p xs else p :: x :: xs

/-- Step 1 of R27: every transaction due at the tick is applied or fails; a JOB-scope FRAME one without a COMMIT verdict ends with
ROUND_ABORT (R272). -/
def State.applyDue (s : State) (start join : Bool) : State :=
  let due := (s.txnPend.filter (s.txnDue start join)).foldl (fun l p => insTxn p l) []
  due.foldl (fun s p =>
    if ¬ s.txnPend.contains p then s
    else if p.job ∧ p.mode = 1 ∧ p.verdict ≠ .commit then (s.setPend (s.txnPend.filter (fun (x : TxnPend) => x ≠ p))).endTxn p.q p.id 0x0A
    else s.applyTxn p) s

end Sys2Proof.Machine
end

