-- ==== Sys2Proof/Machine/Sec.lean ====
section
/-! DEFINITION. Yarrow's commands, Larkspur's starts, watchdog and live update, ownership, keys, measurements, quotes and debug
(R413 to R438). Signature and decapsulation verdicts and the bytes of a signature are operands. -/

namespace Sys2Proof.Machine

/-! ### The device's own data (R415, R418, R419) -/

/-- Bytes of the calibration store. -/
def storeBytes (a n : Nat) : List Nat := (List.range n).map (fun i => (Config.store (a + i)).toNat)

/-- DEVICE_ID: the first 16 bytes of the SHA-256 of the identity public key (R418). -/
def deviceId : List Nat := (sha256 (storeBytes 64 32)).take 16

/-- ORDER of R419: "HBX-Z8A-512", padded with zero bytes. -/
def orderCode : List Nat := [0x48, 0x42, 0x58, 0x2D, 0x5A, 0x38, 0x41, 0x2D, 0x35, 0x31, 0x32, 0, 0, 0, 0, 0]

/-- The device certificate (R419). -/
def certificate : List Nat := deviceId ++ orderCode ++ [0xB0] ++ List.replicate 15 0 ++ storeBytes 48 17840

/-- The vendor root public key, in the calibration store (R415). -/
def vendorPk : List Nat := storeBytes 20000 48

/-- The owner key (R415). -/
def State.ownerKey (s : State) : Option (List Nat) := if s.ownerHash.isSome then s.fuses.ownerPk.getLast? else none

/-- What MR4 is extended with: SHA-256 of the owner key, or 32 bytes of 0xFF when UNOWNED (R422). -/
def State.ownerDigest (s : State) : List Nat := s.ownerHash.getD (List.replicate 32 0xFF)

/-- The SEC registers that show the fuses (R441). -/
def State.showFuses (s : State) : State :=
  let s := ((s.setf SEC_STATE_OWNER_SLOTS s.fuses.owners.length).setf SEC_STATE_FLOOR_I s.fuses.floorI).setf SEC_STATE_FLOOR_L s.fuses.floorL
  let s := ((s.setf SEC_STATE_FLOOR_Y s.fuses.floorY).setf SEC_STATE_DEBUG_KILL (bit s.fuses.dkill)).setf SEC_STATE_OWNED (bit s.ownerHash.isSome)
  (List.range 4).foldl (fun s w => s.setf (SEC_OWNER_HASH w) (leNat ((s.ownerDigest.drop (8 * w)).take 8))) s

/-- DEVICE_ID in SEC_DEVID (R441). -/
def State.showId (s : State) : State :=
  (s.setf (SEC_DEVID_ID 0) (leNat (deviceId.take 8))).setf (SEC_DEVID_ID 1) (leNat (deviceId.drop 8))

/-! ### Areas of commands (R436, R438) -/

/-- A tier N area a command names: 64-byte aligned and inside the tier; none other is accepted (notes/assumptions/46.md). On SB_SEC
areas travel in the messages. -/
def State.areaOk (s : State) (d off n : Nat) : Bool := d == 3 || (off % 64 == 0 && s.rangeHas false off n)

/-- The bytes of a record a command reads. -/
def State.area (s : State) (d : Nat) (rec : List Nat) (off n : Nat) : List Nat := if d = 3 then rec.take n else s.bytes off n

/-- Bytes that a command writes to its destination, or sends on the sideband. -/
def State.putArea (s : State) (d off : Nat) (bs : List Nat) : State :=
  if d = 3 then { s with out := s.out ++ [.sideband bs] } else s.write off bs

/-- A command with an area: BAD_RECORD where there is none. -/
def State.withArea (s : State) (d off n : Nat) (f : State → State) : State := if s.areaOk d off n then f s else s.reply d 0x03 []

/-- BAD_SIG, counted (R441). -/
def State.badSig (s : State) (d : Nat) : State := (s.inc SEC_CNT_BAD_SIG).reply d 0x04 []

/-- Bytes `lo` to `lo + n − 1` of a record, and the number there. -/
def part (r : List Nat) (lo n : Nat) : List Nat := (r.drop lo).take n
def partNum (r : List Nat) (lo n : Nat) : Nat := leNat (part r lo n)

/-! ### Identity, measurement and quotes (R422, R423, R429, R430, R438) -/

/-- GET_ID (R438). -/
def execGetId (t door : Nat) (s : State) : Host.Outcome State Fault Refusal :=
  .next ((s.at t).secDoor door 0x01 [0, 1, 2, 3] (fun s =>
    s.reply door 0 [s.f (SEC_DEVID_ID 0), s.f (SEC_DEVID_ID 1), (s.reg 0xB00000).toNat]))

/-- GET_CERT (R419, R438). -/
def execGetCert (t door : Nat) (s : State) : Host.Outcome State Fault Refusal :=
  .next ((s.at t).secDoor door 0x02 [0, 1, 2, 3] (fun s =>
    s.withArea door (s.reqWord door 1) 17888 (fun s => (s.putArea door (s.reqWord door 1) certificate).reply door 0 [])))

/-- The quote's bytes before the signature (R429). -/
def State.quoteBytes (s : State) (nonce : List Nat) (mask : Nat) : List Nat :=
  deviceId ++ nonce ++ [mask, bit s.ownerHash.isSome + 4 * s.f SEC_STATE_DEBUG + 16 * bit s.fuses.dkill] ++ leBytes 2 s.yar.lost ++
  leBytes 4 s.yar.mlog.length ++ leBytes 8 s.now ++ leBytes 8 s.frameOrOnes ++
  (if s.active then leBytes 8 (s.f (IMG_ID_ID 0)) ++ leBytes 8 (s.f (IMG_ID_ID 1)) else List.replicate 16 0) ++
  leBytes 4 (s.f SEC_VER_YARROW) ++ leBytes 4 (s.f SEC_VER_LARKSPUR) ++ List.replicate 32 0 ++
  (((List.range 8).filter (fun i => bits mask i 1 = 1)).map s.mr).flatten

/-- QUOTE (R429, R430, R434): the state at this moment; `sig` is the signature over it. -/
def execQuote (t door : Nat) (sig : List Nat) (s : State) : Host.Outcome State Fault Refusal :=
  .next ((s.at t).secDoor door 0x03 [0, 1, 2, 3] (fun s =>
    if s.f SEC_STATE_DEBUG = 2 then s.reply door 0x0A []
    else
      let q := s.quoteBytes (((List.range 4).map (fun i => leBytes 8 (s.reqWord door (1 + i)))).flatten) (s.reqWord door 5 % 256) ++ sig.take 7856
      s.withArea door (s.reqWord door 6) q.length (fun s =>
        ((s.putArea door (s.reqWord door 6) q).inc SEC_CNT_QUOTES).reply door 0 [])))

/-- A measurement log entry (R422). -/
def mlogBytes (e : Nat × Nat × List Nat) : List Nat := [e.1] ++ List.replicate 7 0 ++ leBytes 8 e.2.1 ++ e.2.2

/-- GET_MLOG (R422, R438). -/
def execGetMlog (t door : Nat) (s : State) : Host.Outcome State Fault Refusal :=
  .next ((s.at t).secDoor door 0x04 [0, 2] (fun s =>
    s.withArea door (s.reqWord door 1) (48 * s.yar.mlog.length) (fun s =>
      (s.putArea door (s.reqWord door 1) (s.yar.mlog.map mlogBytes).flatten).reply door 0 [s.yar.mlog.length])))

/-- EXTEND (R422): NO_SLOT once the log holds 960 entries. -/
def execExtend (t door : Nat) (s : State) : Host.Outcome State Fault Refusal :=
  .next ((s.at t).secDoor door 0x05 [0, 2] (fun s =>
    if 960 ≤ s.yar.mlog.length then s.reply door 0x08 []
    else (s.extend 7 (((List.range 4).map (fun i => leBytes 8 (s.reqWord door (1 + i)))).flatten)).reply door 0 []))

/-! ### Ownership, image keys and the image floor (R425, R426, R428) -/

/-- A new owner, or a release by an all-zero key (R425). -/
def State.newOwner (s : State) (pk : List Nat) : State :=
  let h := if pk.all (· == 0) then List.replicate 32 0xFF else sha256 pk
  let s : State := { s with fuses := { s.fuses with owners := s.fuses.owners ++ [h], ownerPk := s.fuses.ownerPk ++ [pk], keys := [] } }
  ((s.extend 4 s.ownerDigest).inc SEC_CNT_TRANSFERS).showFuses

/-- OWNER_TRANSFER (R425): the first failing check answers. -/
def execOwnerTransfer (t door : Nat) (sig : Bool) (s : State) : Host.Outcome State Fault Refusal :=
  .next ((s.at t).secDoor door 0x06 [0] (fun s =>
    if ¬ [0, 7].contains s.imgSt then s.reply door 0x06 []
    else s.withArea door (s.reqWord door 1) 16296 (fun s =>
      let r := s.bytes (s.reqWord door 1) 72
      if part r 0 16 ≠ deviceId ∨ partNum r 16 4 ≠ s.fuses.owners.length then s.reply door 0x03 []
      else if 8 ≤ s.fuses.owners.length then s.reply door 0x09 []
      else if ¬ sig then s.badSig door
      else (s.newOwner (part r 24 48)).reply door 0 [])))

/-- KEY_IMPORT (R426, R434): `key` is the image key under the storage key, none where it does not unwrap. -/
def execKeyImport (t door : Nat) (sig : Bool) (key : Option (List Nat)) (s : State) : Host.Outcome State Fault Refusal :=
  .next ((s.at t).secDoor door 0x07 [0] (fun s =>
    if s.f SEC_STATE_DEBUG = 2 then s.reply door 0x0A []
    else s.withArea door (s.reqWord door 1) 17888 (fun s =>
      let r := s.bytes (s.reqWord door 1) 18
      if part r 0 16 ≠ deviceId ∨ 16 ≤ partNum r 16 2 then s.reply door 0x03 []
      else if ¬ (sig ∧ s.ownerHash.isSome) then s.badSig door
      else match key with
        | none => s.reply door 0x03 []
        | some k => ({ s with fuses := { s.fuses with keys := sput s.fuses.keys (partNum r 16 2) k } } : State).reply door 0 [])))

/-- KEY_ERASE (R426). -/
def execKeyErase (t door : Nat) (s : State) : Host.Outcome State Fault Refusal :=
  .next ((s.at t).secDoor door 0x08 [0] (fun s =>
    if 16 ≤ s.reqWord door 1 then s.reply door 0x03 []
    else ({ s with fuses := { s.fuses with keys := serase s.fuses.keys (s.reqWord door 1) } } : State).reply door 0 []))

/-- ROLL_ADVANCE (R424, R428). -/
def execRollAdvance (t door : Nat) (sig : Bool) (s : State) : Host.Outcome State Fault Refusal :=
  .next ((s.at t).secDoor door 0x09 [0] (fun s =>
    s.withArea door (s.reqWord door 1) 16256 (fun s =>
      let r := s.bytes (s.reqWord door 1) 20
      let n := partNum r 16 4
      if part r 0 16 ≠ deviceId ∨ n < s.fuses.floorI then s.reply door 0x03 []
      else if 64 < n then s.reply door 0x09 []
      else if ¬ (sig ∧ s.ownerHash.isSome) then s.badSig door
      else (State.showFuses { s with fuses := { s.fuses with floorI := n } }).reply door 0 [])))

/-! ### Firmware images (R420, R421, R424) -/

/-- The length of a firmware image's body, from its header. -/
def State.fwLen (s : State) (d : Nat) (rec : List Nat) : Nat := partNum (s.area d rec (s.reqWord d 1) 16288) 16 8

/-- A firmware image verifies (R420): KIND, SVN, LENGTH, body digest, and the signature's verdict. -/
def fwOk (r kind : List Nat) (maxLen : Nat) (sig : Bool) : Bool :=
  part r 0 8 == kind && decide (partNum r 12 4 ≤ 64) && decide (partNum r 16 8 ≤ maxLen) &&
  sha256 (part r 16288 (partNum r 16 8)) == part r 32 32 && sig

/-- KIND of a Yarrow and of a Larkspur image: HBXFWYAR, HBXFWLRK. -/
def kindYar : List Nat := [0x48, 0x42, 0x58, 0x46, 0x57, 0x59, 0x41, 0x52]
def kindLrk : List Nat := [0x48, 0x42, 0x58, 0x46, 0x57, 0x4C, 0x52, 0x4B]

/-- A firmware slot's VERSION, SVN and digest. -/
def slotOf (ss : List (Nat × Nat × Nat × List Nat)) (i : Nat) : Option (Nat × Nat × List Nat) := sfind ss i

/-- The slot that runs of those that qualify: the higher VERSION, slot A on a tie (R421). -/
def pickSlot (ss : List (Nat × Nat × Nat × List Nat)) (fit : List Nat) : Option Nat :=
  if fit.contains 0 ∧ fit.contains 1 then
    some (if ((slotOf ss 0).elim 0 Prod.fst) < ((slotOf ss 1).elim 0 Prod.fst) then 1 else 0)
  else if fit.contains 0 then some 0
  else if fit.contains 1 then some 1
  else none

/-- The slots whose image verifies (`ok`) and whose SVN is at least the floor (R421). -/
def fitSlots (ss : List (Nat × Nat × Nat × List Nat)) (ok : List Nat) (floor : Nat) : List Nat :=
  [0, 1].filter (fun i => ok.contains i && (match slotOf ss i with
    | some x => decide (floor ≤ x.2.1)
    | none => false))

/-- The VERSION and SVN of the Larkspur that runs, as registers show them (R441, R442). -/
def State.showLsp (s : State) (ver svn : Nat) : State :=
  ((s.setf SEC_VER_LARKSPUR ver).setf MGT_LVER_VERSION ver).setf MGT_LVER_SVN svn

/-- Larkspur is started from a slot: MR2 extended (R422), STARTING. -/
def State.startLsp (s : State) (i : Nat) : State :=
  match slotOf s.fuses.lspSlot i with
  | none => s
  | some x =>
    let s := ((s.setf SEC_STATE_LSP_SLOT i).setf MGT_LSTATE_STATE 1).showLsp x.1 x.2.1
    let s : State := { s with lsp := { s.lsp with startAt := s.now, ready := false, digest := x.2.2 } }
    s.extend 2 x.2.2

/-- The floors burnt once Larkspur has reported READY (R424). -/
def State.burnFloors (s : State) : State :=
  let y := (slotOf s.fuses.yarSlot (s.f SEC_STATE_YAR_SLOT)).elim 0 (fun x => x.2.1)
  let l := (slotOf s.fuses.lspSlot (s.f SEC_STATE_LSP_SLOT)).elim 0 (fun x => x.2.1)
  State.showFuses { s with fuses := { s.fuses with floorY := max s.fuses.floorY y, floorL := max s.fuses.floorL l } }

/-- Larkspur runs: its watchdog starts (R413). -/
def State.lspRuns (s : State) : State := { s.setf MGT_LSTATE_STATE 2 with lsp := { s.lsp with ready := true, kickAt := s.now } }

/-! ### The watchdog and the start at boot (R413, R469) -/

/-- KICK (R413). -/
def execKick (t door : Nat) (s : State) : Host.Outcome State Fault Refusal :=
  .next ((s.at t).secDoor door 0x0F [2] (fun s =>
    let s : State := { s with lsp := { s.lsp with kickAt := s.now } }
    (s.setf MGT_LSTATE_KICKS ((s.f MGT_LSTATE_KICKS + 1) % 2 ^ 32)).reply door 0 []))

/-- WATCHDOG_EXPIRE (R413): 1 s without a kick restarts Larkspur from the slot it booted from; a load ends with ABORTED. -/
def execWatchdogExpire (t : Nat) (s : State) : Host.Outcome State Fault Refusal :=
  let s := s.at t
  if s.power = .on ∧ s.f MGT_LSTATE_STATE = 2 ∧ s.lsp.kickAt + 1000000000 ≤ s.now then
    let s := ((s.larkspurDown.epochUp 3 0).inc MGT_CNT_RESTARTS).startLsp (s.f SEC_STATE_LSP_SLOT)
    .next (s.when (decide (1 ≤ s.imgSt) && decide (s.imgSt ≤ 4)) (·.loadFail 0x13 0))
  else .next s

/-- BOOT_READY_TIMEOUT (R469): 10 s after its start without READY Larkspur is restarted from the other qualifying slot, or is FAILED
after three restarts. -/
def execBootReadyTimeout (t : Nat) (s : State) : Host.Outcome State Fault Refusal :=
  let s := s.at t
  if s.power = .on ∧ s.f MGT_LSTATE_STATE = 1 ∧ s.f SYS_STATUS_PHASE < 3 ∧ s.lsp.startAt + 10000000000 ≤ s.now then
    if 3 ≤ s.lsp.tries then .next (s.larkspurDown.setf MGT_LSTATE_STATE 4)
    else
      let i := s.f SEC_STATE_LSP_SLOT
      let s : State := { s.larkspurDown.epochUp 3 0 with lsp := { s.lsp with tries := s.lsp.tries + 1 } }
      .next (s.startLsp (if s.lsp.fit.contains (1 - i) then 1 - i else i))
  else .next s

/-! ### Live update (R431, R432) -/

/-- Counts from the halt to the deadline for READY (R431). -/
def readyWindow : Nat := 2002097000

/-- LARKSPUR_UPDATE (R431): steps 1 to 3. -/
def execLarkspurUpdate (t door : Nat) (sig : Bool) (s : State) : Host.Outcome State Fault Refusal :=
  .next ((s.at t).secDoor door 0x0A [0] (fun s =>
    let off := s.reqWord door 1
    s.withArea door off (16288 + min (s.fwLen door []) (2 ^ 24)) (fun s =>
      let r := s.bytes off (16288 + min (s.fwLen door []) (2 ^ 24))
      if ¬ fwOk r kindLrk (2 ^ 24) sig then s.badSig door
      else if partNum r 12 4 < s.fuses.floorL then s.reply door 0x05 []
      else if (1 ≤ s.imgSt ∧ s.imgSt ≤ 4) ∨ s.audit.running then s.reply door 0x07 []
      else { s with lsp := { s.lsp with handover := some s.now, src := off, newVer := partNum r 8 4, newSvn := partNum r 12 4,
                                        newDig := part r 32 32, door := door } })))

/-- LARKSPUR_HALT (R431, R432): the first tick after Larkspur has answered HANDOVER, or after 100 ms; the new image is copied and
started. -/
def execLarkspurHalt (t : Nat) (answered : Bool) (s : State) : Host.Outcome State Fault Refusal :=
  let s := s.at t
  let tick := s.f PAV_TICK_TICK_STAMP
  if s.power = .on ∧ s.now = tick ∧ s.lsp.handover.any (fun h => decide (h < tick) && (answered || decide (h + 100000000 ≤ tick))) then
    let s := (s.larkspurDown.epochUp 3 0).setf MGT_LSTATE_STATE 3
    let s : State := { s with lsp := { s.lsp with handover := none, haltAt := some s.now, ready := false } }
    .next (s.extend 2 s.lsp.newDig)
  else .next s

/-- LARKSPUR_READY (R424, R431, R469): at boot the floors are burnt where due; in an update the image is written to the idle slot, which
is marked preferred, and the command is answered. -/
def execLarkspurReady (t : Nat) (s : State) : Host.Outcome State Fault Refusal :=
  let s := s.at t
  if s.power ≠ .on then .next s
  else match s.lsp.haltAt with
    | some h =>
      if h + readyWindow ≤ s.now then .next s
      else
        let i := 1 - s.f SEC_STATE_LSP_SLOT
        let l := s.lsp
        let s : State := { s with fuses := { s.fuses with lspSlot := sput s.fuses.lspSlot i (l.newVer, l.newSvn, l.newDig), lspPref := i },
                                  lsp := { l with haltAt := none, digest := l.newDig, fit := (l.fit ++ [i]).eraseDups } }
        let s := ((s.setf SEC_STATE_LSP_SLOT i).showLsp l.newVer l.newSvn).epochUp 3 0
        .next (((s.lspRuns.burnFloors).inc MGT_CNT_UPDATES).reply l.door 0 [])
    | none =>
      if s.f MGT_LSTATE_STATE = 1 then
        let boot := decide (s.f SYS_STATUS_PHASE < 3)
        .next (s.lspRuns.when boot State.burnFloors)
      else .next s

/-- UPDATE_REVERT (R431): without READY within 2 s of its start the new Larkspur is halted and the image of the slot that was running
starts again. -/
def execUpdateRevert (t : Nat) (s : State) : Host.Outcome State Fault Refusal :=
  let s := s.at t
  if s.power = .on ∧ s.lsp.haltAt.any (fun h => decide (h + readyWindow ≤ s.now)) then
    let s := (s.larkspurDown.epochUp 3 0).startLsp (s.f SEC_STATE_LSP_SLOT)
    let s : State := { s with lsp := { s.lsp with haltAt := none } }
    .next ((s.lspRuns.inc MGT_CNT_REVERTS).reply s.lsp.door 0x0F [])
  else .next s

/-- YARROW_STAGE (R433): the image goes to the idle slot, marked preferred. -/
def execYarrowStage (t door : Nat) (rec : List Nat) (sig : Bool) (s : State) : Host.Outcome State Fault Refusal :=
  .next ((s.at t).secDoor door 0x0B [0, 3] (fun s =>
    let off := s.reqWord door 1
    let n := 16288 + min (s.fwLen door rec) (2 ^ 20)
    s.withArea door off n (fun s =>
      let r := s.area door rec off n
      if ¬ fwOk r kindYar (2 ^ 20) sig then s.badSig door
      else if partNum r 12 4 < s.fuses.floorY then s.reply door 0x05 []
      else
        let i := 1 - s.f SEC_STATE_YAR_SLOT
        ({ s with fuses := { s.fuses with yarSlot := sput s.fuses.yarSlot i (partNum r 8 4, partNum r 12 4, part r 32 32), yarPref := i } } : State).reply door 0 [])))

/-! ### Debug (R434, R435) -/

/-- DEBUG_CHALLENGE (R435): a fresh 32-byte nonce. -/
def execDebugChallenge (t door : Nat) (s : State) : Host.Outcome State Fault Refusal :=
  .next ((s.at t).secDoor door 0x0C [0, 3] (fun s =>
    let a := s.fresh
    let b := s.used.fresh
    let c := s.used.used.fresh
    let e := s.used.used.used.fresh
    let s := s.used.used.used.used
    let s : State := { s with yar := { s.yar with nonce := some (([a, b, c, e].map (leBytes 8)).flatten, s.now) } }
    s.reply door 0 [a, b, c, e]))

/-- A nonce lives for 60 s (R435). -/
def State.nonceLives (s : State) : Option (List Nat) :=
  match s.yar.nonce with
  | some x => if s.now < x.2 + 60000000000 then some x.1 else none
  | none => none

/-- NONCE_EXPIRE (R435). -/
def execNonceExpire (t : Nat) (s : State) : Host.Outcome State Fault Refusal :=
  let s := s.at t
  if s.nonceLives.isNone then .next { s with yar := { s.yar with nonce := none } } else .next s

/-- The debug level rises; FULL erases Yarrow's derived keys; MR6 is extended with the SHA-256 of the level and the authoriser's key
(R422, R434, R435). -/
def State.unlock (s : State) (level : Nat) : State :=
  let key := if level = 2 then vendorPk else s.ownerKey.getD []
  let s := s.setf SEC_STATE_DEBUG (max level (s.f SEC_STATE_DEBUG))
  let s : State := if level = 2 then { s with yar := { s.yar with keysUp := false } } else s
  s.extend 6 (sha256 (level :: key))

/-- DEBUG_UNLOCK (R434, R435). -/
def execDebugUnlock (t door : Nat) (rec : List Nat) (sig : Bool) (s : State) : Host.Outcome State Fault Refusal :=
  .next ((s.at t).secDoor door 0x0D [0, 3] (fun s =>
    s.withArea door (s.reqWord door 1) 16288 (fun s =>
      let r := s.area door rec (s.reqWord door 1) 64
      let level := partNum r 16 1
      if part r 0 16 ≠ deviceId ∨ ¬ [1, 2].contains level then s.reply door 0x03 []
      else if s.nonceLives ≠ some (part r 32 32) then s.reply door 0x0B []
      else if level = 2 ∧ s.imgSt ≠ 0 then s.reply door 0x06 []
      else if level = 2 ∧ s.fuses.dkill then s.reply door 0x0A []
      else if ¬ (sig ∧ (level = 2 ∨ s.ownerHash.isSome)) then s.badSig door
      else (s.unlock level).reply door 0 [])))

/-- DEBUG_KILL (R435). -/
def execDebugKill (t door : Nat) (sig : Bool) (s : State) : Host.Outcome State Fault Refusal :=
  .next ((s.at t).secDoor door 0x0E [0] (fun s =>
    s.withArea door (s.reqWord door 1) 16256 (fun s =>
      if s.bytes (s.reqWord door 1) 16 ≠ deviceId then s.reply door 0x03 []
      else if ¬ (sig ∧ s.ownerHash.isSome) then s.badSig door
      else (State.showFuses { s with fuses := { s.fuses with dkill := true } }).reply door 0 [])))

end Sys2Proof.Machine
end

