-- ==== Sys2Proof/Machine/Boot.lean ====
section
/-! DEFINITION. Power and start-up: power-on to transit mode, package reset, rail and input faults, latched shutdowns, and the reset of
the PCIe function (R11, R43, R75, R88, R91, R146, R291, R343, R421, R422, R443 to R448, R452, R456 to R458, R466 to R473, R488, R505). -/

namespace Sys2Proof.Machine

/-! ### Losing power (R88, R443, R444) -/

/-- What a register keeps without power: the shutdown record and the PROG_CNT of an array, held in the calibration store (R90, R458). -/
def keptReg (p : Nat × Word) : Option (Nat × Word) :=
  if p.1 = 0xD00058 then some p
  else if 0x2000000 ≤ p.1 ∧ p.1 < 0x4000000 ∧ p.1 % 0x8000 < 0x1000 ∧ p.1 % 0x80 = 8 then
    (if p.2.toNat / 2 ^ 32 = 0 then none else some (p.1, BitVec.ofNat 64 (p.2.toNat / 2 ^ 32 * 2 ^ 32)))
  else none

/-- Every rail is off: only the calibration store, the fuses and the cells keep their content (R444). -/
def State.wiped (s : State) (p : Power) : State :=
  { pending := s.pending, now := s.now, power := p, regs := s.regs.filterMap keptReg, lastRead := s.lastRead, out := s.out, cells := s.cells,
    fuses := s.fuses, freeCount := s.freeCount, heat := { trip := decide (p = .latched) } }

/-- INPUT_FAULT (R443): the input has been below 44 V or above 63 V for 10 µs. -/
def execInputFault (t : Nat) (s : State) : Host.Outcome State Fault Refusal :=
  let s := s.at t
  if s.power = .on ∨ s.power = .rom then .next (s.wiped .off) else .next s

/-- RAIL_FAULT (R447, R458): a rail of RAIL_OK's numbering has been outside its window for 10 µs; `written` says whether the record of a
VBUS or VHUB fault was written in time. Under the ROM alone only those two rails are up (R421). -/
def execRailFault (t rail : Nat) (written : Bool) (s : State) : Host.Outcome State Fault Refusal :=
  let s := s.at t
  if (s.power = .on ∧ rail < 10) ∨ (s.power = .rom ∧ [0, 7].contains rail) then
    let s := if written ∨ ¬ [0, 7].contains rail then
        ((s.setf PWR_LASTOFF_CAUSE 2).setf PWR_LASTOFF_INDEX rail).setf PWR_LASTOFF_READING 0
      else s
    .next (s.wiped .latched)
  else .next s

/-- SHUTDOWN_RAILS_OFF (R456): 1 ms after the confirmation. -/
def execShutdownRailsOff (t : Nat) (s : State) : Host.Outcome State Fault Refusal :=
  let s := s.at t
  if s.power = .on ∧ s.heat.shut.any (fun a => decide (a + 1000000 ≤ s.now)) then .next (s.wiped .latched) else .next s

/-- LATCH_CLEAR (R457): the input has been below 36 V for 100 ms. -/
def execLatchClear (t : Nat) (s : State) : Host.Outcome State Fault Refusal :=
  let s := s.at t
  if s.power = .latched then .next (s.wiped .off) else .next s

/-- VCORE_FAIL (R447): a region is switched off and its PLL loses lock. -/
def execVcoreFail (t region : Nat) (s : State) : Host.Outcome State Fault Refusal :=
  let s := s.at t
  if s.power = .on ∧ region < 32 then .next (((s.setf ⟨0xD00050, 16 + region, 1⟩ 0).evt PWR_EVT_VCORE_FAIL).pllLoss region) else .next s

/-- A write of SYS_CTRL that sets RESET (R466, R509): without the key it is discarded. The power-on sequence follows as POWER_ON. -/
def State.wrReset (s : State) (q : Requester) (key : Nat) : State :=
  s.guarded q 0x10 false true (fun s => if key = 0x5A08 then s.wiped .off else s)

/-- PACKAGE_RESET (R466). -/
def execPackageReset (t : Nat) (q : Requester) (key : Nat) (s : State) : Host.Outcome State Fault Refusal :=
  .next ((s.at t).wrReset q key)

/-! ### Power-on (R467) -/

/-- A 32-byte value the spec leaves open. -/
def State.freshDigest (s : State) : List Nat := ((List.range 4).map (fun i => leBytes 8 (Config.freeWord (s.freeCount + i)).toNat)).flatten

/-- A measurement whose digest the spec leaves open. -/
def State.extendFree (s : State) (i : Nat) : State := { s with freeCount := s.freeCount + 4 }.extend i s.freshDigest

/-- The factory record is unusable (R470): AUDIT_FAIL with DETAIL 0xFF, no load, converter calibration disabled. -/
def State.badRecord_ (s : State) : State :=
  let s : State := { s with audit := { s.audit with hold := true, badRec := true } }
  (List.range 8192).foldl (fun s T => s.setf (CNV_CAL_CAL_EN T) 0) (s.raise 3 0x29 0 (s.f FAB_ID_PKG_ID) 0xFF)

/-- Yarrow runs from slot `y` (R418, R421, R422, R441), and starts Larkspur, which stays FAILED when no slot qualifies. -/
def State.yarrowRuns (s : State) (y : Nat) (lOk : List Nat) : State :=
  let x := (slotOf s.fuses.yarSlot y).getD (0, 0, [])
  let s := ((s.setf SEC_STATE_YAR_SLOT y).setf SEC_VER_YARROW x.1).extend 1 x.2.2
  let fit := fitSlots s.fuses.lspSlot lOk s.fuses.floorL
  let s : State := { s with yar := { s.yar with keysUp := true }, lsp := { s.lsp with fit := fit } }
  match pickSlot s.fuses.lspSlot fit with
  | none => s.setf MGT_LSTATE_STATE 4
  | some i =>
    let s := s.startLsp i
    { s with lsp := { s.lsp with startAt := min s.now 88000000 } }

/-- Rails and VCOREs inside their windows, each VCORE at its factory code (R446, R448). -/
def State.railsUp (s : State) : State :=
  let s := (List.range 32).foldl (fun s n => (s.setf (PWR_VCORE n) (factoryCode n)).setf (PWR_VEFF n) (factoryCode n)) s
  let s := (s.setf PWR_STATE_RAIL_OK 0x3FF).setf PWR_STATE_VCORE_OK 0xFFFFFFFF
  (s.setf PWR_STATE_PWR_GOOD 1).setf SYS_STATUS_PWR_GOOD 1

/-- The stacks, memory, sensors and transit frames (R26, R291, R343, R452): `hbm` are the stacks that trained. -/
def State.stacksUp (s : State) (hbm : List Nat) (reads : List (Nat × Int)) : State :=
  let s : State := { s.railsUp with crossings := true }
  let s := (List.range 8).foldl (fun s k => s.setf (MEM_NSTK_STATE k) (if hbm.contains k then 2 else 3)) s
  let s := (List.range 16).foldl (fun s c => s.setf (MEM_FCH_STATE c) 1) s
  let s := (s.sampleAll reads ((List.range 296).filter (fun x => x < 264 ∨ 280 ≤ x))).crossCheck
  (s.setf PAV_TICK_TICK_STAMP s.now).setPhase 2

/-- The power-on sequence up to the first transit frame, at count `t` of the time base that starts (R444, R467). -/
def State.powerUp (s : State) (t : Nat) (yOk lOk hbm : List Nat) (record : Bool) (reads : List (Nat × Int)) : State :=
  let s := State.extendFree { s.wiped .on with now := t } 0
  let s := s.showFuses.showId
  match pickSlot s.fuses.yarSlot (fitSlots s.fuses.yarSlot yOk s.fuses.floorY) with
  | none => { s.setf PWR_STATE_RAIL_OK 0x81 with power := .rom }
  | some y =>
    let s := (s.yarrowRuns y lOk).extend 4 s.ownerDigest
    let s := (s.stacksUp hbm reads).extendFree 3
    if record then s else s.badRecord_

/-- POWER_ON (R443, R467): the input reaches 47 V. `yOk` and `lOk` are the firmware slots whose images verify, `record` says that the
factory record is good, `reads` are the sensors' first readings. -/
def execPowerOn (t : Nat) (yOk lOk hbm : List Nat) (record : Bool) (reads : List (Nat × Int)) (s : State) : Host.Outcome State Fault Refusal :=
  if s.power = .off then .next (s.powerUp t yOk lOk hbm record reads) else .next (s.at t)

/-! ### Self-test and transit mode (R467, R469, R471 to R473) -/

/-- A converter's group: of a column converter or of a spare. -/
def convGroup (k : Nat) : Nat := if k < 544 then k / 34 else k - 544

/-- Failed converters of a group of a tile. -/
def failedIn (convs : List (Nat × Nat)) (T g : Nat) : Nat := (convs.filter (fun x => x.1 = T ∧ convGroup x.2 = g)).length

/-- SELF_TEST_DONE (R472, R473): failed converters (tile, converter), cores and routers. -/
def execSelfTestDone (t : Nat) (convs : List (Nat × Nat)) (cores routers : List Nat) (s : State) : Host.Outcome State Fault Refusal :=
  let s := s.at t
  if s.power = .on ∧ s.f SYS_STATUS_PHASE = 2 ∧ ¬ s.boot.tested then
    let fc := (cores ++ routers).eraseDups
    let twice := ((convs.eraseDups.filter (fun x => 2 ≤ failedIn convs.eraseDups x.1 (convGroup x.2))).map Prod.fst).eraseDups
    .next { s with failCore := fc, failTile := (twice ++ (fc.map (fun c => (List.range 8).map (8 * c + ·))).flatten).eraseDups,
                   boot := { s.boot with tested := true, convs := convs.eraseDups, routers := routers.eraseDups } }
  else .next s

/-- Column converters that a group spare replaces (R473). -/
def State.substituted (s : State) : List (Nat × Nat) :=
  s.boot.convs.filter (fun x => decide (x.2 < 544) && failedIn s.boot.convs x.1 (convGroup x.2) == 1 && !s.failTile.contains x.1)

/-- The package is ready for TRANSIT (R467 to R469): self-test has ended, no port is training, Larkspur is RUNNING or FAILED. -/
def State.startReady (s : State) : Bool :=
  s.f SYS_STATUS_PHASE == 2 && s.boot.tested && (List.range 72).all (fun p => s.f (FAB_PSTAT_STATE p) != 2) &&
    [2, 4].contains (s.f MGT_LSTATE_STATE)

/-- TRANSIT_ENTER (R467, R471, R473, R482, R483, R509): at a tick. A drain held until now reaches LEFT, unless the button that asked for
it is still pressed; a press that is held is ignored until its release. -/
def execTransitEnter (t : Nat) (s : State) : Host.Outcome State Fault Refusal :=
  let s := s.at t
  if s.power = .on ∧ s.now = s.f PAV_TICK_TICK_STAMP ∧ s.startReady then
    let s := s.setf SYS_STATUS_START_MS (min 65535 ((s.now + 2000000) / 1000000))
    let s := if s.f MGT_LSTATE_STATE = 2 then s.substituted.foldl (fun s x =>
        (s.setf (CNV_SUBST_EN x.1 (x.2 / 34)) 1).setf (CNV_SUBST_COL x.1 (x.2 / 34)) (x.2 % 34)) s
      else s
    let marked := ((List.range 296).filter (fun x => s.b (THM_BROKEN x))).length
    let s : State := { s with boot := { s.boot with transit := s.now, broken := marked } }
    let s := (s.setPhase 3).evt SYS_EVT_RESET_DONE
    let d := s.drain
    let asked := d.asked && !(d.press.isSome && d.fired && !d.door)
    let s : State := { s with drain := { d with asked := false, ignore := d.press.isSome } }
    .next (if asked then s.drainLeft else s)
  else .next s

/-! ### The PCIe function (R486, R488, R505) -/

/-- A key of the function's configuration space, its MSI-X table or its pending bits. -/
def isFuncKey (k : Nat) : Bool :=
  (decide (pciCfg ≤ k) && decide (k < pciCfg + 0x1000)) || (decide (bar2 + 0x8000 ≤ k) && decide (k < bar2 + 0x8400)) || k == bar2 + 0x9000

/-- FUNCTION_RESET (R488): PERST_N, a function-level reset or a link-down. -/
def execFunctionReset (t : Nat) (s : State) : Host.Outcome State Fault Refusal :=
  let s := s.at t
  .next { s with regs := s.regs.filter (fun p => !isFuncKey p.1) }

/-- A vector whose pending bit is set and that may be sent is sent (R486, R505). -/
def State.sendPending (s : State) (v : Nat) : State :=
  if s.b (MSIX_PEND v) ∧ ¬ s.b (MSIX_MASK v) ∧ s.b PCI_BME then s.msix v else s

/-- MSIX_UNMASK (R487, R505): a write of the MSI-X table that clears the vector's mask bit. -/
def execMsixUnmask (t v : Nat) (s : State) : Host.Outcome State Fault Refusal :=
  let s := s.at t
  match s.gate .host 0x800000 with
  | some x => .next x
  | none => if v < 64 then .next ((s.setf (MSIX_MASK v) 0).sendPending v) else .next s

end Sys2Proof.Machine
end

