-- ==== Sys2Proof/Machine/Access.lean ====
section
/-! DEFINITION. Register writes and reads by offset (R3 to R7, R41, R42, R262, R437, R490, R491, R494 to R496, R509, R510, R525). -/

namespace Sys2Proof.Machine

/-! ### BAR0 registers whose write is a command of its own -/

/-- A write that triggers nothing: only the checks of R42 apply. -/
def State.wrNone (s : State) (q : Requester) (a : Nat) : State := s.guarded q a false true id

/-- Column scale behind the requester's RING_SADDR (R41, R154). -/
def State.wrScale (s : State) (q : Requester) (T a v : Nat) : State :=
  let x := (s.reg (selCopy (ringTile T) q.code)).toNat
  s.guarded q a true (s.rangeOk a v && s.boundsOk q a v [(0, 32)])
    (·.shadow q a (scaleBank (4 * T + bits x 8 2) (bits x 0 8)) (2 ^ 32 - 1) v)

/-- Writes in a core window that are actions or reach behind a selector; none where the write is an ordinary one. -/
def State.writeCore (s : State) (q : Requester) (a v : Nat) : Option State :=
  let c := coreOf a
  let rel := a % 0x8000
  if rel < 0x1000 then
    let A := 32 * c + 4 * (rel / 0x200) + rel % 0x200 / 0x80
    if rel % 0x80 = 0x08 then some (if bits v 8 1 = 1 then s.wrForceFlag q A else s.wrNone q a)
    else if rel % 0x80 = 0x18 then
      some (match bits v 62 2 with
        | 1 => s.wrProgram q A (bits v 0 42)
        | 2 => s.wrErase q A
        | 3 => s.wrProgAbort q A
        | _ => s.wrNone q a)
    else none
  else if rel < 0x1800 ∧ rel % 0x100 = 0x30 then some (s.wrTrim q (8 * c + (rel - 0x1000) / 0x100) (bits v 0 8) (bits v 16 8) (bits v 48 3))
  else if 0x2000 ≤ rel ∧ rel < 0x2800 ∧ rel % 0x100 = 8 then some (s.wrScale q (8 * c + (rel - 0x2000) / 0x100) a v)
  else if 0x3000 ≤ rel ∧ rel < 0x3800 ∧ rel % 0x100 = 0x80 then some (s.wrAccClr q (8 * c + (rel - 0x3000) / 0x100) (bits v 0 16))
  else if rel = 0x4010 then some (s.wrSpdData q c (BitVec.ofNat 64 v))
  else if 0x5100 ≤ rel ∧ rel < 0x5900 ∧ rel % 0x40 = 0 ∧ bits v 0 1 = 1 then some (s.wrValidate q (corOf a))
  else if 0x5100 ≤ rel ∧ rel < 0x5900 ∧ rel % 0x40 = 0x10 then some (s.wrGTrack q (corOf a) (bits v 0 16))
  else none

/-- Writes in the hub blocks that are actions. IMG_CTRL LOAD carries an image and arrives as LOAD (notes/assumptions/47.md). -/
def State.writeHub (s : State) (q : Requester) (a v : Nat) : Option State :=
  if a = 0x10 ∧ bits v 0 1 = 1 then some (s.wrReset q (bits v 48 16))
  else if a = 0x300010 ∧ bits v 0 2 ≠ 3 then some (if bits v 0 2 = 2 then s.wrLoadAbort q else s.wrNone q a)
  else if a = 0x600010 ∧ bits v 63 1 = 1 then some (s.wrPlan q (bits v 0 42))
  else if 0x601000 ≤ a ∧ a < 0x602200 ∧ a % 0x40 = 8 then some (s.wrPortEn q ((a - 0x601000) / 0x40) (bits v 0 1 == 1))
  else if 0x800200 ≤ a ∧ a < 0x800280 then some (s.wrFchEn q ((a - 0x800200) / 8) (bits v 0 1 == 1))
  else if 0x800300 ≤ a ∧ a < 0x800400 ∧ a % 0x20 = 0x18 then
    let n := (a - 0x800300) / 0x20
    some (match bits v 62 2 with
      | 1 => s.wrPoolRead q n
      | 2 => s.wrPoolWrite q n
      | 3 => s.wrPoolAbort q n
      | _ => s.wrNone q a)
  else if a = 0xA00058 ∧ bits v 17 1 = 1 then some (s.wrUnitReset q false)
  else if a = 0xA00068 then some (s.wrUnitEn q (BitVec.ofNat 64 v))
  else if a = 0xE00048 ∧ bits v 0 1 = 1 then some (s.wrXchk q)
  else if 0xF01000 ≤ a ∧ a < 0xF01600 ∧ a % 0x20 = 8 ∧ bits v 63 1 = 1 then some (s.wrTrkClr q ((a - 0xF01000) / 0x20))
  else none

/-! ### Ordinary writes (R4 to R7, R41, R42) -/

/-- The value a register keeps of what is written: bits 31:14 of HKA_MASK read 1 (R460). -/
def fixedBits (a v : Nat) : Nat := if a = 0xF00000 then Nat.lor v 0xFFFFC000 else v

/-- RW bits are replaced, W1C bits that are written 1 are cleared; RWT bits go to the shadow. A write of SYS_IRQMASK may raise vector 62
(R510). -/
def State.takeWrite (s : State) (q : Requester) (a v : Nat) (r : RegRow) : State :=
  let old := s
  let s := s.putBits a r.rw (fixedBits a v)
  let s := s.putBits a (Nat.land r.w1c v) 0
  let s := s.when (a == 0x28 && old.irqBits == 0 && s.irqBits != 0) (·.msix 62)
  if r.rwt = 0 then s else s.shadow q a a r.rwt v

/-- A write of an ordinary register. A selector is the requester's own copy: no ownership check, only its range (R41). -/
def State.wrPlain (s : State) (q : Requester) (a v : Nat) (r : RegRow) : State :=
  if r.sel then
    match s.gate q a with
    | some x => x
    | none => if s.rangeOk a v then s.putBits (selCopy a q.code) r.rw v else s.reject q a 0x06
  else s.guarded q a (r.rwt != 0) (s.rangeOk a v && (r.rwt == 0 || s.boundsOk q a v r.fs)) (·.takeWrite q a v r)

/-- A write of eight bytes at a BAR0 offset; a reserved offset ignores it (R490). -/
def State.writeReg (s : State) (q : Requester) (a v : Nat) : State :=
  match regRow a with
  | none => (s.gate q a).getD s
  | some r =>
    match (if a < 0x2000000 then s.writeHub q a v else s.writeCore q a v) with
    | some x => x
    | none => s.wrPlain q a v r

/-! ### BAR2 and the hub bus (R262, R437, R494) -/

/-- A requester's transaction port, at offset `o` (R276). -/
def State.writePort (s : State) (q : Requester) (o v : Nat) : State :=
  if o = 0 then
    match bits v 62 2 with
    | 1 => s.wrBegin q (bits v 0 32)
    | 2 => s.wrCommit q (bits v 59 2) (bits v 61 1 == 1)
    | 3 => s.wrRollback q (bits v 0 32)
    | _ => s
  else if o = 8 then s.port (·.setf (TXNP_FRAME_TARGET q.code) v)
  else s

/-- Who writes to a door: the host, Larkspur, or what Yarrow takes from the sideband (R436). -/
def doorUser (d : Nat) : Requester := if d < 2 then .host else if d = 2 then .larkspur else .yarrow

/-- A door at offset `o` (R437): reserved bits of request word 0 read 0. -/
def State.writeDoor (s : State) (d o v : Nat) : State :=
  if s.power = .on ∨ (s.power = .rom ∧ d = 3) then
    (if o < 0x40 then s.setf (MBX_REQ_WORD d (o / 8)) (if o < 8 then Nat.land v 0xFF000000FFFFFFFF else v) else if o = 0x40 ∧ bits v 0 1 = 1 then s.ring d else s)
  else s

/-- A doorbell page at offset `o` (R496). -/
def State.writeQp (s : State) (p o v : Nat) : State :=
  if o = 0 then s.wrQpCfg p (BitVec.ofNat 64 v)
  else if o = 8 then s.wrSqTail p (bits v 0 12) []
  else if o = 0x10 then s.wrCqHead p (bits v 0 12) (bits v 63 1 == 1)
  else s

/-- The MSI-X table, by words of four or eight bytes; a vector that is unmasked is sent if it is pending (R494, R505; PRESUMED from the
PCIe standard). -/
def State.writeMsix (s : State) (a v n : Nat) : State :=
  let w := a / 8 * 8
  let s := if n = 8 then s.setReg w (BitVec.ofNat 64 v) else s.setf ⟨w, 8 * (a % 8), 32⟩ v
  s.sendPending ((w - bar2 - 0x8000) / 16)

/-- Bus Master Enable (R486; PRESUMED from the PCIe standard): vectors held back for want of it are sent when it is set. -/
def State.writeCfg (s : State) (v : Nat) : State := (List.range 64).foldl State.sendPending (s.setf PCI_BME (bits v 34 1))

/-- A write of the host to BAR2 (R487, R494, R495): the transaction port and the doors answer before TRANSIT, the rest does not. -/
def State.writeBar2 (s : State) (o v n : Nat) : State :=
  if o < 0x3000 then
    (if n ≠ 8 ∨ o % 8 ≠ 0 then s
     else if o < 0x20 then s.writePort .host o v
     else if 0x1000 ≤ o then s.writeDoor (o / 0x1000 - 1) (o % 0x1000) v
     else s)
  else match s.gate .host 0x800000 with
    | some x => x
    | none =>
      if 0x1000000 ≤ o ∧ o < 0x9000000 then s.write (queueArea.1 + o) (leBytes n v)
      else if 0x8000 ≤ o ∧ o < 0x8400 ∧ o % n = 0 ∧ (n = 4 ∨ n = 8) then s.writeMsix (bar2 + o) v n
      else if n = 8 ∧ o % 8 = 0 ∧ 0x100000 ≤ o ∧ o < 0x200000 then s.writeQp ((o - 0x100000) / 0x1000) (o % 0x1000) v
      else s

/-- A write on the hub's internal bus or by the sideband (R262, R436). -/
def State.writeBus (s : State) (q : Requester) (a v : Nat) : State :=
  if portAddr q.code ≤ a ∧ a < portAddr q.code + 0x20 ∧ q ≠ .host then s.writePort q (a - portAddr q.code) v
  else match [2, 3].find? (fun d => doorAddr d ≤ a ∧ a < doorAddr d + 0x1000 ∧ q = doorUser d) with
    | some d => s.writeDoor d (a - doorAddr d) v
    | none => s

/-- A write at a key of the register map (R490, R494): `n` bytes. A BAR0 write of fewer than eight bytes, or not aligned, is discarded;
the host's is counted. -/
def State.writeKey (s : State) (q : Requester) (a v n : Nat) : State :=
  if a < 0x4000000 then
    if n = 8 ∧ a % 8 = 0 then s.writeReg q a v
    else (s.gate q a).getD (s.when (q == .host) (·.hostErr SYS_HOSTERR_PARTIAL))
  else if s.power ≠ .on ∧ s.power ≠ .rom then s
  else if bar2 ≤ a ∧ a < bar2 + 0x10000000 then (if q = .host ∧ s.power = .on then s.writeBar2 (a - bar2) v n else s)
  else if a = pciCfg then (if q = .host ∧ s.power = .on then s.writeCfg v else s)
  else s.writeBus q a v

/-- REGISTER_WRITE (R4 to R7, R41, R42): `bytes` bytes of `val` at the key `addr`. -/
def execRegisterWrite (t : Nat) (q : Requester) (addr : Nat) (val : Word) (bytes : Nat) (s : State) : Host.Outcome State Fault Refusal :=
  .next ((s.at t).writeKey q addr (val.toNat % 2 ^ (8 * min bytes 8)) bytes)

/-! ### What a read of a register returns (R5, R41, R509) -/

/-- Fields that are copies of others, put into the value read. -/
def State.copies (s : State) (a v : Nat) : Nat :=
  if a = 0x8 then
    setBits (setBits (setBits (setBits v 57 3 (s.f RCV_STATE_STATE)) 54 3 (s.f IMG_STATE_STATE)) 51 3 (s.f MGT_LSTATE_STATE)) 12 4 (s.f PAV_THR_JOB_LEVEL)
  else v

/-- The value a requester reads at a BAR0 offset: the committed value, its own copy of a selector, 0 for WO bits and reserved offsets
(R4, R5, R41). -/
def State.readReg (s : State) (q : Requester) (a : Nat) : Nat :=
  match regRow a with
  | none => 0
  | some r =>
    let v := if r.sel then (s.reg (selCopy a q.code)).toNat else s.copies a (s.reg a).toNat
    v - Nat.land v r.wo

end Sys2Proof.Machine
end

