-- ==== Sys2Proof/Machine/Tick.lean ====
section
/-! DEFINITION. The tick: R22 to R28, R46 to R52, R71, R79, R81, R152, R168, R169, R267, R271 to R274, R322, R367, R374, R390, R393, R394,
R400, R401, R477 to R480. -/

namespace Sys2Proof.Machine

/-! ### When a tick falls (R26, R48, R322) -/

/-- This package ticks with its job: an image is active, the job has not failed, and nothing takes the package out of it. -/
def State.inJob (s : State) : Bool := s.active && !s.failSolo && !s.halted && !s.qdr.excluded

/-- The idle interval that was asked for has run, or none was. -/
def State.idleOver (s : State) (asked : Bool) : Bool := !asked || (s.pav.idleRun && decide (s.pav.idleUntil ≤ s.now))

/-- A pass boundary of the running frames: the package is on and Pavane runs (R22, R467). -/
def State.boundary (s : State) : Bool :=
  s.power == .on && decide (2 ≤ s.f SYS_STATUS_PHASE) && (s.now - s.f PAV_TICK_TICK_STAMP) % 64 == 0

/-- The frame's work passes, with its pause and hold passes, have run (R26). -/
def State.passesRun (s : State) : Bool := decide (s.f PAV_CFG_N_PASSES ≤ s.passNow) && s.paused (s.f PAV_CFG_N_PASSES)

/-- The conditions of R26: the frame's passes have run, and in a job the barrier has completed; a frame that a round has stopped has no
passes left to run (notes/assumptions/40.md). -/
def State.tickReady (s : State) : Bool :=
  s.boundary && (if s.inJob then
      s.qdr.done == some s.barFrame && s.idleOver s.qdr.skipNext && (s.qdr.member.isSome || s.passesRun)
    else s.idleOver s.pav.skipReq && s.passesRun)

/-! ### What the tick does for arrays and rails -/

/-- Map the registers under some keys; the sparse form is kept. -/
def State.mapRegs (s : State) (p : Nat → Bool) (f : Nat → Nat) : State :=
  { s with regs := (s.regs.map (fun x => if p x.1 then (x.1, BitVec.ofNat 64 (f x.2.toNat)) else x)).filter (fun x => x.2 ≠ resetVal x.1) }

/-- The key of a register at offset `o` of an array's ARR block, and of a tile's CNV block. -/
def isArrKey (o k : Nat) : Bool := decide (0x2000000 ≤ k) && decide (k < 0x4000000) && decide (k % 0x8000 < 0x1000) && k % 0x80 == o
def isCnvKey (o k : Nat) : Bool :=
  decide (0x2000000 ≤ k) && decide (k < 0x4000000) && decide (0x1000 ≤ k % 0x8000) && decide (k % 0x8000 < 0x1800) && k % 0x100 == o

/-- Every mismatch counter halves, rounding down (R71). -/
def State.decayCounts (s : State) : State :=
  s.mapRegs (fun k => isArrKey 0x30 k || isArrKey 0x38 k) (fun v => Nat.land (v / 2) 0x7F7F7F7F7F7F7F7F)

/-- Every converter bank is powered down at a tick (R23, R34). -/
def State.banksOff (s : State) : State := s.mapRegs (isCnvKey 0x18) (fun v => v - bits v 8 1 * 2 ^ 8)

/-- Accepted trims take effect, but where a software write reached the converter in this cycle (R79, R82). -/
def State.applyTrims (s : State) : State :=
  let s := s.trimNext.foldl (fun s x =>
    if sfind s.swTrim x.1 = some s.now then s
    else (s.setfi (CNV_DATA_OFFSET_TRIM (x.1 / 560) (x.1 % 560)) x.2.1).setfi (CNV_DATA_GAIN_TRIM (x.1 / 560) (x.1 % 560)) x.2.2) s
  { s with trimNext := [], swTrim := [] }

/-- The temperature factor's code of an array from its table at the reading `sum / n` in 0.25 °C (R169); none where the table lies beyond
tier N. -/
def State.tempCode (s : State) (A : Nat) (sum : Int) (n : Nat) : Option Nat :=
  let a := s.f (COR_TTAB_ADDR A)
  if 2 ^ 39 < a + 32 then none
  else
    let e (i : Nat) : Int := s.num (a + 2 * i) 2
    let x := sum - 100 * n
    let i := (x / (20 * n)).toNat
    if x < 0 then some (e 0).toNat
    else if 15 ≤ i then some (e 15).toNat
    else some ((2 * (e i * (20 * n) + (e (i + 1) - e i) * (x - 20 * n * i)) + 20 * n) / (40 * n)).toNat

/-- An array's G for the frame: ⌊G_TRACK × F_T / 2^14⌉, clamped to 0x2000 to 0xFFFF (R168). -/
def gainOf (track ft : Nat) : Nat := (2 * (track * ft) + 2 ^ 14) / 2 ^ 15

/-- G, F_T and the latched G_TRACK of one array (R168, R169). -/
def State.gainArr (s : State) (A : Nat) : State :=
  let s := match sfind s.trkNext A with
    | some g => s.setf (COR_GAIN_G_TRACK A) g
    | none => s
  let s := match sfind s.arrTemp (A / 1024) with
    | none => s
    | some r => if r.2 = 0 then s.used.setf (COR_GAIN_F_T A) s.fresh
      else match s.tempCode A r.1 r.2 with
        | some c => s.setf (COR_GAIN_F_T A) c
        | none => s.used.setf (COR_GAIN_F_T A) s.fresh
  let g := gainOf (s.f (COR_GAIN_G_TRACK A)) (s.f (COR_GAIN_F_T A))
  let s := s.setf (COR_GAIN_G A) (max 0x2000 (min 0xFFFF g))
  if g < 0x2000 ∨ 0xFFFF < g then (s.evt (COR_EVT_GAIN_LIMIT (A / 32))).driftFlag A 3 else s

/-- Gains of the arrays that hold programmed weights, while an image runs them (R168; notes/assumptions/45.md). -/
def State.gains (s : State) : State :=
  if s.active then
    let ks := (s.regs.map Prod.fst).filter (isArrKey 8)
    let as_ := (ks.map (fun k => 32 * coreOf k + k % 0x8000 / 0x80)).filter (fun A => s.f (ARR_STATE_STATE A) = 2 ∨ s.f (ARR_STATE_STATE A) = 3)
    { as_.foldl State.gainArr s with trkNext := [] }
  else s

/-- Suspect events of the frame raise their regions' rails (R367). -/
def State.railSteps (s : State) : State := s.railPend.foldl State.railUp { s with railPend := [] }

/-! ### The taint log (R374) -/

/-- The bytes of a taint record; its CRC is over the record with the field zero. -/
def taintBytes (x : Taint) : List Nat :=
  let body (crc : Nat) := leBytes 8 x.frame ++ leBytes 4 x.pages.length ++ leBytes 4 x.reqs.length ++ leBytes 4 crc ++ zeros 12 ++
    (x.pages.map (fun p => leBytes 4 (p.1 * 2 ^ 30 + p.2))).flatten ++ (x.reqs.map (leBytes 8)).flatten
  body (crc32 (body 0))

/-- Write the frame's record into the ring of 66. -/
def State.writeTaint (s : State) : State :=
  let f := s.jobFrame
  let x := (s.taint.find? (fun (x : Taint) => x.frame = f)).getD ⟨f, [], [], []⟩
  let s := s.write (s.f CHK_TAINT_ADDR + 4096 * s.f CHK_TAINT_STRIDE_4K * (f % 66)) (taintBytes x)
  { s with taint := s.taint.filter (fun (x : Taint) => decide (f < x.frame + 66)) }

/-! ### After a round (R322, R390, R393, R394, R401) -/

/-- The interruption as this package measured it (R401). -/
def State.interruption (s : State) : Nat :=
  match s.qdr.round with
  | some x => s.now - x.start
  | none => s.now - (if s.pav.lfeDone then min s.pav.lfeStamp s.qdr.since else s.qdr.since)

/-- The recovery patches of the round take effect; a set that is not listed or needs more than eight registers takes this member out of
the job (R393, R394). -/
def State.resumePatches (s : State) : State :=
  let ps := s.patchSet (s.patchSet s.patchList s.qdr.due) s.qdr.dueLate
  if s.qdr.due.isEmpty ∧ s.qdr.dueLate.isEmpty then s
  else if 8 < ps.length ∨ ¬ s.listed (s.f PAV_SEL_VARIANT) ps then { s with qdr := { s.qdr with excluded := true } }
  else s.putPatches ps

/-- Tick s of a round: lost members leave the tree, patches are enabled, the round is over (R390, R393, R402). -/
def State.resume (s : State) : State :=
  if s.qdr.member.isNone then s
  else
    let old := s
    let n := s.interruption
    let s := (s.setf RCV_TIME_LAST_NS (min n (2 ^ 32 - 1))).setf RCV_TIME_MAX_NS (min (max n (s.f RCV_TIME_MAX_NS)) (2 ^ 32 - 1))
    let s := ((s.inc RCV_CNT_ROLLBACKS).evt RCV_EVT_ROLLBACK).setf CHK_SFROM_FRAME (2 ^ 64 - 1)
    let s := s.setf RCV_STATE_STATE (if s.patches.any (fun (p : Patch) => p.kind == .reconstruct) then 4 else 1)
    let s := s.qdr.leaving.foldl (fun s l => (s.loseMember l).adopt l) s
    let s := s.resumePatches.patchEffects old
    { s with qdr := { s.qdr with round := none, member := none, fault := none, mine := [], due := [], dueLate := [], leaving := [], told := false },
             pav := { s.pav with stopped := false, faulted := false, waitDead := false } }

/-! ### Frame state -/

/-- The frame number and the tick's count (R24); after a round the frame is s (R390). -/
def State.nextFrame (s : State) : State :=
  let f := match s.qdr.member with
    | some x => x.2 - s.f IMG_JOB_JOB_BASE
    | none => s.frame + 1
  (s.setf PAV_FRAME_FRAME_NUM f).setf PAV_TICK_TICK_STAMP s.now

/-- What Pavane and the units keep of one frame starts afresh; receive buffers' next counts become current (R311). -/
def State.freshFrame (s : State) : State :=
  let p := s.pav
  let s : State := { s with
    pav := { p with pauses := 0, pauseBlocks := 0, holds := 0, idleRun := false, idleUntil := 0, lfeDone := false, skipReq := false, waits := [], holdAt := none },
    ran := [], done := [], degrade := [], summaries := [], pktCount := [], wcCount := [], lastPass := [], held := [], satRec := [], wideRep := [],
    capture := [], clearing := [], fill := s.fillNext, fillNext := [], ports := s.ports.map (fun x => (x.1, { x.2 with fec := 0 })) }
  s.banksOff

/-- Quadrille's state of the barrier that is over goes; what has come for the frame that starts stays. -/
def State.freshBarrier (s : State) : State :=
  let f := s.jobFrame
  { s with qdr := { s.qdr with own := none, sent := false, late := false, lostSent := false, skipNext := false,
                               got := s.qdr.got.filter (fun x => decide (f ≤ x.2.frame)), held := s.qdr.held.filter (fun (m : Qmsg) => decide (f ≤ m.frame)) },
           staged := s.staged.filter (fun x => decide ((x.2.frame + 2 ^ 32 - f % 2 ^ 32) % 2 ^ 32 < 2 ^ 31)) }

/-- The throttle level latched at the previous local frame end takes effect (R46, R47); a cut frame latched none (R273). -/
def State.takeLevel (s : State) (latched : Option Nat) : State :=
  let s := match latched with
    | some k => s.setf PAV_THR_LATCHED k
    | none => s
  let s := if s.inJob then s else s.setf PAV_THR_JOB_LEVEL (s.f PAV_THR_LATCHED)
  let k := s.f PAV_THR_JOB_LEVEL
  { s with pav := { s.pav with jobLevel := k, jobCount := if k = s.pav.jobLevel then s.pav.jobCount + 1 else 1 } }

/-- The settle horizon advances and never moves back (R28). -/
def State.advanceHorizon (s : State) : State := s.setf PAV_HORIZON_HORIZON (max (s.frame - s.settle) (s.f PAV_HORIZON_HORIZON))

/-- The serving engine's part of step 5 (R27, R212, R213, R409, R479). -/
def State.serveStep (s : State) : State :=
  if ¬ s.active then s.rejectFwd 0x0A (fun _ => true)
  else if s.failSolo then s.rejectFwd 0x05 (fun _ => true)
  else
    let s := if 1 ≤ s.drain.st then s.rejectFwd 0x05 (fun c => [1, 2, 4, 6].contains (cmdOp c)) else s
    s.serveTick

/-! ### Leaving and returning members (R400, R479, R480) -/

/-- The commit of a leave at this member: the patches that the recovery table names for the loss of member `m`, for frame `f`, in JOB
scope; the leaving package also removes its image (notes/assumptions/44.md). -/
def State.commitLeave (s : State) (m f : Nat) : State :=
  let ps := s.patchSet s.patchList (s.recFor 8 0xB m m)
  let sh := (List.range 8).map (fun i => (⟨0x100028 + 8 * i, 0x80000000000003FF, match ps[i]? with
    | some p => 2 ^ 63 + p
    | none => 0, s.now⟩ : Shadow))
  let p : TxnPend := ⟨.larkspur, leaveId m f, 1, true, f, s.now, false, .none, sh⟩
  let own := s.topo.any (fun t => t.self == m)
  let q : TxnPend := ⟨.larkspur, 2 ^ 30 + f % 2 ^ 30, 1, false, f, s.now, false, .none, [⟨0x300020, 1, 0, s.now⟩]⟩
  let keep := s.txnPend.filter (fun (x : TxnPend) => ¬ (own ∧ x.q = .larkspur ∧ x.id / 2 ^ 30 = 1))
  { s with leaves := s.leaves.filter (fun (x : Nat × Nat) => x.1 ≠ m) ++ [(m, f)] }.setPend (keep ++ [p] ++ (if own then [q] else []))

/-- A leave whose commit ended without applying is committed again for 16 frames ahead (R480). -/
def State.retryLeaves (s : State) : State :=
  if s.inJob ∧ s.qdr.member.isNone then
    (s.leaves.filter (fun (x : Nat × Nat) => ¬ s.txnPend.any (fun (p : TxnPend) => p.q = .larkspur ∧ p.id = leaveId x.1 x.2))).foldl
      (fun (s : State) (x : Nat × Nat) => s.commitLeave x.1 (s.jobFrame + 16)) s
  else s

/-- Under a rejoin patch the parity member copies the lost member's mirrored pages to its replacement, RESTORE_PAGES per frame, and its
mirrored chains after them (R400). -/
def State.rejoinCopy (s : State) : State :=
  match s.topo, s.patches.find? (fun (p : Patch) => p.kind == .rejoin) with
  | some tp, some x =>
    let ds := (List.range tp.members.length).filter (fun i => (tp.members[i]?).any (fun (m : Member) =>
      m.role != Role.parity && (tp.members[tp.self]?).any (fun (y : Member) => y.group == m.group && y.role == Role.parity)))
    let n := s.f PGM_MIRROR_PAGES / max 1 ds.length
    if ds.contains x.member ∧ s.copied ≤ n then
      let base := ds.findIdx (· == x.member) * n
      let ps := (List.range (min (s.f RCV_CFG_RESTORE_PAGES) (n - s.copied))).map (· + base + s.copied)
      let dst := s.memberPkg x.member
      let msgs := (ps.map (fun p => (List.range 256).map (fun i =>
        (dst, CtrlMsg.latent p i (s.bytes (4096 * s.f PGM_MIRROR_BASE_4K + 139264 * p + 544 * i) 544))))).flatten
      let j := s.f RCV_JRNL_BLOCKS
      let chains := (s.mirUsed.filter (fun b => decide (j * ds.findIdx (· == x.member) ≤ b) && decide (b < j * (ds.findIdx (· == x.member) + 1)))).map
        (fun b => (dst, CtrlMsg.chain (4096 * (b % j)) (s.bytes (4096 * s.f RCV_JMIR_BASE_4K + 4096 * b) 4096)))
      if ps.isEmpty then { s with ctrlQ := s.ctrlQ ++ chains, copied := n + 1 }
      else { s with ctrlQ := s.ctrlQ ++ msgs, copied := s.copied + ps.length }
    else s
  | _, _ => s

/-- A drain that waits begins at the first tick after its request: REFUSING and SERVING_OUT (R479); without an image LEFT at once
(R482). -/
def State.drainTick (s : State) : State :=
  if s.drain.asked ∧ 3 ≤ s.f SYS_STATUS_PHASE then
    let s : State := { s with drain := { s.drain with asked := false } }
    if s.active then State.setDrain ({ s with drain := { s.drain with began := s.now } }.setPhase 5) 2 else s.drainLeft
  else s

/-! ### The tick (R27) -/

/-- A tick: `cut` at an apply tick, where `start` or `join` says which round brought it. -/
def State.tick (s : State) (cut start join : Bool) : State :=
  let latched := if s.pav.lfeDone ∧ ¬ cut then some s.pav.latched else none
  let n := s.f PAV_CFG_N_PASSES
  let late := s.inJob && !cut && decide ((if s.pav.idleRun then 2 * n else n) < s.passNow)
  let s := s.when (s.inJob && s.qdr.member.isNone && !cut) (fun s => s.tellDegraded.writeTaint)
  let s := s.when late (·.evt PAV_EVT_TICK_LATE)
  let s := s.nextFrame.freshFrame
  let s := s.resume
  let s := s.when (s.halted || s.qdr.excluded) State.removeImage
  let s := (s.applyDue start join).freshBarrier
  let s := (s.takeLevel latched).advanceHorizon
  let s := s.drainTick.serveStep
  let s := s.decayCounts.applyTrims.gains.railSteps
  s.retryLeaves.rejoinCopy

/-- TICK (R26, R27). -/
def execTick (t : Nat) (s : State) : Host.Outcome State Fault Refusal :=
  let s := s.at t
  if s.tickReady then .next (s.tick false false false) else .next s

/-- TXN_APPLY (R267): at the tick, what is due and not yet applied. -/
def execTxnApply (t : Nat) (s : State) : Host.Outcome State Fault Refusal :=
  let s := s.at t
  if s.power = .on ∧ s.now = s.f PAV_TICK_TICK_STAMP then .next (s.applyDue false false) else .next s

/-- APPLY_TICK (R273, R274): the first pass boundary after a START round's COMMIT, or after the completion of frame F − 1 has reached a
joiner. -/
def execApplyTick (t : Nat) (s : State) : Host.Outcome State Fault Refusal :=
  let s := s.at t
  let join := s.qdr.done.any (fun f => s.txnPend.any (fun (p : TxnPend) => p.job && p.mode == 1 && p.verdict == .commit && p.target == f + 1))
  if s.boundary ∧ ¬ s.active ∧ (s.qdr.startGo ∨ join) then
    let s := s.tick true s.qdr.startGo join
    .next { s with qdr := { s.qdr with startGo := false, startSent := false }, joinSeen := none }
  else .next s

end Sys2Proof.Machine
end

