-- ==== Sys2Proof/Machine/Mgt.lean ====
section
/-! DEFINITION. Larkspur's commands at HOST_MGT and the end of every mailbox command (R178, R179, R436 to R440, R474, R477 to R484): loads,
register writes, the cable plan, the calibration audit, telemetry, the graceful drain, the service button and the indicators. -/

namespace Sys2Proof.Machine

/-! ### Status, load, registers and cable plan (R439) -/

/-- STATUS (R439, R482). -/
def execStatus (t : Nat) (s : State) : Host.Outcome State Fault Refusal :=
  .next ((s.at t).mgtDoor 0x01 (fun s => s.reply 1 0 [(s.reg 0xC00000).toNat, s.drain.st]))

/-- A register write of Larkspur's, and the code it is rejected with, if it is. -/
def State.tryWrite (s : State) (f : State → State) : State × Option Nat :=
  let old := s.f (TXNP_STAT_LAST_REJ 2)
  let r := f (s.setf (TXNP_STAT_LAST_REJ 2) 0xFF)
  let c := r.f (TXNP_STAT_LAST_REJ 2)
  if c = 0xFF then (r.setf (TXNP_STAT_LAST_REJ 2) old, none) else (r, some c)

/-- Larkspur's writes one after another; the first rejection ends the command with REFUSED and its code. -/
def State.mgtWrites (s : State) : List (State → State) → (State → State) → State
  | [], k => k s
  | f :: fs, k => match s.tryWrite f with
    | (s, some c) => s.reply 1 0x0E [c]
    | (s, none) => s.mgtWrites fs k

/-- The image that word 1 of an IMG_LOAD names is encrypted (R250) while debug FULL holds (R434). -/
def State.loadLocked (s : State) : Bool :=
  s.f SEC_STATE_DEBUG == 2 && s.num (4096 * bits (s.reqWord 1 1) 0 30 + 12) 4 % 2 == 1

/-- IMG_LOAD (R259, R439): the staging registers, then LOAD. It is answered at the end of the load, or at once when LOAD is BUSY; under
debug FULL an encrypted image is answered LOCKED (R434). -/
def execImgLoad (t : Nat) (img : Image) (s : State) : Host.Outcome State Fault Refusal :=
  .next ((s.at t).mgtDoor 0x02 (fun s =>
    if s.loadLocked then s.reply 1 0x0A []
    else s.mgtWrites [fun s => s.writeReg .larkspur 0x300000 (s.reqWord 1 1), fun s => s.writeReg .larkspur 0x300008 (s.reqWord 1 2),
        fun s => s.guarded .larkspur 0x300010 false true (·.load img)] (fun s =>
      if s.f IMG_STATE_ERR = 0x14 then s.reply 1 0x07 [(s.reg 0x300018).toNat]
      else if s.imgSt = 7 then s.reply 1 0 [(s.reg 0x300018).toNat]
      else s)))

/-- IMG_ABORT (R259, R439). -/
def execImgAbort (t : Nat) (s : State) : Host.Outcome State Fault Refusal :=
  .next ((s.at t).mgtDoor 0x03 (fun s => s.mgtWrites [fun s => s.wrLoadAbort .larkspur] (·.reply 1 0 [])))

/-- The transaction ID of a REG_WRITE (notes/assumptions/44.md). -/
def State.regTxnId (s : State) : Nat := 2 ^ 29 + s.reqTag 1 % 2 ^ 29

/-- REG_WRITE (R439): begin, write and commit in Larkspur's own transaction. It is answered when the transaction ends, or at once when a
step fails, which leaves no transaction open. -/
def execRegWrite (t : Nat) (s : State) : Host.Outcome State Fault Refusal :=
  .next ((s.at t).mgtDoor 0x04 (fun s =>
    let id := s.regTxnId
    if (s.openTxn .larkspur).isSome then (s.begin .larkspur id).reply 1 0x0E [0x03]
    else
      let s := s.begin .larkspur id
      match s.tryWrite (fun s => s.writeReg .larkspur (s.reqWord 1 1) (s.reqWord 1 2)) with
      | (s, some c) => (s.setOpen .larkspur none).reply 1 0x0E [c]
      | (s, none) =>
        let s : State := { s.setf (TXNP_FRAME_TARGET 2) (s.reqWord 1 4) with mgtTxn := some id }
        let s := s.commitCmd .larkspur (bits (s.reqWord 1 3) 0 2) (bits (s.reqWord 1 3) 2 1 == 1)
        if s.f (TXNP_STAT_RESULT 2) = 0x01 ∨ s.mgtTxn.isNone then s
        else State.reply { s.setOpen .larkspur none with mgtTxn := none } 1 0x0E [s.f (TXNP_STAT_RESULT 2)]))

/-- CABLE_PLAN (R326, R439): FAB_PLAN LOAD. -/
def execCablePlan (t : Nat) (s : State) : Host.Outcome State Fault Refusal :=
  .next ((s.at t).mgtDoor 0x05 (fun s => s.mgtWrites [fun s => s.wrPlan .larkspur (bits (s.reqWord 1 1) 0 42)] (·.reply 1 0 [])))

/-! ### The calibration audit (R178, R179, R470) -/

/-- AUDIT (R178): IN_JOB while an image is loaded or loading. -/
def execAudit (t : Nat) (s : State) : Host.Outcome State Fault Refusal :=
  .next ((s.at t).mgtDoor 0x06 (fun s =>
    if ¬ [0, 7].contains s.imgSt then s.reply 1 0x06 []
    else if s.audit.running then s.reply 1 0x07 []
    else { s with audit := { s.audit with running := true, began := s.now } }))

/-- The arrays an audit programmed are erased; the commands count in PROG_CNT (R178, R179). -/
def State.auditArray (s : State) (A : Nat) : State :=
  ({ s with cells := serase s.cells A }.setf (ARR_STATE_STATE A) 0).setf (ARR_STATE_PROG_CNT A) (s.f (ARR_STATE_PROG_CNT A) + 1)

/-- AUDIT_DONE (R178, R179): `items` are the four results (0 PASS, 1 DRIFTED, 2 FAIL), `arrs` the arrays used. A FAIL raises AUDIT_FAIL and
holds loads; an audit in which all pass ends the hold, unless the factory record is unusable. -/
def execAuditDone (t : Nat) (items arrs : List Nat) (s : State) : Host.Outcome State Fault Refusal :=
  let s := s.at t
  if s.power = .on ∧ s.audit.running ∧ s.audit.began + 10000000000 ≤ s.now then
    let r := (List.range 4).map (fun i => min 2 (items.getD i 0))
    let s := arrs.foldl State.auditArray s
    let bad := (List.range 4).filter (fun i => r.getD i 0 = 2)
    let s := bad.foldl (fun s i => s.raise 3 0x29 0 (s.f FAB_ID_PKG_ID) i) s
    let hold := !bad.isEmpty || s.audit.badRec || (s.audit.hold && r.any (· != 0))
    let s : State := { s with audit := { s.audit with running := false, hold := hold } }
    .next (s.reply 1 0 [(r.getD 0 0) + 4 * (r.getD 1 0) + 16 * (r.getD 2 0) + 64 * (r.getD 3 0)])
  else .next s

/-! ### Telemetry (R474) -/

/-- Failed units as the start-up report lists them (R474, R377). -/
def State.failedUnits (s : State) : List Nat :=
  s.failTile.map (2 * 2 ^ 28 + ·) ++ s.failCore.map (3 * 2 ^ 28 + ·) ++ s.boot.routers.map (4 * 2 ^ 28 + ·) ++
  s.boot.convs.map (fun x => 14 * 2 ^ 28 + 560 * x.1 + x.2)

/-- The start-up report (R474). -/
def State.startReport (s : State) : List Nat :=
  let us := ((s.failedUnits.take 1008).map (leBytes 4)).flatten
  leBytes 8 s.boot.transit ++ leBytes 2 s.failTile.length ++ leBytes 2 s.failCore.length ++ leBytes 2 s.boot.routers.length ++
  leBytes 2 s.substituted.length ++ [bit s.audit.badRec, s.lsp.tries] ++ leBytes 2 s.boot.broken ++ List.replicate 44 0 ++ us ++
  List.replicate (4032 - us.length) 0

/-- A write of Larkspur's into tier N (R412). -/
def State.lspPut (s : State) (off : Nat) (bs : List Nat) : State :=
  if s.active ∧ meets s.protected off bs.length then (s.inc MGT_ACL_DENIED).setf MGT_ACL_LAST off else s.write off bs

/-- TELEMETRY (R439, R474): the report and, as the spec lays out none of it, the counters `rest` after it. -/
def execTelemetry (t : Nat) (rest : List Nat) (s : State) : Host.Outcome State Fault Refusal :=
  .next ((s.at t).mgtDoor 0x07 (fun s =>
    let bs := s.startReport ++ rest
    s.withArea 1 (s.reqWord 1 1) bs.length (fun s => (s.lspPut (s.reqWord 1 1) bs).reply 1 0 [])))

/-! ### The graceful drain (R479 to R482) -/

/-- This package's place among the members. -/
def State.ownIdx (s : State) : Nat := s.topo.elim 0 Topo.self

/-- A drain is requested (R479, R481, R482); `door` says that HOST_MGT waits for the answer. -/
def State.requestDrain (s : State) (door : Bool) (waitMs : Nat) : State :=
  let answer (s : State) (st : Nat) : State := if door then s.reply 1 st [] else s
  if 1 ≤ s.drain.st ∨ s.drain.asked then answer s 0
  else
    let s' : State := { s with drain := { s.drain with door := door, waitMs := waitMs } }
    if s.f SYS_STATUS_PHASE < 3 then { s' with drain := { s'.drain with asked := true } }
    else if ¬ s.active then s'.loadAbort.drainLeft
    else if (s.recFor 8 0xB s.ownIdx s.ownIdx).isEmpty then answer { s with drain := { s.drain with flash := some (s.now + 5000000000) } } 0x0E
    else { s' with drain := { s'.drain with asked := true } }

/-- DRAIN (R479): word 1 is DRAIN_WAIT in ms, 0 for 30,000; a longer one than 600,000 is no record the command takes. -/
def execDrain (t : Nat) (s : State) : Host.Outcome State Fault Refusal :=
  .next ((s.at t).mgtDoor 0x08 (fun s =>
    let w := s.reqWord 1 1
    if 600000 < w then s.reply 1 0x03 [] else s.requestDrain true (if w = 0 then 30000 else w)))

/-- Larkspur may send the leave notice: it runs, and no abort round is under way (R482). -/
def State.mayLeave (s : State) : Bool := s.active && s.drain.st == 2 && s.f MGT_LSTATE_STATE == 2 && s.qdr.member.isNone

/-- HANDOVER (R480): the leave notice to every member, and this member's own commit, for 16 frames ahead. -/
def State.handover (s : State) : State :=
  let F := s.jobFrame + 16
  let s := s.setDrain 3
  (s.toAll (.leave s.ownIdx F)).commitLeave s.ownIdx F

/-- DRAIN_HANDOVER (R479): the home holds no live request. -/
def execDrainHandover (t : Nat) (s : State) : Host.Outcome State Fault Refusal :=
  let s := s.at t
  if s.mayLeave ∧ ¬ s.reqs.any (fun (r : Req) => r.home == s.f FAB_ID_PKG_ID) then .next s.handover else .next s

/-- DRAIN_WAIT_EXPIRE (R479). -/
def execDrainWaitExpire (t : Nat) (s : State) : Host.Outcome State Fault Refusal :=
  let s := s.at t
  if s.mayLeave ∧ s.drain.began + 1000000 * s.drain.waitMs ≤ s.now then .next s.handover else .next s

/-- LEAVE_NOTICE (R480): Larkspur takes the oldest notice that has come and commits the patches for the loss of that member. -/
def execLeaveNotice (t : Nat) (s : State) : Host.Outcome State Fault Refusal :=
  let s := s.at t
  match s.notices with
  | [] => .next s
  | x :: rest =>
    if s.active ∧ s.f MGT_LSTATE_STATE = 2 then .next (State.commitLeave { s with notices := rest } x.1 x.2) else .next s

/-! ### The service button and the indicators (R483, R484) -/

/-- BUTTON_PRESS (R483): an accepted press, stamped at the first of its samples. -/
def execButtonPress (t stamp : Nat) (s : State) : Host.Outcome State Fault Refusal :=
  let s := s.at t
  if s.power = .on ∧ s.drain.press.isNone then
    let late := decide (3 ≤ s.f SYS_STATUS_PHASE) && decide (stamp < s.boot.transit)
    .next { s.setf SYS_BUTTON_HELD 1 with drain := { s.drain with press := some (min stamp s.now), ignore := late, fired := false } }
  else .next s

/-- A hold that has reached 2 s requests its drain, once (R483). -/
def State.holdDrain (s : State) (p at_ : Nat) : State :=
  if s.drain.ignore ∨ s.drain.fired ∨ at_ < p + 2000000000 then s
  else State.requestDrain { s with drain := { s.drain with fired := true } } false 30000

/-- BUTTON_RELEASE (R483): a hold shorter than 2 s is counted. -/
def execButtonRelease (t stamp : Nat) (s : State) : Host.Outcome State Fault Refusal :=
  let s := s.at t
  match s.drain.press with
  | none => .next s
  | some p =>
    let at_ := min stamp s.now
    let s := s.holdDrain p at_
    let short := decide (at_ < p + 2000000000) && !s.drain.ignore
    let s := s.when short (fun s => (s.inc SYS_BUTTON_SHORT).evt SYS_EVT_SHORT_PRESS)
    .next { s.setf SYS_BUTTON_HELD 0 with drain := { s.drain with press := none, ignore := false, fired := false } }

/-- DRAIN_REQUEST (R483): 2 s after the press stamp, without waiting for release. -/
def execDrainRequest (t : Nat) (s : State) : Host.Outcome State Fault Refusal :=
  let s := s.at t
  match s.drain.press with
  | none => .next s
  | some p => .next (s.holdDrain p s.now)

/-- ATTN_FLASH_END (R484): 5 s after a refused drain. -/
def execAttnFlashEnd (t : Nat) (s : State) : Host.Outcome State Fault Refusal :=
  let s := s.at t
  if s.drain.flash.any (fun e => decide (e ≤ s.now)) then .next { s with drain := { s.drain with flash := none } } else .next s

/-- What an indicator output shows (R484). -/
inductive Lamp where
  | released | off | on | halfHz | oneHz | twoHz | fourHz
  deriving DecidableEq, Repr

/-- LOCATE_N (R484). -/
def State.locateN (s : State) : Lamp :=
  if s.power ≠ .on ∧ s.power ≠ .rom then .released
  else if s.drain.st = 4 ∧ (List.range 72).all (fun p => s.f (FAB_PSTAT_IN_USE p) == 0) then .halfHz
  else if s.b SYS_CTRL_LOCATE then .on
  else if s.f SYS_STATUS_PHASE < 3 then .twoHz
  else .off

/-- ATTN_N (R477, R484). -/
def State.attnN (s : State) : Lamp :=
  if s.power ≠ .on ∧ s.power ≠ .rom then .released
  else if s.f SYS_STATUS_PHASE = 6 ∨ s.qdr.excluded then .on
  else if s.drain.flash.isSome then .fourHz
  else if 1 ≤ s.drain.st ∧ s.drain.st ≤ 3 then .oneHz
  else if ¬ s.failedUnits.isEmpty ∨ s.audit.badRec then .on
  else .off

/-! ### The end of a command (R436, R437, R439, R440) -/

/-- A response is made for what waits for no further event: the end of a load, and a CMD that no table lists. -/
def State.settleDoor (s : State) (d : Nat) : State :=
  match s.bell d with
  | none => s
  | some b =>
    if b.run then
      (if d = 1 ∧ ¬ b.ready ∧ s.reqCmd 1 = 0x02 ∧ ¬ (1 ≤ s.imgSt ∧ s.imgSt ≤ 4) then s.reply 1 0 [(s.reg 0x300018).toNat] else s)
    else if d = 1 then (if 1 ≤ s.reqCmd 1 ∧ s.reqCmd 1 ≤ 8 then s else s.mgtDoor (s.reqCmd 1) (·.reply 1 0x01 []))
    else if 1 ≤ s.reqCmd d ∧ s.reqCmd d ≤ 0x0F then s
    else s.secDoor d (s.reqCmd d) [0, 1, 2, 3] (·.reply d 0x01 [])

/-- MAILBOX_DONE (R437): the response of the command at a door becomes valid. -/
def execMailboxDone (t door : Nat) (s : State) : Host.Outcome State Fault Refusal :=
  let s := s.at t
  if s.power ≠ .on ∧ s.power ≠ .rom then .next s
  else
    let s := s.settleDoor door
    if (s.bell door).any (fun (b : Bell) => b.run && b.ready) then .next (s.bellDone door) else .next s

end Sys2Proof.Machine
end

