-- ==== Sys2Proof/Machine/Dispatch.lean ====
section
/-! DEFINITION. One arm per command: its meaning. -/

namespace Sys2Proof.Machine

/-- The effect of a command on everything but the queue. -/
def exec (i : Instr) (s : State) : Host.Outcome State Fault Refusal :=
  match i with
  | .registerWrite t q addr val bytes => Sys2Proof.Machine.execRegisterWrite t q addr val bytes s
  | .txnBegin t q id => Sys2Proof.Machine.execTxnBegin t q id s
  | .txnCommit t q mode job => Sys2Proof.Machine.execTxnCommit t q mode job s
  | .txnRollback t q id => Sys2Proof.Machine.execTxnRollback t q id s
  | .txnApply t => Sys2Proof.Machine.execTxnApply t s
  | .tick t => Sys2Proof.Machine.execTick t s
  | .pausePass t => Sys2Proof.Machine.execPausePass t s
  | .wakePass t tile => Sys2Proof.Machine.execWakePass t tile s
  | .waitTest t core slot => Sys2Proof.Machine.execWaitTest t core slot s
  | .waitTimeout t => Sys2Proof.Machine.execWaitTimeout t s
  | .heldSend t => Sys2Proof.Machine.execHeldSend t s
  | .localFrameEnd t => Sys2Proof.Machine.execLocalFrameEnd t s
  | .arrivePost t => Sys2Proof.Machine.execArrivePost t s
  | .idleInterval t => Sys2Proof.Machine.execIdleInterval t s
  | .tilePass t core slot dev errs => Sys2Proof.Machine.execTilePass t core slot dev errs s
  | .repairSlot t core slot cycles errs => Sys2Proof.Machine.execRepairSlot t core slot cycles errs s
  | .readout t core slot errs => Sys2Proof.Machine.execReadout t core slot errs s
  | .spill t core slot => Sys2Proof.Machine.execSpill t core slot s
  | .fill t core slot errs => Sys2Proof.Machine.execFill t core slot errs s
  | .scrub t core slot => Sys2Proof.Machine.execScrub t core slot s
  | .wideTask t core slot errs => Sys2Proof.Machine.execWideTask t core slot errs s
  | .correctionTask t core slot errs => Sys2Proof.Machine.execCorrectionTask t core slot errs s
  | .attend t core slot errs lines => Sys2Proof.Machine.execAttend t core slot errs lines s
  | .attnMerge t core slot errs => Sys2Proof.Machine.execAttnMerge t core slot errs s
  | .shardSummary t core slot errs => Sys2Proof.Machine.execShardSummary t core slot errs s
  | .sampleDraw t slot draft far => Sys2Proof.Machine.execSampleDraw t slot draft far s
  | .streamRoute t core slot bad errs lines => Sys2Proof.Machine.execStreamRoute t core slot bad errs lines s
  | .fabSend t core slot errs => Sys2Proof.Machine.execFabSend t core slot errs s
  | .fabRecv t core slot => Sys2Proof.Machine.execFabRecv t core slot s
  | .controlSlot t core slot => Sys2Proof.Machine.execControlSlot t core slot s
  | .cowCopy t core slot => Sys2Proof.Machine.execCowCopy t core slot s
  | .pageMigrate t core slot => Sys2Proof.Machine.execPageMigrate t core slot s
  | .migrateDone t lines => Sys2Proof.Machine.execMigrateDone t lines s
  | .shadow t core slot differ => Sys2Proof.Machine.execShadow t core slot differ s
  | .suspectExpire t entry => Sys2Proof.Machine.execSuspectExpire t entry s
  | .scoreDecay t => Sys2Proof.Machine.execScoreDecay t s
  | .railDecay t region => Sys2Proof.Machine.execRailDecay t region s
  | .satpCheck t => Sys2Proof.Machine.execSatpCheck t s
  | .trackerWindow t arr => Sys2Proof.Machine.execTrackerWindow t arr s
  | .gTrackWrite t q arr val => Sys2Proof.Machine.execGTrackWrite t q arr val s
  | .trimWrite t q tile off gain range => Sys2Proof.Machine.execTrimWrite t q tile off gain range s
  | .forceFlag t q arr => Sys2Proof.Machine.execForceFlag t q arr s
  | .program t q arr src => Sys2Proof.Machine.execProgram t q arr src s
  | .erase t q arr => Sys2Proof.Machine.execErase t q arr s
  | .progAbort t q arr => Sys2Proof.Machine.execProgAbort t q arr s
  | .programStart t region => Sys2Proof.Machine.execProgramStart t region s
  | .progResume t region => Sys2Proof.Machine.execProgResume t region s
  | .progDone t arr stuck iterMax resid => Sys2Proof.Machine.execProgDone t arr stuck iterMax resid s
  | .eraseDone t arr => Sys2Proof.Machine.execEraseDone t arr s
  | .progConfigLoad t arr => Sys2Proof.Machine.execProgConfigLoad t arr s
  | .validate t q arr => Sys2Proof.Machine.execValidate t q arr s
  | .factValidSet t arr => Sys2Proof.Machine.execFactValidSet t arr s
  | .accClr t q tile mask => Sys2Proof.Machine.execAccClr t q tile mask s
  | .spdDataRead t q core err => Sys2Proof.Machine.execSpdDataRead t q core err s
  | .spdDataWrite t q core val => Sys2Proof.Machine.execSpdDataWrite t q core val s
  | .sqDoorbell t pair tail lines => Sys2Proof.Machine.execSqDoorbell t pair tail lines s
  | .cqDoorbell t pair head arm => Sys2Proof.Machine.execCqDoorbell t pair head arm s
  | .qpEnable t pair val => Sys2Proof.Machine.execQpEnable t pair val s
  | .commandArrive t => Sys2Proof.Machine.execCommandArrive t s
  | .newReq t => Sys2Proof.Machine.execNewReq t s
  | .continueReq t => Sys2Proof.Machine.execContinueReq t s
  | .pause t => Sys2Proof.Machine.execPause t s
  | .resume t => Sys2Proof.Machine.execResume t s
  | .cancel t => Sys2Proof.Machine.execCancel t s
  | .fork t => Sys2Proof.Machine.execFork t s
  | .deferExpire t => Sys2Proof.Machine.execDeferExpire t s
  | .accept t => Sys2Proof.Machine.execAccept t s
  | .tokens t => Sys2Proof.Machine.execTokens t s
  | .doneReq t => Sys2Proof.Machine.execDoneReq t s
  | .expired t => Sys2Proof.Machine.execExpired t s
  | .ttlExpire t scope tag => Sys2Proof.Machine.execTtlExpire t scope tag s
  | .pauseEffect t scope tag => Sys2Proof.Machine.execPauseEffect t scope tag s
  | .idlePause t scope tag => Sys2Proof.Machine.execIdlePause t scope tag s
  | .resumeDone t scope tag => Sys2Proof.Machine.execResumeDone t scope tag s
  | .load t q img => Sys2Proof.Machine.execLoad t q img s
  | .loadAbort t q => Sys2Proof.Machine.execLoadAbort t q s
  | .hashDone t sig vet place => Sys2Proof.Machine.execHashDone t sig vet place s
  | .decryptDone t tag plain vet place => Sys2Proof.Machine.execDecryptDone t tag plain vet place s
  | .loadProgrammed t => Sys2Proof.Machine.execLoadProgrammed t s
  | .loadDone t facts => Sys2Proof.Machine.execLoadDone t facts s
  | .applyTick t => Sys2Proof.Machine.execApplyTick t s
  | .startWaitExpire t => Sys2Proof.Machine.execStartWaitExpire t s
  | .cdcSlip t link => Sys2Proof.Machine.execCdcSlip t link s
  | .pllUnlock t region => Sys2Proof.Machine.execPllUnlock t region s
  | .unitReset t q late => Sys2Proof.Machine.execUnitReset t q late s
  | .unitResetEnd t kind idx => Sys2Proof.Machine.execUnitResetEnd t kind idx s
  | .unitEnWrite t q val => Sys2Proof.Machine.execUnitEnWrite t q val s
  | .unitDrainDone t core n => Sys2Proof.Machine.execUnitDrainDone t core n s
  | .dataFlit t port f fec => Sys2Proof.Machine.execDataFlit t port f fec s
  | .ackFlit t port f fec => Sys2Proof.Machine.execAckFlit t port f fec s
  | .ctrlFlit t port f msg fec => Sys2Proof.Machine.execCtrlFlit t port f msg fec s
  | .linkTimerExpire t port => Sys2Proof.Machine.execLinkTimerExpire t port s
  | .beaconSend t => Sys2Proof.Machine.execBeaconSend t s
  | .beacon t port f => Sys2Proof.Machine.execBeacon t port f s
  | .promenadeTimeout t => Sys2Proof.Machine.execPromenadeTimeout t s
  | .cablePlanLoad t q addr => Sys2Proof.Machine.execCablePlanLoad t q addr s
  | .lossOfLight t port => Sys2Proof.Machine.execLossOfLight t port s
  | .lightSteady t port => Sys2Proof.Machine.execLightSteady t port s
  | .portUp t port rtt far => Sys2Proof.Machine.execPortUp t port rtt far s
  | .portEnWrite t q port en => Sys2Proof.Machine.execPortEnWrite t q port en s
  | .portDrainDone t port => Sys2Proof.Machine.execPortDrainDone t port s
  | .standinRetrainDone t port rtt far => Sys2Proof.Machine.execStandinRetrainDone t port rtt far s
  | .standinFail t port => Sys2Proof.Machine.execStandinFail t port s
  | .arrive t port f => Sys2Proof.Machine.execArrive t port f s
  | .partialTimeout t => Sys2Proof.Machine.execPartialTimeout t s
  | .windowClose t => Sys2Proof.Machine.execWindowClose t s
  | .held t port f => Sys2Proof.Machine.execHeld t port f s
  | .complete t port f => Sys2Proof.Machine.execComplete t port f s
  | .rootLost t => Sys2Proof.Machine.execRootLost t s
  | .abort t port f => Sys2Proof.Machine.execAbort t port f s
  | .abortAck t port f => Sys2Proof.Machine.execAbortAck t port f s
  | .abortAckTimeout t => Sys2Proof.Machine.execAbortAckTimeout t s
  | .restoreDone t srcs => Sys2Proof.Machine.execRestoreDone t srcs s
  | .restoreWindowClose t => Sys2Proof.Machine.execRestoreWindowClose t s
  | .startVote t port f => Sys2Proof.Machine.execStartVote t port f s
  | .startGo t port f => Sys2Proof.Machine.execStartGo t port f s
  | .read t port f lines => Sys2Proof.Machine.execRead t port f lines s
  | .write t port f => Sys2Proof.Machine.execWrite t port f s
  | .readRsp t port f => Sys2Proof.Machine.execReadRsp t port f s
  | .writeRsp t port f => Sys2Proof.Machine.execWriteRsp t port f s
  | .poolCmdRead t q slot => Sys2Proof.Machine.execPoolCmdRead t q slot s
  | .poolCmdWrite t q slot => Sys2Proof.Machine.execPoolCmdWrite t q slot s
  | .poolCmdAbort t q slot => Sys2Proof.Machine.execPoolCmdAbort t q slot s
  | .poolTimeout t slot => Sys2Proof.Machine.execPoolTimeout t slot s
  | .fchEnWrite t q ch en => Sys2Proof.Machine.execFchEnWrite t q ch en s
  | .channelDrainDone t ch => Sys2Proof.Machine.execChannelDrainDone t ch s
  | .tfLost t ch reset => Sys2Proof.Machine.execTfLost t ch reset s
  | .hbmLost t stack => Sys2Proof.Machine.execHbmLost t stack s
  | .patrolScrub t stack corrected => Sys2Proof.Machine.execPatrolScrub t stack corrected s
  | .bar4Read t off n lines => Sys2Proof.Machine.execBar4Read t off n lines s
  | .bar4Write t off data => Sys2Proof.Machine.execBar4Write t off data s
  | .errorRecord t idx => Sys2Proof.Machine.execErrorRecord t idx s
  | .getId t door => Sys2Proof.Machine.execGetId t door s
  | .getCert t door => Sys2Proof.Machine.execGetCert t door s
  | .quote t door sig => Sys2Proof.Machine.execQuote t door sig s
  | .getMlog t door => Sys2Proof.Machine.execGetMlog t door s
  | .extend t door => Sys2Proof.Machine.execExtend t door s
  | .ownerTransfer t door sig => Sys2Proof.Machine.execOwnerTransfer t door sig s
  | .keyImport t door sig key => Sys2Proof.Machine.execKeyImport t door sig key s
  | .keyErase t door => Sys2Proof.Machine.execKeyErase t door s
  | .rollAdvance t door sig => Sys2Proof.Machine.execRollAdvance t door sig s
  | .larkspurUpdate t door sig => Sys2Proof.Machine.execLarkspurUpdate t door sig s
  | .larkspurHalt t answered => Sys2Proof.Machine.execLarkspurHalt t answered s
  | .larkspurReady t => Sys2Proof.Machine.execLarkspurReady t s
  | .updateRevert t => Sys2Proof.Machine.execUpdateRevert t s
  | .yarrowStage t door rec sig => Sys2Proof.Machine.execYarrowStage t door rec sig s
  | .debugChallenge t door => Sys2Proof.Machine.execDebugChallenge t door s
  | .nonceExpire t => Sys2Proof.Machine.execNonceExpire t s
  | .debugUnlock t door rec sig => Sys2Proof.Machine.execDebugUnlock t door rec sig s
  | .debugKill t door sig => Sys2Proof.Machine.execDebugKill t door sig s
  | .kick t door => Sys2Proof.Machine.execKick t door s
  | .watchdogExpire t => Sys2Proof.Machine.execWatchdogExpire t s
  | .bootReadyTimeout t => Sys2Proof.Machine.execBootReadyTimeout t s
  | .status t => Sys2Proof.Machine.execStatus t s
  | .imgLoad t img => Sys2Proof.Machine.execImgLoad t img s
  | .imgAbort t => Sys2Proof.Machine.execImgAbort t s
  | .regWrite t => Sys2Proof.Machine.execRegWrite t s
  | .cablePlan t => Sys2Proof.Machine.execCablePlan t s
  | .audit t => Sys2Proof.Machine.execAudit t s
  | .auditDone t items arrs => Sys2Proof.Machine.execAuditDone t items arrs s
  | .telemetry t rest => Sys2Proof.Machine.execTelemetry t rest s
  | .drain t => Sys2Proof.Machine.execDrain t s
  | .drainHandover t => Sys2Proof.Machine.execDrainHandover t s
  | .drainWaitExpire t => Sys2Proof.Machine.execDrainWaitExpire t s
  | .leaveNotice t => Sys2Proof.Machine.execLeaveNotice t s
  | .buttonPress t stamp => Sys2Proof.Machine.execButtonPress t stamp s
  | .buttonRelease t stamp => Sys2Proof.Machine.execButtonRelease t stamp s
  | .drainRequest t => Sys2Proof.Machine.execDrainRequest t s
  | .powerOn t yOk lOk hbm record reads => Sys2Proof.Machine.execPowerOn t yOk lOk hbm record reads s
  | .selfTestDone t convs cores routers => Sys2Proof.Machine.execSelfTestDone t convs cores routers s
  | .transitEnter t => Sys2Proof.Machine.execTransitEnter t s
  | .packageReset t q key => Sys2Proof.Machine.execPackageReset t q key s
  | .inputFault t => Sys2Proof.Machine.execInputFault t s
  | .latchClear t => Sys2Proof.Machine.execLatchClear t s
  | .vcoreFail t region => Sys2Proof.Machine.execVcoreFail t region s
  | .railFault t rail written => Sys2Proof.Machine.execRailFault t rail written s
  | .sensorSample t reads => Sys2Proof.Machine.execSensorSample t reads s
  | .shutdownRailsOff t => Sys2Proof.Machine.execShutdownRailsOff t s
  | .xchkStart t q => Sys2Proof.Machine.execXchkStart t q s
  | .hkScan t codes => Sys2Proof.Machine.execHkScan t codes s
  | .trkClr t q ch => Sys2Proof.Machine.execTrkClr t q ch s
  | .functionReset t => Sys2Proof.Machine.execFunctionReset t s
  | .msixUnmask t v => Sys2Proof.Machine.execMsixUnmask t v s
  | .sysErrRead t w => Sys2Proof.Machine.execSysErrRead t w s
  | .attnFlashEnd t => Sys2Proof.Machine.execAttnFlashEnd t s
  | .channelTrainDone t ch up => Sys2Proof.Machine.execChannelTrainDone t ch up s
  | .mailboxDone t door => Sys2Proof.Machine.execMailboxDone t door s
  | .larkspurTierWrite t off data => Sys2Proof.Machine.execLarkspurTierWrite t off data s

end Sys2Proof.Machine
end

