-- ==== Sys2Proof/Safety.lean ====
section
/-! DEFINITION. What claims about runs are said in: a step that answers, the canonical form of stored data, the kinds of state a
command may change, and what it means that all others are as before. -/

namespace Sys2Proof.Machine

/-- A state whose next step answers a next state. -/
def State.Safe (s : State) : Prop := ∃ s', step s = .next s'

/-- A command completes: it answers a next state, of which `P` holds. -/
def Runs (i : Instr) (s : State) (P : State → Prop) : Prop := ∃ u, exec i s = .next u ∧ P u

/-- Every register but those at the listed keys reads the same in two states. -/
def regsBut (K : List Nat) (a b : State) : Prop := ∀ k, k ∉ K → b.reg k = a.reg k

/-- Every byte of memory outside the `n` bytes from `lo` reads the same in two states. -/
def memBut (lo n : Nat) (a b : State) : Prop := ∀ x, ¬ (lo ≤ x ∧ x < lo + n) → b.byte x = a.byte x

/-- What an event bit that sets may change: its own register, SYS_EVTLATCH and the MSI-X pending bits (R505, R510). -/
def Fld.evtKeys (F : Fld) : List Nat := [F.a, 0x30, bar2 + 0x9000]

/-- The hypotheses under which a write of eight bytes reaches a register that is no action of its own: its row, that it is no selector,
and that the access is not stopped before the checks of R42. -/
def ordinaryWrite (a : State) (q : Requester) (k : Nat) (v : Word) (r : RegRow) : Prop :=
  k < 0x4000000 ∧ k % 8 = 0 ∧ regRow k = some r ∧
    (if k < 0x2000000 then a.writeHub q k v.toNat else a.writeCore q k v.toNat) = none ∧ a.gate q k = none

/-- A flit of a sequenced type passes the link layer at a port that is UP (R305, R309): its CRC and epoch are right, it is the next one
expected, and it carries no NAK. -/
def flitTaken (a : State) (p typ : Nat) (f : Flit) : Prop :=
  p < 72 ∧ f.typ % 16 = typ ∧ a.portUp p = true ∧ f.crc = crc32 (flitBody f) ∧ (a.prt p).farEp = some f.epoch ∧ f.seq = (a.prt p).expSeq ∧
    f.nak = 0xFFFFFFFF

/-- The rows of the admission root's decisions and the opcode each decides. -/
def decidingRows (t : Nat) : List (Nat × Instr) :=
  [(1, .newReq t), (2, .continueReq t), (3, .pause t), (4, .resume t), (5, .cancel t), (6, .fork t)]

/-- The rows of completions and the type each posts. -/
def postingRows (t : Nat) : List (Nat × Instr) := [(1, .accept t), (3, .tokens t), (4, .doneReq t), (5, .expired t)]

/-- Yarrow takes up command `cmd` at door `d` (R436). -/
def secServed (a : State) (d cmd : Nat) : Prop := a.power = .on ∧ d < 4 ∧ d ≠ 1 ∧ a.mayRun d = true ∧ a.reqCmd d = cmd

/-- Larkspur takes up command `cmd` of HOST_MGT and runs (R436, R439). -/
def mgtServed (a : State) (cmd : Nat) : Prop :=
  a.power = .on ∧ a.mayRun 1 = true ∧ a.reqCmd 1 = cmd ∧ a.f MGT_LSTATE_STATE = 2

/-- The rows of HOST_MGT's commands and the CMD of each (R439). -/
def mgtRows (t : Nat) (img : Image) (rest : List Nat) : List (Nat × Instr) :=
  [(1, .status t), (2, .imgLoad t img), (3, .imgAbort t), (4, .regWrite t), (5, .cablePlan t), (6, .audit t), (7, .telemetry t rest), (8, .drain t)]

/-- The commands that are writes of a register under the checks of R42, with the register each writes; `n` is the array, tile, core, port,
channel or slot. -/
def writeRows (t : Nat) (q : Requester) (n a b c : Nat) (img : Image) (w : Word) (e : Bool) : List (Nat × Instr) :=
  [(0x10, .packageReset t q a), (0x300010, .load t q img), (0x300010, .loadAbort t q), (0x600010, .cablePlanLoad t q a),
   (0x800200 + 8 * n, .fchEnWrite t q n e), (pqSlot n + 0x18, .poolCmdRead t q n), (pqSlot n + 0x18, .poolCmdWrite t q n),
   (pqSlot n + 0x18, .poolCmdAbort t q n), (0xA00058, .unitReset t q e), (0xA00068, .unitEnWrite t q w), (0xE00048, .xchkStart t q),
   (arrBlock n + 0x18, .program t q n a), (arrBlock n + 0x18, .erase t q n), (arrBlock n + 0x18, .progAbort t q n),
   (arrBlock n + 8, .forceFlag t q n), (corArr n, .validate t q n), (corArr n + 0x10, .gTrackWrite t q n a),
   (cnvTile n + 0x30, .trimWrite t q n a b c), (accTile n + 0x80, .accClr t q n a), (spdBlock n + 0x10, .spdDataWrite t q n w)] ++
  (if n < 72 then [(portRegs n + 8, .portEnWrite t q n e)] else []) ++ (if n < 48 then [(hkaChan n + 8, .trkClr t q n)] else [])

/-- The fuses of one state are those of another, or more are burnt (R414). -/
def Fuses.burnt (a b : Fuses) : Prop :=
  b.vroot = a.vroot ∧ b.flock = a.flock ∧ a.owners <+: b.owners ∧ a.ownerPk <+: b.ownerPk ∧ a.floorY ≤ b.floorY ∧ a.floorL ≤ b.floorL ∧
    a.floorI ≤ b.floorI ∧ (a.dkill = true → b.dkill = true)

/-- The command at door `d` has its response: status, command and tag in word 0, `ws` after it, zeros in the rest (R437). -/
def answered (a b : State) (d st : Nat) (ws : List Nat) : Prop :=
  b.f (MBX_RSP_WORD d 0) = st * 2 ^ 56 + a.reqCmd d * 2 ^ 48 + a.reqTag d ∧
    (∀ i, i < 7 → b.f (MBX_RSP_WORD d (i + 1)) = ws.getD i 0 % 2 ^ 64) ∧ ∀ x ∈ b.bells, x.door = d → x.run = true ∧ x.ready = true

/-- The registers of a door's response. -/
def rspKeys (d : Nat) : List Nat := (List.range 8).map (fun i => doorAddr d + 0x80 + 8 * i)

/-- A measurement register has been extended with a digest, and the log has its entry while there is room (R422). -/
def extended (a b : State) (i : Nat) (d : List Nat) : Prop :=
  (∀ w, w < 4 → b.f (SEC_MR_VALUE i w) = leNat (((sha256 (a.mr i ++ d)).drop (8 * w)).take 8) % 2 ^ 64) ∧
    (a.yar.mlog.length < 1024 → b.yar.mlog = a.yar.mlog ++ [(i, a.frameOrOnes, d)] ∧ b.yar.lost = a.yar.lost) ∧
    (1024 ≤ a.yar.mlog.length → b.yar.mlog = a.yar.mlog ∧ b.yar.lost = min 65535 (a.yar.lost + 1))

/-- Bytes stand in memory from an address up. -/
def holdsBytes (b : State) (at_ : Nat) (bs : List Nat) : Prop := ∀ i, i < bs.length → b.byte (at_ + i) = bs.getD i 0 % 256

/-- The kinds of state the block has. -/
inductive Part where
  /-- The waiting commands. -/
  | queue
  /-- The count. -/
  | clock
  /-- The supply state. -/
  | supply
  /-- The registers. -/
  | registers
  /-- Tiers and scratchpads. -/
  | memory
  /-- What has left the package. -/
  | sent
  /-- The value the last read returned and the captured SYS_ERR registers. -/
  | readback
  /-- What Pavane keeps of the frame. -/
  | frame
  /-- The slots that have run in the frame. -/
  | slots
  /-- Fenced cores. -/
  | fences
  /-- Packets counted in the frame. -/
  | packets
  /-- Open and pending transactions. -/
  | transactions
  /-- Programming commands. -/
  | programming
  /-- Configuration loads and validation requests. -/
  | configuration
  /-- What the analog cells hold. -/
  | analog
  /-- Accumulator lanes. -/
  | lanes
  /-- Held results, saturation records and captures. -/
  | results
  /-- Converter measurements and trims. -/
  | calibration
  /-- Poisoned words, scrub logs and bank clearings. -/
  | scrub
  /-- The temperatures of the frame. -/
  | temperature
  /-- Tracker windows and clean frames. -/
  | tracking
  /-- Marks of degraded passes. -/
  | degraded
  /-- Wide repeats. -/
  | repeats
  /-- Error records. -/
  | records
  /-- Scores and suspect events. -/
  | suspects
  /-- Failed proxy sums. -/
  | proxies
  /-- Regions without a clock. -/
  | clocks
  /-- The active image. -/
  | image
  /-- The load in progress. -/
  | load
  /-- What self-test failed. -/
  | failures
  /-- Requests. -/
  | requests
  /-- Completions to post. -/
  | completions
  /-- Admission. -/
  | admission
  /-- Leaves announced. -/
  | leaves
  /-- The prefix index. -/
  | prefixes
  /-- Draft tokens and shard summaries. -/
  | sampling
  /-- Pages on the move and copies. -/
  | pages
  /-- The taint log. -/
  | taint
  /-- Journal chains and mirror areas. -/
  | journal
  /-- Snapshots of serving state. -/
  | snapshots
  /-- Staging and receive buffers. -/
  | staged
  /-- Ports, replay stores and control queues. -/
  | links
  /-- The cable plan. -/
  | plan
  /-- Barrier and rounds. -/
  | quadrille
  /-- Membership of the job. -/
  | membership
  /-- Pooled-memory commands. -/
  | pool
  /-- Mailbox commands. -/
  | doors
  /-- Fuses and the calibration store. -/
  | fuses
  /-- Yarrow's log and nonce. -/
  | yarrow
  /-- The calibration audit. -/
  | audit
  /-- What start-up found. -/
  | boot
  /-- Larkspur. -/
  | larkspur
  /-- Messages for Larkspur. -/
  | mail
  /-- Drain and button. -/
  | service
  /-- Heat and power history. -/
  | heat
  /-- The model's sequence of free values. -/
  | free
  deriving DecidableEq, Repr

/-- One kind of state holds the same in two states. -/
def Part.same (p : Part) (a b : State) : Prop :=
  match p with
  | .queue => b.pending = a.pending
  | .clock => b.now = a.now
  | .supply => b.power = a.power
  | .registers => b.regs = a.regs
  | .memory => b.mem = a.mem
  | .sent => b.out = a.out
  | .readback => b.lastRead = a.lastRead ∧ b.errCap = a.errCap
  | .frame => b.pav = a.pav
  | .slots => b.ran = a.ran ∧ b.lastPass = a.lastPass ∧ b.done = a.done
  | .fences => b.fenced = a.fenced
  | .packets => b.wcCount = a.wcCount ∧ b.pktCount = a.pktCount
  | .transactions => b.txnOpen = a.txnOpen ∧ b.txnPend = a.txnPend ∧ b.ownAt = a.ownAt ∧ b.mgtTxn = a.mgtTxn
  | .programming => b.progQ = a.progQ
  | .configuration => b.cfgLoad = a.cfgLoad ∧ b.valReq = a.valReq
  | .analog => b.cells = a.cells
  | .lanes => b.acc = a.acc
  | .results => b.held = a.held ∧ b.satRec = a.satRec ∧ b.capture = a.capture
  | .calibration => b.calSum = a.calSum ∧ b.calPrev = a.calPrev ∧ b.calCycle = a.calCycle ∧ b.trimNext = a.trimNext ∧ b.swTrim = a.swTrim
  | .scrub => b.poison = a.poison ∧ b.scrubLog = a.scrubLog ∧ b.clearing = a.clearing
  | .temperature => b.arrTemp = a.arrTemp
  | .tracking => b.trkWin = a.trkWin ∧ b.trkPrev = a.trkPrev ∧ b.trkNext = a.trkNext ∧ b.lastClean = a.lastClean
  | .degraded => b.degrade = a.degrade
  | .repeats => b.wideRep = a.wideRep
  | .records => b.records = a.records ∧ b.logSeen = a.logSeen
  | .suspects => b.score = a.score ∧ b.suspLast = a.suspLast ∧ b.railPend = a.railPend ∧ b.lastSusp = a.lastSusp
  | .proxies => b.pxFails = a.pxFails
  | .clocks => b.pllLost = a.pllLost
  | .image => b.img = a.img ∧ b.imgDigest = a.imgDigest ∧ b.topoDigest = a.topoDigest
  | .load => b.staging = a.staging ∧ b.stageBase = a.stageBase ∧ b.stageLen = a.stageLen ∧ b.loadStop = a.loadStop ∧ b.loadFact = a.loadFact ∧ b.loadArrs = a.loadArrs
  | .failures => b.failTile = a.failTile ∧ b.failCore = a.failCore
  | .requests => b.reqs = a.reqs ∧ b.evicts = a.evicts ∧ b.nextOrder = a.nextOrder
  | .completions => b.posts = a.posts ∧ b.heldCq = a.heldCq ∧ b.notices = a.notices
  | .admission => b.fwd = a.fwd ∧ b.fwdIn = a.fwdIn ∧ b.undecided = a.undecided ∧ b.arrivals = a.arrivals ∧ b.deferred = a.deferred ∧ b.decisions = a.decisions ∧ b.freeRep = a.freeRep
  | .leaves => b.leaves = a.leaves
  | .prefixes => b.prefixes = a.prefixes ∧ b.nextHandle = a.nextHandle
  | .sampling => b.draftTok = a.draftTok ∧ b.summaries = a.summaries
  | .pages => b.moving = a.moving ∧ b.cow = a.cow ∧ b.kvFail = a.kvFail
  | .taint => b.taint = a.taint
  | .journal => b.chains = a.chains ∧ b.delivered = a.delivered ∧ b.decLog = a.decLog ∧ b.mirUsed = a.mirUsed ∧ b.copied = a.copied
  | .snapshots => b.snaps = a.snaps
  | .staged => b.staged = a.staged ∧ b.fill = a.fill ∧ b.fillNext = a.fillNext
  | .links => b.ctrlQ = a.ctrlQ ∧ b.tx = a.tx ∧ b.ports = a.ports ∧ b.crossings = a.crossings
  | .plan => b.planAt = a.planAt ∧ b.plan = a.plan
  | .quadrille => b.qdr = a.qdr
  | .membership => b.joinSeen = a.joinSeen ∧ b.halted = a.halted ∧ b.failSolo = a.failSolo
  | .pool => b.pool = a.pool ∧ b.pqTag = a.pqTag
  | .doors => b.bells = a.bells
  | .fuses => b.fuses = a.fuses
  | .yarrow => b.yar = a.yar
  | .audit => b.audit = a.audit
  | .boot => b.boot = a.boot
  | .larkspur => b.lsp = a.lsp
  | .mail => b.lspIn = a.lspIn
  | .service => b.drain = a.drain
  | .heat => b.heat = a.heat
  | .free => b.freeCount = a.freeCount

/-- Stored data is in its canonical form: registers, memory, accumulator lanes and soft scores list rising keys and only what differs
from the reset value. -/
def State.canon (s : State) : Bool :=
  scanon resetVal s.regs && scanon memDefault s.mem && scanon (fun _ => 0) s.acc && scanon (fun _ => 0) s.score

/-- What every step keeps: the canonical form of stored data, at most 1,024 entries in the measurement log and 65,535 in LOST (R423), at
most 8 OWNER slots (R414), at most ten conversions in the power history (R454). -/
def State.inv (s : State) : Prop :=
  s.canon = true ∧ s.yar.mlog.length ≤ 1024 ∧ s.yar.lost ≤ 65535 ∧ s.fuses.owners.length ≤ 8 ∧ s.heat.powers.length ≤ 10

/-- From `a` to `b` only the listed kinds of state may have changed, and the canonical form has been kept. -/
structure Touch (W : List Part) (a b : State) : Prop where
  same  : ∀ p, p ∉ W → p.same a b
  canon : a.canon = true → b.canon = true

/-- Every part of one list stands in the other. -/
def Part.sub (l m : List Part) : Bool := l.all (fun p => m.contains p)

/-- The kinds of state a command may change; every other kind is as before. -/
def changes : Instr → List Part
  | .registerWrite .. => [.clock, .supply, .registers, .memory, .sent, .readback, .frame, .slots, .fences, .packets, .transactions,
      .programming, .configuration, .lanes, .results, .calibration, .scrub, .temperature, .tracking, .degraded, .repeats, .records,
      .suspects, .proxies, .clocks, .image, .load, .failures, .requests, .completions, .admission, .leaves, .prefixes, .sampling,
      .pages, .taint, .journal, .snapshots, .staged, .links, .plan, .quadrille, .membership, .pool, .doors, .yarrow, .audit, .boot,
      .larkspur, .mail, .service, .heat, .free]
  | .txnBegin .. => [.clock, .registers, .transactions]
  | .txnCommit .. => [.clock, .registers, .sent, .frame, .transactions, .records, .links, .quadrille, .doors]
  | .txnRollback .. => [.clock, .registers, .sent, .transactions, .doors]
  | .txnApply .. => [.clock, .registers, .memory, .sent, .frame, .fences, .transactions, .scrub, .records, .image, .load,
      .requests, .completions, .admission, .leaves, .prefixes, .sampling, .pages, .taint, .journal, .snapshots, .staged, .links,
      .quadrille, .membership, .pool, .doors, .yarrow, .mail, .service]
  | .tick .. => [.clock, .registers, .memory, .sent, .frame, .slots, .fences, .packets, .transactions, .results, .calibration,
      .scrub, .tracking, .degraded, .repeats, .records, .suspects, .image, .load, .requests, .completions, .admission, .leaves,
      .prefixes, .sampling, .pages, .taint, .journal, .snapshots, .staged, .links, .quadrille, .membership, .pool, .doors, .yarrow,
      .mail, .service, .free]
  | .pausePass .. => [.clock, .registers, .frame]
  | .wakePass .. => [.clock, .registers]
  | .waitTest .. => [.clock, .registers, .memory, .sent, .frame, .slots, .scrub, .staged]
  | .waitTimeout .. => [.clock, .registers, .sent, .frame, .records]
  | .heldSend .. => [.clock, .registers, .sent, .frame, .records, .links, .quadrille]
  | .localFrameEnd .. => [.clock, .registers, .sent, .frame, .calibration, .temperature, .records]
  | .arrivePost .. => [.clock, .registers, .memory, .sent, .frame, .transactions, .records, .requests, .completions, .journal,
      .links, .quadrille, .membership, .doors]
  | .idleInterval .. => [.clock, .registers, .sent, .frame]
  | .tilePass .. => [.clock, .registers, .sent, .frame, .slots, .lanes, .results, .calibration, .scrub, .tracking, .degraded,
      .records, .suspects, .free]
  | .repairSlot .. => [.clock, .registers, .memory, .sent, .frame, .slots, .packets, .lanes, .results, .scrub, .degraded, .repeats,
      .records, .suspects, .proxies, .taint, .links, .free]
  | .readout .. => [.clock, .registers, .memory, .sent, .frame, .slots, .packets, .scrub, .records, .suspects, .free]
  | .spill .. => [.clock, .registers, .memory, .sent, .slots, .scrub]
  | .fill .. => [.clock, .registers, .sent, .frame, .slots, .lanes, .scrub, .records, .suspects, .free]
  | .scrub .. => [.clock, .registers, .slots, .scrub]
  | .wideTask .. => [.clock, .registers, .memory, .sent, .frame, .slots, .packets, .lanes, .scrub, .repeats, .records, .suspects,
      .proxies, .taint, .links, .free]
  | .correctionTask .. => [.clock, .registers, .sent, .frame, .slots, .lanes, .scrub, .records, .suspects, .free]
  | .attend .. => [.clock, .registers, .memory, .sent, .frame, .slots, .scrub, .degraded, .records, .suspects, .pages, .free]
  | .attnMerge .. => [.clock, .registers, .memory, .sent, .frame, .slots, .scrub, .records, .suspects, .free]
  | .shardSummary .. => [.clock, .registers, .sent, .frame, .slots, .scrub, .records, .suspects, .sampling, .free]
  | .sampleDraw .. => [.clock, .registers, .memory, .requests, .sampling, .journal, .links]
  | .streamRoute .. => [.clock, .registers, .memory, .sent, .frame, .slots, .scrub, .records, .suspects, .free]
  | .fabSend .. => [.clock, .registers, .sent, .frame, .slots, .scrub, .records, .suspects, .links, .free]
  | .fabRecv .. => [.clock, .registers, .memory, .sent, .slots, .scrub, .staged]
  | .controlSlot .. => [.clock, .registers, .sent, .frame, .slots, .records, .admission, .links]
  | .cowCopy .. => [.clock, .memory, .slots, .pages, .taint]
  | .pageMigrate .. => [.clock, .registers, .memory, .sent, .slots, .pages, .taint]
  | .migrateDone .. => [.clock, .registers, .memory, .sent, .frame, .records, .requests, .pages, .taint, .links]
  | .shadow .. => [.clock, .registers, .sent, .frame, .slots, .results, .tracking, .records, .suspects, .proxies]
  | .suspectExpire .. => [.clock, .registers]
  | .scoreDecay .. => [.clock, .slots, .suspects]
  | .railDecay .. => [.clock, .registers, .suspects]
  | .satpCheck .. => [.clock, .registers, .sent, .slots]
  | .trackerWindow .. => [.clock, .registers, .sent, .frame, .tracking, .records, .free]
  | .gTrackWrite .. => [.clock, .registers, .sent, .tracking]
  | .trimWrite .. => [.clock, .registers, .sent, .transactions, .calibration]
  | .forceFlag .. => [.clock, .registers, .sent]
  | .program .. => [.clock, .registers, .sent, .programming]
  | .erase .. => [.clock, .registers, .sent, .programming]
  | .progAbort .. => [.clock, .registers, .sent, .programming]
  | .programStart .. => [.clock, .registers, .sent, .programming]
  | .progResume .. => [.clock, .registers, .programming]
  | .progDone .. => [.clock, .registers, .memory, .sent, .frame, .programming, .configuration, .analog, .tracking, .records]
  | .eraseDone .. => [.clock, .registers, .sent, .programming, .analog]
  | .progConfigLoad .. => [.clock, .registers, .transactions, .configuration]
  | .validate .. => [.clock, .registers, .sent, .configuration]
  | .factValidSet .. => [.clock, .registers, .sent, .configuration]
  | .accClr .. => [.clock, .registers, .sent, .lanes]
  | .spdDataRead .. => [.clock, .registers, .sent, .readback, .frame, .scrub, .records, .suspects, .free]
  | .spdDataWrite .. => [.clock, .registers, .memory, .sent, .scrub]
  | .sqDoorbell .. => [.clock, .registers, .sent, .frame, .records, .admission]
  | .cqDoorbell .. => [.clock, .registers, .memory, .sent, .requests, .completions, .journal]
  | .qpEnable .. => [.clock, .registers, .memory, .sent]
  | .commandArrive .. => [.clock, .admission]
  | .newReq .. => [.clock, .registers, .memory, .sent, .requests, .completions, .admission, .journal, .links]
  | .continueReq .. => [.clock, .registers, .memory, .sent, .requests, .completions, .admission, .journal, .links]
  | .pause .. => [.clock, .registers, .memory, .sent, .requests, .completions, .admission, .journal, .links]
  | .resume .. => [.clock, .registers, .memory, .sent, .requests, .completions, .admission, .journal, .links]
  | .cancel .. => [.clock, .registers, .memory, .sent, .requests, .completions, .admission, .journal, .links]
  | .fork .. => [.clock, .registers, .memory, .sent, .requests, .completions, .admission, .journal, .links]
  | .deferExpire .. => [.clock, .registers, .memory, .sent, .requests, .completions, .admission, .journal, .links]
  | .accept .. => [.clock, .registers, .memory, .sent, .requests, .completions, .journal, .links]
  | .tokens .. => [.clock, .registers, .memory, .sent, .requests, .completions, .journal, .links]
  | .doneReq .. => [.clock, .registers, .memory, .sent, .requests, .completions, .journal, .links]
  | .expired .. => [.clock, .registers, .memory, .sent, .requests, .completions, .journal, .links]
  | .ttlExpire .. => [.clock, .requests, .admission]
  | .pauseEffect .. => [.clock, .registers, .requests]
  | .idlePause .. => [.clock, .registers, .requests]
  | .resumeDone .. => [.clock, .registers, .requests]
  | .load .. => [.clock, .registers, .sent, .load]
  | .loadAbort .. => [.clock, .registers, .sent, .load]
  | .hashDone .. => [.clock, .registers, .memory, .sent, .programming, .image, .load]
  | .decryptDone .. => [.clock, .registers, .memory, .sent, .programming, .image, .load]
  | .loadProgrammed .. => [.clock, .registers, .sent, .load]
  | .loadDone .. => [.clock, .registers, .memory, .sent, .load]
  | .applyTick .. => [.clock, .registers, .memory, .sent, .frame, .slots, .fences, .packets, .transactions, .results, .calibration,
      .scrub, .tracking, .degraded, .repeats, .records, .suspects, .image, .load, .requests, .completions, .admission, .leaves,
      .prefixes, .sampling, .pages, .taint, .journal, .snapshots, .staged, .links, .quadrille, .membership, .pool, .doors, .yarrow,
      .mail, .service, .free]
  | .startWaitExpire .. => [.clock, .registers, .sent, .frame, .transactions, .records, .links, .quadrille, .doors]
  | .cdcSlip .. => [.clock, .frame, .records]
  | .pllUnlock .. => [.clock, .frame, .records, .clocks]
  | .unitReset .. => [.clock, .registers, .sent, .frame, .transactions, .records, .mail]
  | .unitResetEnd .. => [.clock, .registers]
  | .unitEnWrite .. => [.clock, .registers, .sent]
  | .unitDrainDone .. => [.clock, .registers, .sent, .frame, .lanes, .results, .records]
  | .dataFlit .. => [.clock, .registers, .sent, .frame, .records, .staged, .links]
  | .ackFlit .. => [.clock, .registers, .sent, .frame, .records, .links]
  | .ctrlFlit .. => [.clock, .registers, .memory, .sent, .frame, .records, .requests, .completions, .admission, .journal, .links,
      .mail]
  | .linkTimerExpire .. => [.clock, .registers, .sent, .frame, .records, .links]
  | .beaconSend .. => [.clock, .sent, .links]
  | .beacon .. => [.clock, .registers, .sent, .frame, .transactions, .records, .links, .quadrille, .doors]
  | .promenadeTimeout .. => [.clock, .registers, .sent]
  | .cablePlanLoad .. => [.clock, .registers, .sent, .frame, .transactions, .records, .links, .plan, .quadrille, .doors, .free]
  | .lossOfLight .. => [.clock, .registers, .sent, .frame, .records, .links, .pool]
  | .lightSteady .. => [.clock, .registers]
  | .portUp .. => [.clock, .registers, .sent, .links]
  | .portEnWrite .. => [.clock, .registers, .sent]
  | .portDrainDone .. => [.clock, .registers, .sent, .links, .pool]
  | .standinRetrainDone .. => [.clock, .registers, .sent, .links, .pool]
  | .standinFail .. => [.clock, .registers, .sent, .frame, .records, .links]
  | .arrive .. => [.clock, .registers, .memory, .sent, .frame, .transactions, .records, .requests, .completions, .journal, .links,
      .quadrille, .membership, .doors]
  | .partialTimeout .. => [.clock, .registers, .sent, .frame, .records, .links, .quadrille]
  | .windowClose .. => [.clock, .registers, .memory, .sent, .frame, .transactions, .results, .degraded, .records, .requests,
      .completions, .admission, .prefixes, .sampling, .pages, .taint, .journal, .snapshots, .staged, .links, .quadrille,
      .membership, .doors]
  | .held .. => [.clock, .registers, .sent, .frame, .records, .links, .quadrille]
  | .complete .. => [.clock, .registers, .memory, .sent, .frame, .transactions, .records, .requests, .completions, .journal,
      .links, .quadrille, .membership, .doors]
  | .rootLost .. => [.clock, .registers, .memory, .sent, .frame, .transactions, .results, .degraded, .records, .requests,
      .completions, .admission, .prefixes, .sampling, .pages, .taint, .journal, .snapshots, .staged, .links, .quadrille,
      .membership, .doors]
  | .abort .. => [.clock, .registers, .memory, .sent, .frame, .transactions, .results, .degraded, .records, .requests,
      .completions, .admission, .prefixes, .sampling, .pages, .taint, .journal, .snapshots, .staged, .links, .quadrille,
      .membership, .doors]
  | .abortAck .. => [.clock, .registers, .memory, .sent, .frame, .transactions, .results, .degraded, .records, .requests,
      .completions, .admission, .prefixes, .sampling, .pages, .taint, .journal, .snapshots, .staged, .links, .quadrille,
      .membership, .doors]
  | .abortAckTimeout .. => [.clock, .registers, .memory, .sent, .frame, .transactions, .results, .degraded, .records, .requests,
      .completions, .admission, .prefixes, .sampling, .pages, .taint, .journal, .snapshots, .staged, .links, .quadrille,
      .membership, .doors]
  | .restoreDone .. => [.clock, .registers, .memory, .sent, .frame, .transactions, .scrub, .records, .requests, .completions,
      .journal, .links, .quadrille, .membership, .doors]
  | .restoreWindowClose .. => [.clock, .registers, .memory, .sent, .frame, .transactions, .results, .degraded, .records, .requests,
      .completions, .admission, .prefixes, .sampling, .pages, .taint, .journal, .snapshots, .staged, .links, .quadrille,
      .membership, .doors]
  | .startVote .. => [.clock, .registers, .sent, .frame, .transactions, .records, .links, .quadrille, .doors]
  | .startGo .. => [.clock, .registers, .sent, .frame, .transactions, .records, .links, .quadrille, .doors]
  | .read .. => [.clock, .registers, .memory, .sent, .frame, .records, .links]
  | .write .. => [.clock, .registers, .memory, .sent, .frame, .records, .links]
  | .readRsp .. => [.clock, .registers, .memory, .sent, .frame, .records, .links, .pool]
  | .writeRsp .. => [.clock, .registers, .memory, .sent, .frame, .records, .links, .pool]
  | .poolCmdRead .. => [.clock, .registers, .sent, .frame, .records, .links, .pool]
  | .poolCmdWrite .. => [.clock, .registers, .sent, .frame, .records, .links, .pool]
  | .poolCmdAbort .. => [.clock, .registers, .sent, .pool]
  | .poolTimeout .. => [.clock, .registers, .sent, .pool]
  | .fchEnWrite .. => [.clock, .registers, .sent]
  | .channelDrainDone .. => [.clock, .registers]
  | .tfLost .. => [.clock, .registers, .memory, .sent, .frame, .records, .requests, .links]
  | .hbmLost .. => [.clock, .registers, .sent, .frame, .records]
  | .patrolScrub .. => [.clock, .registers, .sent]
  | .bar4Read .. => [.clock, .registers, .sent, .readback, .frame, .records]
  | .bar4Write .. => [.clock, .registers, .memory, .sent]
  | .errorRecord .. => [.clock, .registers, .memory, .sent, .frame, .transactions, .results, .degraded, .records, .requests,
      .completions, .admission, .prefixes, .sampling, .pages, .taint, .journal, .snapshots, .staged, .links, .quadrille,
      .membership, .doors]
  | .getId .. => [.clock, .registers, .doors]
  | .getCert .. => [.clock, .registers, .memory, .sent, .doors]
  | .quote .. => [.clock, .registers, .memory, .sent, .doors]
  | .getMlog .. => [.clock, .registers, .memory, .sent, .doors]
  | .extend .. => [.clock, .registers, .doors, .yarrow]
  | .ownerTransfer .. => [.clock, .registers, .doors, .fuses, .yarrow]
  | .keyImport .. => [.clock, .registers, .doors, .fuses]
  | .keyErase .. => [.clock, .registers, .doors, .fuses]
  | .rollAdvance .. => [.clock, .registers, .doors, .fuses]
  | .larkspurUpdate .. => [.clock, .registers, .doors, .larkspur]
  | .larkspurHalt .. => [.clock, .registers, .transactions, .yarrow, .larkspur, .mail]
  | .larkspurReady .. => [.clock, .registers, .doors, .fuses, .larkspur]
  | .updateRevert .. => [.clock, .registers, .transactions, .doors, .yarrow, .larkspur, .mail]
  | .yarrowStage .. => [.clock, .registers, .doors, .fuses]
  | .debugChallenge .. => [.clock, .registers, .doors, .yarrow, .free]
  | .nonceExpire .. => [.clock, .yarrow]
  | .debugUnlock .. => [.clock, .registers, .doors, .yarrow]
  | .debugKill .. => [.clock, .registers, .doors, .fuses]
  | .kick .. => [.clock, .registers, .doors, .larkspur]
  | .watchdogExpire .. => [.clock, .registers, .sent, .transactions, .load, .yarrow, .larkspur, .mail]
  | .bootReadyTimeout .. => [.clock, .registers, .transactions, .yarrow, .larkspur, .mail]
  | .status .. => [.clock, .registers, .doors]
  | .imgLoad .. => [.clock, .supply, .registers, .memory, .sent, .readback, .frame, .slots, .fences, .packets, .transactions,
      .programming, .configuration, .lanes, .results, .calibration, .scrub, .temperature, .tracking, .degraded, .repeats, .records,
      .suspects, .proxies, .clocks, .image, .load, .failures, .requests, .completions, .admission, .leaves, .prefixes, .sampling,
      .pages, .taint, .journal, .snapshots, .staged, .links, .plan, .quadrille, .membership, .pool, .doors, .yarrow, .audit, .boot,
      .larkspur, .mail, .service, .heat, .free]
  | .imgAbort .. => [.clock, .registers, .sent, .load, .doors]
  | .regWrite .. => [.clock, .supply, .registers, .memory, .sent, .readback, .frame, .slots, .fences, .packets, .transactions,
      .programming, .configuration, .lanes, .results, .calibration, .scrub, .temperature, .tracking, .degraded, .repeats, .records,
      .suspects, .proxies, .clocks, .image, .load, .failures, .requests, .completions, .admission, .leaves, .prefixes, .sampling,
      .pages, .taint, .journal, .snapshots, .staged, .links, .plan, .quadrille, .membership, .pool, .doors, .yarrow, .audit, .boot,
      .larkspur, .mail, .service, .heat, .free]
  | .cablePlan .. => [.clock, .registers, .sent, .frame, .transactions, .records, .links, .plan, .quadrille, .doors, .free]
  | .audit .. => [.clock, .registers, .doors, .audit]
  | .auditDone .. => [.clock, .registers, .frame, .analog, .records, .doors, .audit]
  | .telemetry .. => [.clock, .registers, .memory, .doors]
  | .drain .. => [.clock, .registers, .sent, .load, .doors, .service]
  | .drainHandover .. => [.clock, .registers, .sent, .transactions, .leaves, .links, .service]
  | .drainWaitExpire .. => [.clock, .registers, .sent, .transactions, .leaves, .links, .service]
  | .leaveNotice .. => [.clock, .registers, .transactions, .completions, .leaves]
  | .buttonPress .. => [.clock, .registers, .service]
  | .buttonRelease .. => [.clock, .registers, .sent, .load, .doors, .service]
  | .drainRequest .. => [.clock, .registers, .sent, .load, .doors, .service]
  | .powerOn .. => [.clock, .supply, .registers, .memory, .sent, .readback, .frame, .slots, .fences, .packets, .transactions,
      .programming, .configuration, .lanes, .results, .calibration, .scrub, .temperature, .tracking, .degraded, .repeats, .records,
      .suspects, .proxies, .clocks, .image, .load, .failures, .requests, .completions, .admission, .leaves, .prefixes, .sampling,
      .pages, .taint, .journal, .snapshots, .staged, .links, .plan, .quadrille, .membership, .pool, .doors, .yarrow, .audit, .boot,
      .larkspur, .mail, .service, .heat, .free]
  | .selfTestDone .. => [.clock, .failures, .boot]
  | .transitEnter .. => [.clock, .registers, .sent, .doors, .boot, .service]
  | .packageReset .. => [.clock, .supply, .registers, .memory, .sent, .readback, .frame, .slots, .fences, .packets, .transactions,
      .programming, .configuration, .lanes, .results, .calibration, .scrub, .temperature, .tracking, .degraded, .repeats, .records,
      .suspects, .proxies, .clocks, .image, .load, .failures, .requests, .completions, .admission, .leaves, .prefixes, .sampling,
      .pages, .taint, .journal, .snapshots, .staged, .links, .plan, .quadrille, .membership, .pool, .doors, .yarrow, .audit, .boot,
      .larkspur, .mail, .service, .heat]
  | .inputFault .. => [.clock, .supply, .registers, .memory, .readback, .frame, .slots, .fences, .packets, .transactions,
      .programming, .configuration, .lanes, .results, .calibration, .scrub, .temperature, .tracking, .degraded, .repeats, .records,
      .suspects, .proxies, .clocks, .image, .load, .failures, .requests, .completions, .admission, .leaves, .prefixes, .sampling,
      .pages, .taint, .journal, .snapshots, .staged, .links, .plan, .quadrille, .membership, .pool, .doors, .yarrow, .audit, .boot,
      .larkspur, .mail, .service, .heat]
  | .latchClear .. => [.clock, .supply, .registers, .memory, .readback, .frame, .slots, .fences, .packets, .transactions,
      .programming, .configuration, .lanes, .results, .calibration, .scrub, .temperature, .tracking, .degraded, .repeats, .records,
      .suspects, .proxies, .clocks, .image, .load, .failures, .requests, .completions, .admission, .leaves, .prefixes, .sampling,
      .pages, .taint, .journal, .snapshots, .staged, .links, .plan, .quadrille, .membership, .pool, .doors, .yarrow, .audit, .boot,
      .larkspur, .mail, .service, .heat]
  | .vcoreFail .. => [.clock, .registers, .sent, .frame, .records, .clocks]
  | .railFault .. => [.clock, .supply, .registers, .memory, .readback, .frame, .slots, .fences, .packets, .transactions,
      .programming, .configuration, .lanes, .results, .calibration, .scrub, .temperature, .tracking, .degraded, .repeats, .records,
      .suspects, .proxies, .clocks, .image, .load, .failures, .requests, .completions, .admission, .leaves, .prefixes, .sampling,
      .pages, .taint, .journal, .snapshots, .staged, .links, .plan, .quadrille, .membership, .pool, .doors, .yarrow, .audit, .boot,
      .larkspur, .mail, .service, .heat]
  | .sensorSample .. => [.clock, .registers, .sent, .frame, .programming, .records, .heat]
  | .shutdownRailsOff .. => [.clock, .supply, .registers, .memory, .readback, .frame, .slots, .fences, .packets, .transactions,
      .programming, .configuration, .lanes, .results, .calibration, .scrub, .temperature, .tracking, .degraded, .repeats, .records,
      .suspects, .proxies, .clocks, .image, .load, .failures, .requests, .completions, .admission, .leaves, .prefixes, .sampling,
      .pages, .taint, .journal, .snapshots, .staged, .links, .plan, .quadrille, .membership, .pool, .doors, .yarrow, .audit, .boot,
      .larkspur, .mail, .service, .heat]
  | .xchkStart .. => [.clock, .registers, .sent]
  | .hkScan .. => [.clock, .registers, .sent, .frame, .heat]
  | .trkClr .. => [.clock, .registers, .sent]
  | .functionReset .. => [.clock, .registers]
  | .msixUnmask .. => [.clock, .registers, .sent]
  | .sysErrRead .. => [.clock, .readback]
  | .attnFlashEnd .. => [.clock, .service]
  | .channelTrainDone .. => [.clock, .registers, .sent, .frame, .records]
  | .mailboxDone .. => [.clock, .registers, .sent, .doors]
  | .larkspurTierWrite .. => [.clock, .registers, .memory]

end Sys2Proof.Machine
end

