-- ==== Sys2Proof/Certificates/Slice0/Obligations.lean ====
section
/-! DEFINITION. The statements for the provers. `Runs i s P`: the command completes, and `P` holds of the next state. A hypothesis on
`s.at t` is one on the state at the count the command reaches its unit. -/

open Sys2Proof Sys2Proof.Machine

/-- R263, R265, R266: BEGIN, COMMIT and ROLLBACK on a transaction port, with every answer that ends none of them early: OK, TXN_OPEN,
RANGE, NO_TXN, PEND_FULL, PENDING. COMMIT is stated where no START round waits for this package. -/
def Obligations.TransactionPortsAnswer : Prop :=
  (∀ t q id s, s.power = .on → s.openTxn q = none → id % 2 ^ 32 ≠ 0 →
    Runs (.txnBegin t q id) s fun u => u.openTxn q = some ⟨q, id % 2 ^ 32, []⟩ ∧ (∀ r, r ≠ q → u.openTxn r = s.openTxn r) ∧
      u.txnPend = s.txnPend ∧ u.f (TXNP_STAT_OPEN q.code) = 1 ∧ u.f (TXNP_STAT_OPEN_ID q.code) = id % 2 ^ 32 ∧
      u.f (TXNP_STAT_RESULT q.code) = 0x00 ∧ regsBut [portAddr q.code + 0x10] s u) ∧
  (∀ t q id s, s.power = .on → (s.openTxn q).isSome = true ∨ id % 2 ^ 32 = 0 →
    Runs (.txnBegin t q id) s fun u => u.txnOpen = s.txnOpen ∧ u.txnPend = s.txnPend ∧
      u.f (TXNP_STAT_RESULT q.code) = (if (s.openTxn q).isSome then 0x03 else 0x06) ∧ regsBut [portAddr q.code + 0x10] s u) ∧
  (∀ t q mode job x s, s.power = .on → s.newTopo = none → s.openTxn q = some x →
    s.commitRange q mode job (s.f (TXNP_FRAME_TARGET q.code)) = false → s.commitLate mode job (s.f (TXNP_FRAME_TARGET q.code)) = false →
    (s.pendOf q).length < 8 →
    Runs (.txnCommit t q mode job) s fun u => u.openTxn q = none ∧
      u.txnPend = s.txnPend ++ [⟨q, x.id, mode, job, s.f (TXNP_FRAME_TARGET q.code), max s.now t, false, .none, x.shadows⟩] ∧
      u.f (TXNP_STAT_OPEN q.code) = 0 ∧ u.f (TXNP_STAT_RESULT q.code) = 0x01 ∧ u.f (TXNP_STAT_PENDING q.code) = (s.pendOf q).length + 1) ∧
  (∀ t q mode job s, s.power = .on → s.newTopo = none → s.openTxn q = none →
    Runs (.txnCommit t q mode job) s fun u => u.txnOpen = s.txnOpen ∧ u.txnPend = s.txnPend ∧ u.f (TXNP_STAT_RESULT q.code) = 0x04 ∧
      regsBut [portAddr q.code + 0x10] s u) ∧
  (∀ t q mode job s, s.power = .on → s.newTopo = none → (s.openTxn q).isSome = true →
    s.commitRange q mode job (s.f (TXNP_FRAME_TARGET q.code)) = true ∨ 8 ≤ (s.pendOf q).length →
    Runs (.txnCommit t q mode job) s fun u => u.txnOpen = s.txnOpen ∧ u.txnPend = s.txnPend ∧
      u.f (TXNP_STAT_RESULT q.code) = (if s.commitRange q mode job (s.f (TXNP_FRAME_TARGET q.code)) then 0x06 else 0x0D) ∧
      regsBut [portAddr q.code + 0x10] s u) ∧
  (∀ t q id s, s.power = .on → (s.openTxn q).any (fun x => x.id = id % 2 ^ 32) = true ∨
      ((s.openTxn q).isSome = true ∧ (s.pendOf q).find? (fun (x : TxnPend) => x.id = id % 2 ^ 32) = none) →
    Runs (.txnRollback t q id) s fun u => u.openTxn q = none ∧ u.txnPend = s.txnPend ∧ u.f (TXNP_STAT_OPEN q.code) = 0 ∧
      u.f (TXNP_STAT_RESULT q.code) = 0x00 ∧ regsBut [portAddr q.code + 0x10] s u) ∧
  (∀ t q id p s, s.power = .on → (s.openTxn q).any (fun x => x.id = id % 2 ^ 32) = false →
    (s.pendOf q).find? (fun (x : TxnPend) => x.id = id % 2 ^ 32) = some p → (p.mode = 1 → s.commitLate 1 p.job p.target = false) →
    Runs (.txnRollback t q id) s fun u => u.txnOpen = s.txnOpen ∧ u.txnPend = s.txnPend.filter (fun x => x ≠ p) ∧
      u.f (TXNP_STAT_RESULT q.code) = 0x00 ∧ u.f (TXNP_DONE_RESULT q.code) = 0x0C ∧ u.f (TXNP_DONE_ID q.code) = p.id % 2 ^ 32) ∧
  (∀ t q id s, s.power = .on → s.openTxn q = none →
    (s.pendOf q).find? (fun (x : TxnPend) => x.id = id % 2 ^ 32) = none →
    Runs (.txnRollback t q id) s fun u => u.txnOpen = s.txnOpen ∧ u.txnPend = s.txnPend ∧ u.f (TXNP_STAT_RESULT q.code) = 0x04 ∧
      regsBut [portAddr q.code + 0x10] s u)

/-- R4, R6, R7, R41, R42, R264: an eight-byte write of an ordinary register. RW bits take what is written, W1C bits written 1 are
cleared, every other bit keeps its value; RWT fields go to the shadow of the open transaction, and their committed value stays. The first
check that fails (owner, open transaction, range) rejects the write: its code is in LAST_REJ, and the register is as before. -/
def Obligations.RegisterWritesAreChecked : Prop :=
  (∀ t q k v r s, ordinaryWrite (s.at t) q k v r → r.sel = false → s.owns q k = true → s.rangeOk k v.toNat = true →
    (r.rwt ≠ 0 → (s.openTxn q).any (fun x => x.shadows.length < 4096) = true ∧ s.boundsOk q k v.toNat r.fs = true) →
    Runs (.registerWrite t q k v 8) s fun u =>
      (∀ i, i < 64 → (u.reg k).toNat.testBit i =
        if r.w1c.testBit i && v.toNat.testBit i then false
        else if r.rw.testBit i then (fixedBits k v.toNat).testBit i else (s.reg k).toNat.testBit i) ∧
      (r.rwt ≠ 0 → ∀ x, s.openTxn q = some x → ∃ y, u.openTxn q = some y ∧ y.id = x.id ∧
        (⟨k, r.rwt, Nat.land v.toNat r.rwt, max s.now t⟩ : Shadow) ∈ y.shadows ∧ ∀ w ∈ x.shadows, w.key ≠ k → w ∈ y.shadows) ∧
      regsBut [k, bar2 + 0x9000, portAddr q.code + 0x10] s u ∧ u.mem = s.mem ∧ u.txnPend = s.txnPend) ∧
  (∀ t q k v r s, ordinaryWrite (s.at t) q k v r → r.sel = false → s.owns q k = false →
    Runs (.registerWrite t q k v 8) s fun u => u.f (TXNP_STAT_LAST_REJ q.code) = 0x0E ∧
      u.f PAV_REJ_COUNT = min (s.f PAV_REJ_COUNT + 1) (2 ^ 32 - 1) ∧ u.f PAV_REJ_LAST_REQ = q.code ∧ u.b PAV_EVT_NOT_OWNER = true ∧
      u.txnOpen = s.txnOpen ∧ regsBut ([portAddr q.code + 0x10, 0x1000B0] ++ PAV_EVT_NOT_OWNER.evtKeys) s u) ∧
  (∀ t q k v r s, ordinaryWrite (s.at t) q k v r → r.sel = false → s.owns q k = true → r.rwt ≠ 0 → s.openTxn q = none →
    Runs (.registerWrite t q k v 8) s fun u => u.f (TXNP_STAT_LAST_REJ q.code) = 0x04 ∧ regsBut [portAddr q.code + 0x10] s u) ∧
  (∀ t q k v r s, ordinaryWrite (s.at t) q k v r → r.sel = false → s.owns q k = true →
    (r.rwt ≠ 0 → (s.openTxn q).isSome = true) → s.rangeOk k v.toNat = false ∨ (r.rwt ≠ 0 ∧ s.boundsOk q k v.toNat r.fs = false) →
    Runs (.registerWrite t q k v 8) s fun u => u.f (TXNP_STAT_LAST_REJ q.code) = 0x06 ∧ u.txnOpen = s.txnOpen ∧
      regsBut [portAddr q.code + 0x10] s u)

/-- R41, R490, R491: a write of a selector register reaches the requester's own copy whoever owns the group; a BAR0 write of the host
that is not eight aligned bytes is discarded and counted in SYS_HOSTERR. -/
def Obligations.SelectorsAndPartialWrites : Prop :=
  (∀ t q k v r s, ordinaryWrite (s.at t) q k v r → r.sel = true → s.rangeOk k v.toNat = true →
    Runs (.registerWrite t q k v 8) s fun u =>
      (∀ i, i < 64 → (u.reg (selCopy k q.code)).toNat.testBit i =
        if r.rw.testBit i then v.toNat.testBit i else (s.reg (selCopy k q.code)).toNat.testBit i) ∧ regsBut [selCopy k q.code] s u) ∧
  (∀ t k v n s, k < 0x4000000 → ¬ (n = 8 ∧ k % 8 = 0) → (s.at t).gate .host k = none →
    Runs (.registerWrite t .host k v n) s fun u =>
      u.f SYS_HOSTERR_PARTIAL = min (s.f SYS_HOSTERR_PARTIAL + 1) (2 ^ 16 - 1) ∧ u.b SYS_EVT_HOST_ERR = true ∧
      regsBut (0x38 :: SYS_EVT_HOST_ERR.evtKeys) s u ∧ u.mem = s.mem ∧ u.txnOpen = s.txnOpen)

/-- R45, R34, R36 to R38, R48: what Pavane does inside a frame. k pause passes follow every 16 work passes at level k; a powered-down
bank wakes in the last idle pass before its tile pass; a WAIT whose buffer is full takes no time, and one whose buffer is not full adds
one hold pass, counted once for the package at each boundary; a WAIT that has reached WAIT_LIMIT is logged with a JOB_FAULT, and the
package holds; an idle interval of N passes starts once. -/
def Obligations.PavanePausesWakesAndHolds : Prop :=
  (∀ t s, 0 < s.f PAV_THR_LATCHED → (s.at t).passNow = 16 * (s.pav.pauseBlocks + 1) → (s.at t).passNow ≤ s.f PAV_CFG_N_PASSES →
    Runs (.pausePass t) s fun u => u.pav.pauses = s.pav.pauses + min 7 (s.f PAV_THR_LATCHED) ∧
      u.pav.pauseBlocks = s.pav.pauseBlocks + 1 ∧
      u.f PAV_PAUSE_COUNT = min (s.f PAV_PAUSE_COUNT + min 7 (s.f PAV_THR_LATCHED)) (2 ^ 64 - 1) ∧ regsBut [0x100088] s u) ∧
  (∀ t tile s, s.active = true → (s.at t).working = true → s.pav.stopped = false → s.stubbed (tile / 8) = false →
    s.b (CNV_STAT_POWERED tile) = false → ((s.at t).tileStarts (tile / 8) (tile % 8) (s.at t).passNow).contains ((s.at t).passNow + 1) = true →
    Runs (.wakePass t tile) s fun u => u.b (CNV_STAT_POWERED tile) = true ∧
      u.f (CNV_STAT_WAKES tile) = min (s.f (CNV_STAT_WAKES tile) + 1) (2 ^ (CNV_STAT_WAKES tile).w - 1) ∧
      regsBut [(CNV_STAT_WAKES tile).a] s u) ∧
  (∀ t core slot s, (s.at t).waitDue core slot = true →
    ((s.at t).moveStaged (slotDesc (s.entry core slot))).bufFull (slotDesc (s.entry core slot)) = true →
    Runs (.waitTest t core slot) s fun u => u.ran = s.ran ++ [(core, slot)] ∧ u.pav.holds = s.pav.holds ∧
      (∀ w ∈ u.pav.waits, ¬ (w.core = core ∧ w.slot = slot)) ∧ u.f PAV_HOLD_COUNT = s.f PAV_HOLD_COUNT) ∧
  (∀ t core slot n s, (s.at t).waitDue core slot = true →
    ((s.at t).moveStaged (slotDesc (s.entry core slot))).bufFull (slotDesc (s.entry core slot)) = false →
    (∀ w ∈ s.pav.waits, w.core = core → w.slot = slot → w.count < s.f PAV_WAIT_WAIT_LIMIT) →
    n = (((s.pav.waits.find? (fun (w : Wait) => w.core = core ∧ w.slot = slot)).map Wait.count).getD 0) →
    Runs (.waitTest t core slot) s fun u => u.ran = s.ran ∧
      (∃ w ∈ u.pav.waits, w.core = core ∧ w.slot = slot ∧ w.count = n + 1) ∧ u.pav.holdAt = some (s.at t).elapsed ∧
      u.pav.holds = s.pav.holds + (if s.pav.holdAt = some (s.at t).elapsed then 0 else 1) ∧
      u.f PAV_HOLD_COUNT = (if s.pav.holdAt = some (s.at t).elapsed then s.f PAV_HOLD_COUNT else min (s.f PAV_HOLD_COUNT + 1) (2 ^ 64 - 1))) ∧
  (∀ t w s, s.pav.waits.find? (fun (w : Wait) => decide (s.f PAV_WAIT_WAIT_LIMIT ≤ w.count)) = some w → s.pav.waitDead = false →
    Runs (.waitTimeout t) s fun u => u.pav.waitDead = true ∧ u.f PAV_WAIT_CORE = w.core % 2 ^ 10 ∧
      u.f PAV_WAIT_BUFFER = slotDesc (s.entry w.core w.slot) ∧ u.b PAV_EVT_WAIT_TIMEOUT = true ∧
      (∃ r, u.records = s.records ++ [r] ∧ r.sev = 2 ∧ r.cause = 0x15 ∧ r.kind = 0xC ∧ r.unit = slotDesc (s.entry w.core w.slot) ∧
        r.detail = (s.waitFrom w).2.1 * 2 ^ 20 + (s.waitFrom w).2.2) ∧
      regsBut (0x1000A8 :: PAV_EVT_WAIT_TIMEOUT.evtKeys) s u) ∧
  (∀ t s, s.active = false → s.qdr.member = none → s.pav.lfeDone = true → s.pav.skipReq = true → s.pav.idleRun = false →
    s.pav.stopped = false → s.f PAV_CFG_N_PASSES ≤ (s.at t).passNow → s.paused (s.f PAV_CFG_N_PASSES) = true →
    Runs (.idleInterval t) s fun u => u.pav.idleRun = true ∧ u.pav.idleUntil = max s.now t + 64 * s.f PAV_CFG_N_PASSES ∧
      u.f PAV_SKIP_COUNT = min (s.f PAV_SKIP_COUNT + 1) (2 ^ 64 - 1) ∧ u.b PAV_EVT_SKIP = true ∧
      regsBut (0x100098 :: PAV_EVT_SKIP.evtKeys) s u)

/-- R317, R47: a member held HELD_PASSES passes in one WAIT tells the tree, once: at the root the notice is kept, elsewhere a HELD message
goes to the parent while its port carries flits; at the local frame end Pavane latches the level and asks for the idle interval that is
due. -/
def Obligations.LocalFrameEndLatchesTheLevel : Prop :=
  (∀ t w s, s.pav.waits.find? (fun (w : Wait) => decide (s.f QDR_CFG_HELD_PASSES ≤ w.count) && !w.told) = some w →
    Runs (.heldSend t) s fun u => { w with told := true } ∈ u.pav.waits ∧ w ∉ u.pav.waits ∧ u.b QDR_EVT_HELD_SENT = true ∧
      (s.b QDR_TREE_IS_ROOT = true → ∃ m, u.qdr.held = s.qdr.held ++ [m] ∧ m.kind = 7 ∧ m.member = s.f QDR_SELF_MEMBER_IDX ∧
        m.frame = s.jobFrame) ∧
      (s.b QDR_TREE_IS_ROOT = false → s.f QDR_TREE_PARENT < 72 → s.portUp (s.onPort (s.f QDR_TREE_PARENT)) = true →
        s.b (FAB_PCTL_DRAINING (s.onPort (s.f QDR_TREE_PARENT))) = false → (s.txOf (s.onPort (s.f QDR_TREE_PARENT))).length < 4096 →
        ∃ x, u.tx = s.tx ++ [x] ∧ x.port = s.onPort (s.f QDR_TREE_PARENT) ∧ x.flit.typ = 3)) ∧
  (∀ t s, s.power = .on → 2 ≤ s.f SYS_STATUS_PHASE → s.pav.lfeDone = false → s.pav.stopped = false → s.pav.waitDead = false →
    (s.at t).working = true → s.f PAV_CFG_WORK_SPAN ≤ (s.at t).passNow →
    Runs (.localFrameEnd t) s fun u => u.pav.lfeDone = true ∧ u.pav.lfeStamp = max s.now t ∧ u.pav.latched = (s.at t).latchLevel ∧
      u.pav.skipReq = s.idleDue ∧ u.arrTemp.length = 32 ∧ u.calSum = [] ∧ u.f PAV_THR_REQUEST = s.f PAV_THR_REQUEST)

/-- R22, R24, R26 to R28, R46, R71, R130, R152: at every tick, in a job or not, what the slots, packets, hold buffers and degraded marks of
the frame held starts afresh; the tick does not fall while the frame's passes or the barrier are not over; between ticks only the count
advances. At a tick of a package in transit mode with nothing to apply the frame number goes up by one, PAV_TICK holds the count of the tick,
the horizon never moves back, the level latched at the local frame end takes effect and every bank is powered down. -/
def Obligations.EveryTickStartsTheFrameAfresh : Prop :=
  (∀ t s, s.canon = true → (s.at t).tickReady = true → s.active = false → s.txnPend = [] → s.qdr.member = none → s.halted = false →
     s.qdr.excluded = false → s.drain.asked = false → s.fwd = [] → s.trimNext = [] → s.railPend = [] → s.joinSeen = none →
     Runs (.tick t) s fun u => u.now = max s.now t ∧ u.frame = (s.frame + 1) % 2 ^ 64 ∧ u.f PAV_TICK_TICK_STAMP = max s.now t % 2 ^ 64 ∧
       u.f PAV_HORIZON_HORIZON = max (u.frame - s.settle) (s.f PAV_HORIZON_HORIZON) ∧
       (s.pav.lfeDone = true → u.f PAV_THR_LATCHED = s.pav.latched % 2 ^ 4 ∧ u.f PAV_THR_JOB_LEVEL = s.pav.latched % 2 ^ 4) ∧
       (∀ T, T < 8192 → u.b (CNV_STAT_POWERED T) = false) ∧ (∀ A g, A < 32768 → g < 16 → u.f (ARR_CHKCNT A g) = s.f (ARR_CHKCNT A g) / 2) ∧
       u.pav.pauses = 0 ∧ u.pav.holds = 0 ∧ u.pav.lfeDone = false ∧ u.pav.idleRun = false ∧ u.pav.waits = [] ∧ u.ran = [] ∧
       u.out = s.out ∧ u.mem = s.mem) ∧
  (∀ t s, (s.at t).tickReady = true →
    Runs (.tick t) s fun u => u.now = max s.now t ∧ u.ran = [] ∧ u.lastPass = [] ∧ u.wcCount = [] ∧ u.pktCount = [] ∧ u.held = [] ∧
      u.satRec = [] ∧ u.capture = [] ∧ u.degrade = [] ∧ u.wideRep = []) ∧
  (∀ t s, (s.at t).tickReady = false → exec (.tick t) s = .next (s.at t)) ∧
  (∀ s : State, s.inJob = false → s.f PAV_CFG_N_PASSES > s.passNow → s.tickReady = false) ∧
  (∀ s : State, s.inJob = true → s.qdr.done ≠ some s.barFrame → s.tickReady = false) ∧
  (∀ t s, (s.at t).boundary = true → s.active = false → s.qdr.startGo = true →
    Runs (.applyTick t) s fun u => u.now = max s.now t ∧ u.ran = [] ∧ u.held = [] ∧ u.qdr.startGo = false ∧ u.qdr.startSent = false ∧ u.joinSeen = none)

/-- R266, R267, R276: a transaction of LOCAL scope that is due at the tick and alone. Its shadows take effect and APPLIED is its final
result; one with a shadow in a group whose owner changed after the shadow was written fails with OWNER_CHANGED and changes nothing else. -/
def Obligations.TransactionsApplyOrFail : Prop :=
  (∀ t p s, s.power = .on → max s.now t = s.f PAV_TICK_TICK_STAMP → s.txnPend = [p] → s.txnDue false false p = true → p.job = false →
    (s.at t).txnFails p = none → p.q ≠ .larkspur → p.shadows = [] →
    Runs (.txnApply t) s fun u => u.txnPend = [] ∧ u.f (TXNP_DONE_RESULT p.q.code) = 0x02 ∧ u.f (TXNP_DONE_ID p.q.code) = p.id % 2 ^ 32 ∧
      u.f TXN_CNT_APPLIED = min (s.f TXN_CNT_APPLIED + 1) (2 ^ TXN_CNT_APPLIED.w - 1) ∧ u.f (TXNP_STAT_PENDING p.q.code) = 0) ∧
  (∀ t p k m v x s, s.power = .on → max s.now t = s.f PAV_TICK_TICK_STAMP → s.txnPend = [p] → s.txnDue false false p = true →
    p.job = false → (s.at t).txnFails p = none → p.q ≠ .larkspur → p.shadows = [⟨k, m, v, x⟩] →
    (0x100000 ≤ k ∧ k < 0x100020) ∨ (0x100068 ≤ k ∧ k < 0x100100) →
    Runs (.txnApply t) s fun u => u.txnPend = [] ∧ u.f (TXNP_DONE_RESULT p.q.code) = 0x02 ∧
      ∀ i, i < 64 → (u.reg k).toNat.testBit i = if m.testBit i then v.testBit i else (s.reg k).toNat.testBit i) ∧
  (∀ t p code s, s.power = .on → max s.now t = s.f PAV_TICK_TICK_STAMP → s.txnPend = [p] → s.txnDue false false p = true →
    p.job = false → (s.at t).txnFails p = some code → p.q ≠ .larkspur →
    Runs (.txnApply t) s fun u => u.txnPend = [] ∧ u.f (TXNP_DONE_RESULT p.q.code) = code ∧ u.txnOpen = s.txnOpen ∧ u.img = s.img ∧
      u.mem = s.mem ∧ u.f TXN_CNT_FAILED = min (s.f TXN_CNT_FAILED + 1) (2 ^ TXN_CNT_FAILED.w - 1) ∧
      ∀ w ∈ p.shadows, w.key ∉ [0x30, TXN_EVT_UNLISTED.a, TXN_CNT_FAILED.a, bar2 + 0x9000, portAddr 1 + 0x10, portAddr 2 + 0x10, portAddr 3 + 0x10,
        portAddr 4 + 0x10, portAddr p.q.code + 0x18] → u.reg w.key = s.reg w.key) ∧
  (∀ t s, s.power ≠ .on ∨ max s.now t ≠ s.f PAV_TICK_TICK_STAMP → exec (.txnApply t) s = .next (s.at t))

/-- R62, R64, R66, R87, R108, R118, R130: a TILE_PASS slot that is due runs once. An array that is EMPTY, programming or FAILED is not
driven: NOT_READY, a JOB_FAULT, and nothing is accumulated. A pass of ZERO blocks alone adds nothing; a repeated pass goes to the hold
buffer and leaves the accumulators; any other pass leaves its group with a valid tag. The cells and memory are as before. -/
def Obligations.TilePassesAccumulateOrHold : Prop :=
  (∀ t core slot dev errs s, core < 1024 → (s.at t).slotDue core slot 1 = true → s.f (ARR_STATE_STATE (s.slotArr core slot)) ∈ [0, 1, 4] →
    Runs (.tilePass t core slot dev errs) s fun u => u.ran = s.ran ++ [(core, slot)] ∧
      u.b (ARR_EVT_NOT_READY (s.slotArr core slot)) = true ∧ u.acc = s.acc ∧ u.held = s.held ∧ u.satRec = s.satRec ∧ u.mem = s.mem ∧
      ∃ r, u.records = s.records ++ [r] ∧ r.sev = 2 ∧ r.cause = 0x08 ∧ r.kind = 1 ∧ r.unit = s.slotArr core slot) ∧
  (∀ t core slot dev errs T A desc g p s, core < 1024 → (s.at t).slotDue core slot 1 = true → A = s.slotArr core slot → T = s.passTile core slot →
    desc = s.passDesc core slot → g = bits desc 24 4 → s.f (ARR_STATE_STATE A) = 2 ∨ s.f (ARR_STATE_STATE A) = 3 →
    p = (((s.at t).passHead core slot).passPkts core A desc errs).2 →
    Runs (.tilePass t core slot dev errs) s fun u => u.ran = s.ran ++ [(core, slot)] ∧ u.cells = s.cells ∧ u.mem = s.mem ∧ u.img = s.img ∧
      (p.all (fun b => b.flag == 1) = true → u.acc = s.acc ∧ u.held = s.held ∧ u.satRec = s.satRec ∧
        (bits desc 23 1 = 1 → u.b (ACC_STAT_TAG_VALID T g) = false)) ∧
      (p.all (fun b => b.flag == 1) = false → isRepeated p = true → u.acc = s.acc ∧ u.satRec = s.satRec ∧
        ∃ h, u.held = s.held ++ [h] ∧ h.tile = T ∧ h.slot = slot ∧ h.arr = A ∧ h.group = g ∧ h.split = isSplit p) ∧
      (p.all (fun b => b.flag == 1) = false → isRepeated p = false → u.held = s.held ∧ u.b (ACC_STAT_TAG_VALID T g) = true)) ∧
  (∀ t core slot dev errs s, (s.at t).slotDue core slot 1 = false → exec (.tilePass t core slot dev errs) s = .next (s.at t))

/-- R117, R118: the merge into an accumulator group. A group without a valid tag takes the result at its exponent; a group with one is
brought to the smaller exponent and added, exactly unless a lane leaves L64, when it saturates and the group is marked. -/
def Obligations.MergeIsExactOrSaturates : Prop :=
  (∀ (s : State) T g y e, T < 8192 → g < 16 → -256 ≤ e → e ≤ 255 → s.b (ACC_STAT_TAG_VALID T g) = false →
    (s.merge T g y e).b (ACC_STAT_TAG_VALID T g) = true ∧ (s.merge T g y e).fi (ACC_STAT_TAG T g) = e ∧
      (∀ j, j < 256 → (s.merge T g y e).lane T g j = sat64 (y.getD j 0))) ∧
  (∀ (s : State) T g y e m, T < 8192 → g < 16 → -256 ≤ e → e ≤ 255 → s.b (ACC_STAT_TAG_VALID T g) = true →
    m = min (s.fi (ACC_STAT_TAG T g)) e →
    (s.merge T g y e).b (ACC_STAT_TAG_VALID T g) = true ∧ (s.merge T g y e).fi (ACC_STAT_TAG T g) = m ∧
      ((∀ j, j < 256 → mergeOvf (s.lane T g j) (y.getD j 0) (s.fi (ACC_STAT_TAG T g) - e).toNat (e - s.fi (ACC_STAT_TAG T g)).toNat = false) →
        (s.merge T g y e).b (ACC_STAT_ACC_OVF T g) = s.b (ACC_STAT_ACC_OVF T g) ∧ (s.merge T g y e).records = s.records ∧
        ∀ j, j < 256 → (s.merge T g y e).lane T g j =
          s.lane T g j * 2 ^ (s.fi (ACC_STAT_TAG T g) - m).toNat + y.getD j 0 * 2 ^ (e - m).toNat) ∧
      ((∃ j, j < 256 ∧ mergeOvf (s.lane T g j) (y.getD j 0) (s.fi (ACC_STAT_TAG T g) - e).toNat (e - s.fi (ACC_STAT_TAG T g)).toNat = true) →
        (s.merge T g y e).b (ACC_STAT_ACC_OVF T g) = true ∧ (s.merge T g y e).records.length = s.records.length + 1)) ∧
  (∀ (s : State) T g y e T' g' j, j < 256 → (T, g) ≠ (T', g') → g < 16 → g' < 16 → (s.merge T g y e).lane T' g' j = s.lane T' g' j)

/-- R119 to R122, R134, R151: the core transfers of a STREAM slot. A readout writes its lanes and leaves the group; a spill stores 1,032
bytes as S32; a fill restores lanes, tag and flags exactly, or refuses a malformed group with PKT_FORMAT and leaves it invalid; a scrub
empties the bank's log. Scratchpad bytes outside the destination are as before. -/
def Obligations.CoreTransfersMoveGroups : Prop :=
  (∀ t core slot errs w0 w1 c s, core < 1024 → (s.at t).slotDue core slot 3 = true → s.xferDesc core slot = some (w0, w1) → bits w0 62 2 = 0 →
    bits w0 24 2 = 0 → bits w0 32 3 = 2 ∨ bits w0 32 3 = 3 → reach core (bits w0 52 3) = some c → ((s.stubbed c || s.dark c) = true → c = core) →
    (s.at t).isClearing c (8 * bits w0 35 17 / 65536) = false →
    Runs (.readout t core slot errs) s fun u => u.ran = s.ran ++ [(core, slot)] ∧ u.acc = s.acc ∧
      u.f (RING_XFER_READOUTS (8 * core + bits w0 55 3)) = min (s.f (RING_XFER_READOUTS (8 * core + bits w0 55 3)) + 1) (2 ^ 32 - 1) ∧
      u.mem = (s.write (spd c (8 * bits w0 35 17)) (plainBytes (bits w0 32 3 == 3) (s.readoutLanes (8 * core + bits w0 55 3) w0 []))).mem ∧
      regsBut [(RING_XFER_READOUTS (8 * core + bits w0 55 3)).a] s u) ∧
  (∀ t core slot errs w0 w1 s, core < 1024 → (s.at t).slotDue core slot 3 = true → s.xferDesc core slot = some (w0, w1) → bits w0 62 2 = 0 →
    Runs (.readout t core slot errs) s fun u => u.ran = s.ran ++ [(core, slot)] ∧ u.acc = s.acc ∧ u.held = s.held ∧
      (∀ x, x < 3 * 2 ^ 42 → u.byte x = s.byte x)) ∧
  (∀ t core slot w0 w1 c s, core < 1024 → (s.at t).slotDue core slot 3 = true → s.xferDesc core slot = some (w0, w1) → bits w0 62 2 = 1 →
    reach core (bits w0 52 3) = some c → ((s.stubbed c || s.dark c) = true → c = core) →
    (s.at t).isClearing c (8 * bits w0 35 17 / 65536) = false →
    Runs (.spill t core slot) s fun u => u.ran = s.ran ++ [(core, slot)] ∧ u.acc = s.acc ∧
      u.bytes (spd c (8 * bits w0 35 17)) 1032 = s.spillBytes (8 * core + bits w0 55 3) (bits w0 58 4) (8 * bits w0 35 17) ∧
      memBut (spd c (8 * bits w0 35 17)) 1032 s u ∧ regsBut [(RING_XFER_SPILLS (8 * core + bits w0 55 3)).a] s u) ∧
  (∀ t core slot errs w0 w1 T g r s, core < 1024 → (s.at t).slotDue core slot 3 = true → s.xferDesc core slot = some (w0, w1) → bits w0 62 2 = 2 →
    T = 8 * core + bits w0 55 3 → g = bits w0 58 4 →
    r = (((s.at t).mark core slot).inc (RING_XFER_FILLS T)).readSpd core (bits w0 52 3) (8 * bits w0 35 17) 1032 errs →
    Runs (.fill t core slot errs) s fun u => u.ran = s.ran ++ [(core, slot)] ∧ u.mem = s.mem ∧
      (r.bad = true → u.b (ACC_STAT_TAG_VALID T g) = false ∧ u.acc = s.acc) ∧
      (r.bad = false → 32 < r.bs.getD 2 0 ∨ signed 16 (leNat (r.bs.take 2)) < -7 ∨ 254 < signed 16 (leNat (r.bs.take 2)) →
        u.b (ACC_STAT_TAG_VALID T g) = false ∧ u.acc = s.acc ∧ ∃ x ∈ u.records, x.sev = 2 ∧ x.cause = 0x0B) ∧
      (r.bad = false → r.bs.getD 2 0 ≤ 32 → -7 ≤ signed 16 (leNat (r.bs.take 2)) → signed 16 (leNat (r.bs.take 2)) ≤ 254 →
        u.fi (ACC_STAT_TAG T g) = signed 16 (leNat (r.bs.take 2)) ∧ u.f (ACC_STAT_TAG_VALID T g) = r.bs.getD 3 0 % 2 ∧
        u.f (ACC_STAT_ACC_OVF T g) = r.bs.getD 3 0 / 2 % 2 ∧
        ∀ j, j < 256 → u.lane T g j = signed 32 (leNat ((r.bs.drop (8 + 4 * j)).take 4)) * 2 ^ r.bs.getD 2 0)) ∧
  (∀ t core slot w0 w1 b s, core < 1024 → (s.at t).slotDue core slot 3 = true → s.xferDesc core slot = some (w0, w1) → bits w0 62 2 = 3 →
    b = slotTarget (s.entry core slot) % 16 →
    Runs (.scrub t core slot) s fun u => u.ran = s.ran ++ [(core, slot)] ∧ sfind u.scrubLog (16 * core + b) = none ∧
      (∀ k, k ≠ 16 * core + b → sfind u.scrubLog k = sfind s.scrubLog k) ∧ u.f (SPD_PEND core b) = 0 ∧ u.mem = s.mem ∧ u.poison = s.poison ∧
      regsBut [(SPD_PEND core b).a] s u)

/-- R108 to R112, R140, R141, R159, R163: a WIDE slot's task runs once, or is kept for its REPAIR slot when it met a flagged block; a
correction task without valid factors deposits zero; after a REPAIR slot no held pass and no saturation record of its own is left. -/
def Obligations.WideWorkAndRepairsComplete : Prop :=
  (∀ t core slot errs ops rep x s, core < 1024 → (s.at t).slotDue core slot 2 = true → s.wideDesc core slot = some (.task ops rep x) →
    (((s.at t).mark core slot).runTask core false errs (s.note core slot) ops).flagged = true →
    Runs (.wideTask t core slot errs) s fun u => u.ran = s.ran ++ [(core, slot)] ∧ u.wideRep = s.wideRep ++ [(core, slot)] ∧
      u.mem = s.mem ∧ u.acc = s.acc ∧ u.records = s.records ∧ regsBut [] s u) ∧
  (∀ t core slot errs ops rep x s, core < 1024 → (s.at t).slotDue core slot 2 = true → s.wideDesc core slot = some (.task ops rep x) →
    (((s.at t).mark core slot).runTask core false errs (s.note core slot) ops).flagged = false →
    Runs (.wideTask t core slot errs) s fun u => u = (((s.at t).mark core slot).runTask core false errs (s.note core slot) ops).s ∧
      u.ran = s.ran ++ [(core, slot)] ∧ u.wideRep = s.wideRep ∧ u.cells = s.cells ∧ u.held = s.held) ∧
  (∀ t core slot errs w A T g s, core < 1024 → (s.at t).slotDue core slot 2 = true → s.wideDesc core slot = some (.corr w) →
    A = 32 * core + 4 * bits w.toNat 42 3 + bits w.toNat 40 2 → T = 8 * core + bits w.toNat 42 3 → g = bits w.toNat 36 4 →
    Runs (.correctionTask t core slot errs) s fun u => u.ran = s.ran ++ [(core, slot)] ∧ u.b (ACC_STAT_TAG_VALID T g) = true ∧ u.mem = s.mem ∧
      (s.b (COR_ACFG_FACT_VALID A) = false → s.b (ACC_STAT_TAG_VALID T g) = false → ∀ j, j < 256 → u.lane T g j = 0)) ∧
  (∀ t core slot cycles errs s, core < 1024 → (s.at t).slotDue core slot 8 = true →
    Runs (.repairSlot t core slot cycles errs) s fun u => u.ran = s.ran ++ [(core, slot)] ∧
      (∀ h ∈ u.held, ¬ (h.tile / 8 = core ∧ bits h.desc 48 16 = slot)) ∧
      (∀ x ∈ u.satRec, ¬ (x.tile / 8 = core ∧ x.repair = slot)) ∧
      (∀ h ∈ s.held, ¬ (h.tile / 8 = core ∧ bits h.desc 48 16 = slot) → h ∈ u.held) ∧
      (∀ x ∈ s.satRec, ¬ (x.tile / 8 = core ∧ x.repair = slot) → x ∈ u.satRec))

/-- R190 to R194, R234 to R238: attention and sampling. Attending for a batch slot without a request writes an EMPTY record; the tiers
are read only; a partial record that fails its CRC raises PART_CHECK; a shard's summary replaces the one kept for its place; the sampling
unit keeps draft tokens, and sets the acceptance count and the tokens of the request whose step it samples. -/
def Obligations.AttentionAndSampling : Prop :=
  (∀ t core slot errs lines a c s, core < 1024 → (s.at t).slotDue core slot 2 = true → s.wideDesc core slot = some (.attend a) →
    s.slotReq a.slot = none → reach core a.out.sel = some c → ((s.stubbed c || s.dark c) = true → c = core) →
    (s.at t).isClearing c (a.out.off / 65536) = false →
    Runs (.attend t core slot errs lines) s fun u => u.ran = s.ran ++ [(core, slot)] ∧
      u.bytes (spd c a.out.off) (16 + 1928 * a.heads) =
        partRecord a.slot a.layer a.heads (s.jobFrame % 2 ^ 32) true (List.replicate a.heads Head.start) ∧
      memBut (spd c a.out.off) (16 + 1928 * a.heads) s u) ∧
  (∀ t core slot errs lines a s, core < 1024 → (s.at t).slotDue core slot 2 = true → s.wideDesc core slot = some (.attend a) →
    Runs (.attend t core slot errs lines) s fun u => u.ran = s.ran ++ [(core, slot)] ∧ u.acc = s.acc ∧ u.reqs = s.reqs ∧
      (∀ x, x < 3 * 2 ^ 42 → u.byte x = s.byte x)) ∧
  (∀ t core slot errs m s, core < 1024 → (s.at t).slotDue core slot 2 = true → s.wideDesc core slot = some (.merge m) →
    Runs (.attnMerge t core slot errs) s fun u => u.ran = s.ran ++ [(core, slot)] ∧ u.acc = s.acc ∧
      (∀ x, x < 3 * 2 ^ 42 → u.byte x = s.byte x) ∧
      (∀ l r, m.parts = [l] → r = ((s.at t).mark core slot).readSpd core l.sel l.off (16 + 1928 * m.heads) errs →
        (r.bad || !partOk r.bs) = true → u.b PGM_EVT_PART_CHECK = true ∧ ∃ x ∈ u.records, x.sev = 2 ∧ x.cause = 0x17 ∧ x.unit = core)) ∧
  (∀ t core slot errs d r s, core < 1024 → (s.at t).slotDue core slot 2 = true → s.wideDesc core slot = some (.shard d) → s.slotReq d.slot = some r →
    Runs (.shardSummary t core slot errs) s fun u => u.ran = s.ran ++ [(core, slot)] ∧ u.mem = s.mem ∧
      ∃ out, u.summaries = s.summaries.filter (fun x => ¬ (x.1 = d.slot ∧ x.2.1 = d.pos ∧ x.2.2.1.idx = d.idx ∧ x.2.2.1.draft = d.draft)) ++
        [(d.slot, d.pos, d, out)]) ∧
  (∀ t slot k r x tok s, s.active = true → s.b SRV_CFG_IS_SAMPLER = true →
    s.reqs.find? (fun (r : Req) => r.step.any (fun (x : StepRun) => x.slot == slot && x.frame == s.jobFrame)) = some r → r.step = some x →
    s.sampleTok r slot k true = some tok →
    Runs (.sampleDraw t slot (some k) []) s fun u =>
      u.draftTok = s.draftTok.filter (fun d => ¬ (d.1 = stepKey x ∧ d.2.1 = k)) ++ [(stepKey x, k, tok)] ∧ u.reqs = s.reqs ∧ u.mem = s.mem) ∧
  (∀ t slot r x y s, s.active = true → s.b SRV_CFG_IS_SAMPLER = true →
    s.reqs.find? (fun (r : Req) => r.step.any (fun (x : StepRun) => x.slot == slot && x.frame + 3 == s.jobFrame) && r.count.isNone) = some r →
    r.step = some x → (x.pre = true → x.last = true) → s.req r.scope r.tag = some r →
    y = s.yield r slot (if x.pre then x.fed - 1 else 0) ((s.drafts r).take x.depth) (if x.pre then 1 else x.depth + 1) 0 →
    Runs (.sampleDraw t slot none []) s fun u => ∃ z, u.req r.scope r.tag = some z ∧ z.count = some (y.1.length - 1) ∧
      z.outq = (if y.1.isEmpty then r.outq else r.outq ++ [⟨s.jobFrame, 0, y.1, s.f RCV_STATE_STATE == 4⟩]) ∧
      z.cause = (if y.2 = 0 then r.cause else some (y.2 - 1)) ∧ z.horizon = r.horizon ∧ z.pages = r.pages)

/-- R282, R285, R289: a routed STREAM slot copies its route's bytes into tier N or a scratchpad; a route that is cut delivers nothing and
raises STREAM_SHORT. -/
def Obligations.RoutedTransfersMoveTheirBytes : Prop :=
  (∀ t core slot bad errs lines r s, core < 1024 → (s.at t).slotDue core slot 3 = true → s.routeAt core slot = some r → r.home = core →
    s.routeCut r = true →
    Runs (.streamRoute t core slot bad errs lines) s fun u => u.ran = s.ran ++ [(core, slot)] ∧ u.mem = s.mem ∧ u.poison = s.poison ∧
      ∃ x, u.records = s.records ++ [x] ∧ x.sev = 2 ∧ x.cause = 0x12 ∧ x.kind = 3 ∧ x.unit = if r.dstN then core else r.dst) ∧
  (∀ t core slot errs lines r d rd s, core < 1024 → (s.at t).slotDue core slot 3 = true → s.routeAt core slot = some r → r.home = core →
    s.routeCut r = false → rd = ((s.at t).mark core slot).routeRead r errs lines → d = (if r.dstN then r.tier else spd r.dst r.dstAt) →
    (r.dstN = false → (s.at t).isClearing r.dst (r.dstAt / 65536) = false) →
    Runs (.streamRoute t core slot [] errs lines) s fun u => u.ran = s.ran ++ [(core, slot)] ∧ u.bytes d r.len = rd.bs ∧
      memBut d r.len s u ∧ u.acc = s.acc)

/-- R36, R209, R210, R304, R310, R311, R526: the fabric slots. FAB_SEND puts its scratchpad range on its port as DATA flits from its first
word on; FAB_RECV empties its buffer's staging; a CONTROL slot hands the forward buffer to the root, or keeps it as undecided. -/
def Obligations.FabricSlotsMoveFlits : Prop :=
  (∀ t core slot errs w0 w1 r p s, core < 1024 → (s.at t).slotDue core slot 4 = true →
    s.img.bind (fun im => im.sends[slotDesc (s.entry core slot)]?) = some (w0, w1) → p = s.onPort (slotTarget (s.entry core slot)) →
    r = ((s.at t).mark core slot).readSpd core (bits w0.toNat 61 3) (8 * bits w0.toNat 44 17) (bits w0.toNat 23 21) errs →
    0 < bits w0.toNat 23 21 → s.portUp p = true → s.b (FAB_PCTL_DRAINING p) = false → (s.txOf p).length < 4096 →
    Runs (.fabSend t core slot errs) s fun u => u.ran = s.ran ++ [(core, slot)] ∧ u.mem = s.mem ∧ s.tx <+: u.tx ∧
      ∃ x ∈ u.tx, x.port = p ∧ x.flit.typ = 1 ∧ x.flit.word = bits w1.toNat 0 17 ∧ x.flit.buffer = bits w1.toNat 40 24 ∧
        x.flit.payload = r.bs.take 224 ∧ x.tries = 1) ∧
  (∀ t core slot e s, core < 1024 → (s.at t).slotDue core slot 5 = true → e = s.entry core slot →
    Runs (.fabRecv t core slot) s fun u => (∀ y ∈ u.staged, y.2.buffer ≠ slotDesc e) ∧ (∀ y ∈ s.staged, y.2.buffer ≠ slotDesc e → y ∈ u.staged) ∧
      u.ran = (if (s.at t).passNow + 1 = slotStart e + slotLen e then s.ran ++ [(core, slot)] else s.ran) ∧
      (∀ x, x < 3 * 2 ^ 42 → u.byte x = s.byte x)) ∧
  (∀ t core slot s, (s.at t).slotDue core slot 9 = true →
    Runs (.controlSlot t core slot) s fun u => u.ran = s.ran ++ [(core, slot)] ∧ u.fwd = [] ∧ u.mem = s.mem ∧
      u.fwdIn = (if s.isRoot then s.fwdIn ++ s.fwd else s.fwdIn) ∧ u.undecided = if s.isRoot then s.undecided else s.undecided ++ s.fwd)

/-- R204 to R206, R231: page copies. A copy slot serves every waiting copy; a migration slot only starts moves, at most MIG_PAGES in each
direction; when a copy completes its request uses the new page; a copy back that fails loses the page and its requests. -/
def Obligations.PagesAreCopiedAndMoved : Prop :=
  (∀ t core slot c s, (s.at t).slotDue core slot 3 = true → s.cow = [c] →
    Runs (.cowCopy t core slot) s fun u => u.ran = s.ran ++ [(core, slot)] ∧ u.cow = [] ∧ regsBut [] s u ∧
      u.bytes (s.pageAt c.dst) (544 * c.upto) = s.bytes (s.pageAt c.src) (544 * c.upto) ∧ memBut (s.pageAt c.dst) (544 * c.upto) s u) ∧
  (∀ t core slot s, (s.at t).slotDue core slot 3 = true → Runs (.cowCopy t core slot) s fun u => u.ran = s.ran ++ [(core, slot)] ∧ u.cow = []) ∧
  (∀ t core slot s, (s.at t).slotDue core slot 3 = true →
    Runs (.pageMigrate t core slot) s fun u => u.ran = s.ran ++ [(core, slot)] ∧ u.reqs = s.reqs ∧ s.moving <+: u.moving ∧
      (∀ o, u.movedOf o ≤ max (s.movedOf o) (s.f PGM_MIG_MIG_PAGES)) ∧
      ((∀ r ∈ s.reqs, s.toMove r = []) → u.moving = s.moving ∧ u.mem = s.mem ∧ regsBut [] s u)) ∧
  (∀ t lines m rest n s, s.moving = m :: rest → n = ((s.req m.scope m.tag).map (fun r => min 256 (r.horizon - 256 * m.idx))).getD 0 →
    m.outw = true ∨ s.pageReads m.src n lines = true →
    Runs (.migrateDone t lines) s fun u => u.moving = rest ∧ u.records = s.records ∧
      u.reqs = s.reqs.map (fun (r : Req) => if r.scope = m.scope ∧ r.tag = m.tag then
        { r with pages := r.pages.map (fun x => if x.1 = m.layer ∧ x.2.1 = m.idx then (x.1, x.2.1, m.dst) else x) } else r)) ∧
  (∀ t lines m rest n s, s.moving = m :: rest → n = ((s.req m.scope m.tag).map (fun r => min 256 (r.horizon - 256 * m.idx))).getD 0 →
    m.outw = false → s.pageReads m.src n lines = false → m.src ≠ m.dst → s.pageSt m.src ≠ 5 →
    Runs (.migrateDone t lines) s fun u => u.moving = rest ∧ u.b PGM_EVT_LOST = true ∧
      u.f PGM_LOST_COUNT = min (s.f PGM_LOST_COUNT + 1) (2 ^ PGM_LOST_COUNT.w - 1) ∧
      ∀ r ∈ u.reqs, r.pages.any (fun x => x.2.2 == m.src) = true → r.lost = true)

/-- R358, R364, R367, R368, R167, R172: shadows, trackers, suspects and rails. A SHADOW slot uses up its core's captures; a tracker window
is void, or gives an estimate; an OBSERVING entry expires; scores halve; a quiet region's rail goes down one step; the unrepaired counts
are judged and cleared. -/
def Obligations.ChecksOverTime : Prop :=
  (∀ t core slot differ x s, (s.at t).slotDue core slot 7 = true → s.shadowSlot core = some x →
    Runs (.shadow t core slot differ) s fun u => u.ran = s.ran ++ [(core, slot)] ∧ (∀ c ∈ u.capture, c.tile / 8 ≠ core) ∧
      (∀ c ∈ s.capture, c.tile / 8 ≠ core → c ∈ u.capture) ∧ u.mem = s.mem ∧ u.acc = s.acc) ∧
  (∀ t arr w s, arr < 32768 → s.active = true → w = s.trk arr → s.f (COR_TRK_WIN_SAMPLES arr) ≤ w.passes →
    (w.spoilt = true ∨ w.lanes < 128 * s.f (COR_TRK_WIN_SAMPLES arr) ∨ w.comp < 16 * w.mism) →
    Runs (.trackerWindow t arr) s fun u => u.trk arr = { pErr2 := w.pErr2, pRef2 := w.pRef2 } ∧ u.trkPrev = s.trkPrev ∧ u.trkNext = s.trkNext ∧
      u.f (COR_TRK_VOIDS arr) = min (s.f (COR_TRK_VOIDS arr) + 1) (2 ^ (COR_TRK_VOIDS arr).w - 1) ∧ regsBut [(COR_TRK_VOIDS arr).a] s u) ∧
  (∀ t arr w g s, arr < 32768 → s.active = true → w = s.trk arr → s.f (COR_TRK_WIN_SAMPLES arr) ≤ w.passes →
    w.spoilt = false → 128 * s.f (COR_TRK_WIN_SAMPLES arr) ≤ w.lanes → 16 * w.mism ≤ w.comp → numRatio w.spp w.spq = some g →
    Runs (.trackerWindow t arr) s fun u => u.f (COR_TRK_EST_LAST arr) = q14 g.1 g.2 ∧
      (sfind s.trkPrev arr = none → sfind u.trkPrev arr = some g ∧ u.trkNext = s.trkNext ∧ regsBut [(COR_TRK_EST_LAST arr).a] s u) ∧
      (∀ p, sfind s.trkPrev arr = some p → 250 * (g.1 * p.2 - p.1 * g.2).natAbs ≤ p.1 * g.2 →
        sfind u.trkPrev arr = none ∧ sfind u.trkNext arr = some (q14 (g.1 * p.2 + p.1 * g.2) (2 * g.2 * p.2)) ∧ u.f (COR_TRK_REJ_RUN arr) = 0) ∧
      (∀ p, sfind s.trkPrev arr = some p → ¬ 250 * (g.1 * p.2 - p.1 * g.2).natAbs ≤ p.1 * g.2 →
        sfind u.trkPrev arr = some g ∧ u.trkNext = s.trkNext ∧
        u.f (COR_TRK_REJ_RUN arr) = min (s.f (COR_TRK_REJ_RUN arr) + 1) (2 ^ (COR_TRK_REJ_RUN arr).w - 1))) ∧
  (∀ t i s, i < 16 → s.f (CHK_SUSP_STATE i) = 1 → s.since i + s.f CHK_OBS_OBS_FRAMES ≤ s.jobFrame →
    Runs (.suspectExpire t i) s fun u => u.f (CHK_SUSP_STATE i) = 0 ∧ u.f (CHK_SUSP_UNIT i) = 0 ∧
      regsBut [(CHK_SUSP_STATE i).a, (CHK_SUSP_UNIT i).a] s u) ∧
  (∀ t s, s.canon = true → s.power = .on → s.jobFrame % 64 = 0 → 1 ∉ s.done →
    Runs (.scoreDecay t) s fun u => u.done = s.done ++ [1] ∧ (∀ k, sget (fun _ => 0) u.score k = sget (fun _ => 0) s.score k / 2) ∧ regsBut [] s u) ∧
  (∀ t n s, n < 32 → 0 < s.f (CHK_RAIL n) → (sfind s.lastSusp n).getD 0 + s.f CHK_OBS_RAIL_DECAY ≤ s.jobFrame →
    Runs (.railDecay t n) s fun u => u.f (CHK_RAIL n) = s.f (CHK_RAIL n) - 1 ∧
      u.f (PWR_VEFF n) = min 16 (s.f (PWR_VCORE n) + (s.f (CHK_RAIL n) - 1)) ∧ sfind u.lastSusp n = some s.jobFrame ∧
      regsBut [(CHK_RAIL n).a, (PWR_VEFF n).a] s u) ∧
  (∀ t s, s.power = .on → s.frame % 256 = 0 → 2 ∉ s.done →
    Runs (.satpCheck t) s fun u => u.done = s.done ++ [2] ∧ (∀ A, A < 32768 → u.f (COR_ERR_SATP_CNT A) = 0) ∧
      ∀ A, A < 32768 → 0 < s.f (COR_ERR_SATP_CNT A) → s.f (COR_SATP_SATP_LIMIT (A / 32)) ≤ s.f (COR_ERR_SATP_CNT A) →
        u.b (COR_EVT_SAT_PRESSURE (A / 32)) = true)

/-- R83, R84, R87, R88, R473: the programming commands of an array. PROGRAM and ERASE are queued, or answer BUSY_TILE and change nothing
else; a PROGRAM for a failed tile fails at once; ABORT leaves the array EMPTY; a free channel starts the oldest queued command, or refuses
a record that fails its checks before any cell changes. -/
def Obligations.ProgrammingCommandsQueueAndStart : Prop :=
  (∀ t q A src s, A < 32768 → (s.at t).gate q (arrBlock A + 0x18) = none → s.owns q (arrBlock A + 0x18) = true → src % 64 = 0 →
    s.cmdOf A = none → s.tileBusy A = false → A / 4 ∉ s.failTile →
    Runs (.program t q A src) s fun u => u.progQ = s.progQ ++ [⟨A, false, src, max s.now t, false, false⟩] ∧ u.f (ARR_PSTAT_RESULT A) = 1 ∧
      u.b (COR_ACFG_FACT_VALID A) = false ∧ u.cells = s.cells ∧ u.f (ARR_STATE_STATE A) = s.f (ARR_STATE_STATE A) ∧
      regsBut [(ARR_PSTAT_RESULT A).a, (COR_ACFG_FACT_VALID A).a] s u) ∧
  (∀ t q A src s, A < 32768 → (s.at t).gate q (arrBlock A + 0x18) = none → s.owns q (arrBlock A + 0x18) = true → src % 64 = 0 →
    s.cmdOf A = none → s.tileBusy A = true →
    Runs (.program t q A src) s fun u => u.progQ = s.progQ ∧ u.f (ARR_PSTAT_RESULT A) = 5 ∧ regsBut [(ARR_PSTAT_RESULT A).a] s u) ∧
  (∀ t q A src s, A < 32768 → (s.at t).gate q (arrBlock A + 0x18) = none → s.owns q (arrBlock A + 0x18) = true → src % 64 = 0 →
    s.cmdOf A = none → s.tileBusy A = false → A / 4 ∈ s.failTile →
    Runs (.program t q A src) s fun u => u.f (ARR_PSTAT_RESULT A) = 6 ∧ u.f (ARR_STATE_STATE A) = 4 ∧ u.f (ARR_STATE_CAUSE A) = 3 ∧
      u.f (ARR_PSTAT_STUCK A) = 0xFFFF ∧ u.b (ARR_EVT_PROG_DONE A) = true ∧ u.cmdOf A = none ∧ u.cells = s.cells) ∧
  (∀ t q A s, A < 32768 → (s.at t).gate q (arrBlock A + 0x18) = none → s.owns q (arrBlock A + 0x18) = true → s.cmdOf A = none →
    s.tileBusy A = false →
    Runs (.erase t q A) s fun u => u.progQ = s.progQ ++ [⟨A, true, 0, max s.now t, false, false⟩] ∧ u.f (ARR_PSTAT_RESULT A) = 1 ∧
      u.b (COR_ACFG_FACT_VALID A) = false ∧ u.cells = s.cells ∧ regsBut [(ARR_PSTAT_RESULT A).a, (COR_ACFG_FACT_VALID A).a] s u) ∧
  (∀ t q A s, A < 32768 → (s.at t).gate q (arrBlock A + 0x18) = none → s.owns q (arrBlock A + 0x18) = true → (s.cmdOf A).isSome = true →
    Runs (.progAbort t q A) s fun u => u.cmdOf A = none ∧ u.f (ARR_STATE_STATE A) = 0 ∧ u.f (ARR_STATE_CAUSE A) = 0 ∧
      u.f (ARR_PSTAT_RESULT A) = 7 ∧ u.b (ARR_EVT_PROG_DONE A) = true ∧ u.b (COR_ACFG_FACT_VALID A) = false ∧
      (∀ B, B ≠ A → u.cmdOf B = s.cmdOf B)) ∧
  (∀ t r c s, s.power = .on → ((s.progQ.filter (fun (p : ProgCmd) => p.arr / 1024 == r)).filter (fun (p : ProgCmd) => p.running)).length < 16 →
    nextCmd ((s.progQ.filter (fun (p : ProgCmd) => p.arr / 1024 == r)).filter (fun (p : ProgCmd) => !p.running)) = some c → c.arr < 32768 →
    Runs (.programStart t r) s fun u => u.cells = s.cells ∧
      (c.erase = true → { c with running := true } ∈ u.progQ ∧ u.f (ARR_PSTAT_RESULT c.arr) = 2) ∧
      (c.erase = false → s.recordOk c.src = true → { c with running := true, paused := s.hot r } ∈ u.progQ ∧
        u.f (ARR_STATE_STATE c.arr) = 1 ∧ u.f (ARR_PSTAT_RESULT c.arr) = if s.hot r then 3 else 2) ∧
      (c.erase = false → s.recordOk c.src = false → u.cmdOf c.arr = none ∧ u.f (ARR_PSTAT_RESULT c.arr) = 8 ∧
        u.f (ARR_STATE_STATE c.arr) = s.f (ARR_STATE_STATE c.arr) ∧ u.b (ARR_EVT_PROG_DONE c.arr) = true))

/-- R58, R85 to R89, R254: how programming ends. A paused channel resumes when its region has cooled; a PROGRAM with at most 1,024 stuck
cells leaves the record's levels in the cells and the array READY, one with more leaves it FAILED; an erase leaves it EMPTY; at the next
tick the record's fields are committed to an array that is still READY. -/
def Obligations.ProgrammingEnds : Prop :=
  (∀ t r c s, s.power = .on → (s.at t).cool r = true → s.progQ = [c] → c.arr / 1024 = r → c.arr < 32768 → c.running = true → c.erase = false →
    c.paused = true →
    Runs (.progResume t r) s fun u => u.progQ = [{ c with paused := false }] ∧ u.f (ARR_PSTAT_RESULT c.arr) = 2 ∧
      regsBut [(ARR_PSTAT_RESULT c.arr).a] s u) ∧
  (∀ t A n k resid c s, A < 32768 → s.cmdOf A = some c → c.running = true → c.erase = false → c.paused = false → n ≤ 1024 →
    Runs (.progDone t A n k resid) s fun u => u.f (ARR_STATE_STATE A) = 2 ∧ u.f (ARR_STATE_CAUSE A) = 0 ∧ u.f (ARR_PSTAT_RESULT A) = 4 ∧
      u.f (ARR_PSTAT_STUCK A) = n ∧ u.f (ARR_PSTAT_ITER_MAX A) = min k 16 ∧ sfind u.cells A = some (s.recCells A c.src) ∧
      (∀ B, B ≠ A → sfind u.cells B = sfind s.cells B) ∧ u.f (COR_GAIN_G_TRACK A) = 0x4000 ∧ u.f (COR_TRK_REJ_RUN A) = 0 ∧
      sfind u.trkPrev A = none ∧ u.cmdOf A = none ∧ u.b (ARR_EVT_PROG_DONE A) = true ∧ (A, c.src, max s.now t) ∈ u.cfgLoad ∧
      memBut (s.num (c.src + 8) 8 % 2 ^ 39) 262144 s u) ∧
  (∀ t A n k resid c s, A < 32768 → s.cmdOf A = some c → c.running = true → c.erase = false → c.paused = false → 1024 < n →
    Runs (.progDone t A n k resid) s fun u => u.f (ARR_STATE_STATE A) = 4 ∧ u.f (ARR_STATE_CAUSE A) = 3 ∧ u.f (ARR_PSTAT_RESULT A) = 6 ∧
      u.f (ARR_PSTAT_STUCK A) = min n 0xFFFF ∧ u.cells = s.cells ∧ u.cmdOf A = none ∧ u.mem = s.mem ∧
      ∃ r, u.records = s.records ++ [r] ∧ r.sev = 0 ∧ r.cause = 0x27 ∧ r.unit = A) ∧
  (∀ t A c s, A < 32768 → s.cmdOf A = some c → c.running = true → c.erase = true →
    Runs (.eraseDone t A) s fun u => u.f (ARR_STATE_STATE A) = 0 ∧ u.f (ARR_STATE_CAUSE A) = 0 ∧ sfind u.cells A = none ∧
      (∀ B, B ≠ A → sfind u.cells B = sfind s.cells B) ∧ u.f (ARR_PSTAT_RESULT A) = 4 ∧ u.cmdOf A = none ∧ u.mem = s.mem ∧
      regsBut ([(ARR_STATE_STATE A).a, (ARR_PSTAT_RESULT A).a] ++ (ARR_EVT_PROG_DONE A).evtKeys) s u) ∧
  (∀ t A p s, A < 32768 → s.cfgLoad.find? (fun (x : Nat × Nat × Nat) => x.1 = A ∧ x.2.2 < s.f PAV_TICK_TICK_STAMP) = some p →
    s.f (ARR_STATE_STATE A) = 2 →
    Runs (.progConfigLoad t A) s fun u => (∀ x ∈ u.cfgLoad, x.1 ≠ A) ∧ u.b (ARR_CFG_CHK_EN A) = (s.byte (p.2.1 + 3) % 2 == 1) ∧
      u.f (ARR_CFG_ROW_BUDGET A) = s.byte (p.2.1 + 3) / 2 % 4 ∧ u.f (ARR_CFG_CHK_LIMIT A) = s.byte (p.2.1 + 4) ∧
      (∀ k, k < 544 → u.f (RANGE_CODE A k) = bits (s.num (p.2.1 + 64) 204) (3 * k) 3) ∧ u.mem = s.mem ∧ u.cells = s.cells)

/-- R82, R154, R160, R162, R174, R525, R528: register actions of an array, a converter and a core. VALIDATE is remembered and judged at
the next tick; FORCE_FLAG flags a READY array only; a write of G_TRACK below 0x2000 is RANGE, otherwise it replaces the gain and forgets
the tracker's previous window; a trim write takes effect at once; ACC_CLR and SPD_DATA work on a core that runs no slot table. -/
def Obligations.ArrayActionWritesTakeEffect : Prop :=
  (∀ t q A s, A < 32768 → (s.at t).gate q (corArr A) = none → s.owns q (corArr A) = true →
    Runs (.validate t q A) s fun u => sfind u.valReq A = some (max s.now t) ∧ u.txnOpen = s.txnOpen ∧ regsBut [] s u) ∧
  (∀ t A w s, A < 32768 → sfind s.valReq A = some w → w < s.f PAV_TICK_TICK_STAMP →
    Runs (.factValidSet t A) s fun u => sfind u.valReq A = none ∧ u.b (COR_ACFG_FACT_VALID A) = s.factorOk A ∧
      (s.factorOk A = true → regsBut [(COR_ACFG_FACT_VALID A).a] s u) ∧
      (s.factorOk A = false → u.b (COR_EVT_VALIDATE_FAIL (A / 32)) = true ∧ u.f (COR_EVT_LAST_ARRAY (A / 32)) = A % 32)) ∧
  (∀ t q A s, A < 32768 → (s.at t).gate q (arrBlock A + 8) = none → s.owns q (arrBlock A + 8) = true →
    Runs (.forceFlag t q A) s fun u =>
      (s.f (ARR_STATE_STATE A) = 2 → u.f (ARR_STATE_STATE A) = 3 ∧ u.f (ARR_STATE_CAUSE A) = 4 ∧ u.b (ARR_EVT_FLAGGED A) = true ∧
        regsBut ((ARR_STATE_STATE A).a :: (ARR_EVT_FLAGGED A).evtKeys) s u) ∧
      (s.f (ARR_STATE_STATE A) ≠ 2 → regsBut [] s u)) ∧
  (∀ t q A v s, A < 32768 → (s.at t).gate q (corArr A + 0x10) = none → s.owns q (corArr A + 0x10) = true → 0x2000 ≤ v % 2 ^ 16 →
    Runs (.gTrackWrite t q A v) s fun u => u.f (COR_GAIN_G_TRACK A) = v % 2 ^ 16 ∧ u.f (COR_TRK_REJ_RUN A) = 0 ∧ sfind u.trkPrev A = none ∧
      sfind u.trkNext A = none ∧ regsBut [(COR_GAIN_G_TRACK A).a, (COR_TRK_REJ_RUN A).a] s u) ∧
  (∀ t q A v s, A < 32768 → (s.at t).gate q (corArr A + 0x10) = none → s.owns q (corArr A + 0x10) = true → v % 2 ^ 16 < 0x2000 →
    Runs (.gTrackWrite t q A v) s fun u => u.f (TXNP_STAT_LAST_REJ q.code) = 0x06 ∧ u.trkPrev = s.trkPrev ∧
      regsBut [portAddr q.code + 0x10] s u) ∧
  (∀ t q T off gain range k x s, T < 8192 → (s.at t).gate q (cnvTile T + 0x30) = none → s.owns q (cnvTile T + 0x30) = true →
    k = bits (s.reg (selCopy (cnvTile T + 0x28) q.code)).toNat 0 10 → k < 544 → s.openTxn q = some x → x.shadows.length < 4096 →
    s.boundsOk q (cnvTile T + 0x30) (range % 8 * 2 ^ 48) [(48, 3)] = true →
    Runs (.trimWrite t q T off gain range) s fun u => u.f (CNV_DATA_OFFSET_TRIM T k) = off % 2 ^ 8 ∧ u.f (CNV_DATA_GAIN_TRIM T k) = gain % 2 ^ 8 ∧
      u.b (CNV_DATA_PREV_VALID T k) = false ∧ sfind u.calPrev (560 * T + k) = none ∧
      ∃ y w, u.openTxn q = some y ∧ w ∈ y.shadows ∧ w.key = rangeBank (4 * T + bits (s.reg (selCopy (cnvTile T + 0x28) q.code)).toNat 10 2) k ∧
        bits w.val 48 3 = range % 8) ∧
  (∀ t q T mask s, T < 8192 → (s.at t).gate q (accTile T + 0x80) = none → s.owns q (accTile T + 0x80) = true → s.coreRuns (T / 8) = false →
    Runs (.accClr t q T mask) s fun u =>
      (∀ g, g < 16 → bits mask g 1 = 1 → u.b (ACC_STAT_TAG_VALID T g) = false ∧ u.b (ACC_STAT_ACC_OVF T g) = false ∧ ∀ j, j < 256 → u.lane T g j = 0) ∧
      (∀ g j, g < 16 → j < 256 → bits mask g 1 = 0 → u.lane T g j = s.lane T g j ∧ u.f (ACC_STAT_TAG T g) = s.f (ACC_STAT_TAG T g)) ∧ u.mem = s.mem) ∧
  (∀ t q T mask s, T < 8192 → (s.at t).gate q (accTile T + 0x80) = none → s.owns q (accTile T + 0x80) = true → s.coreRuns (T / 8) = true →
    Runs (.accClr t q T mask) s fun u => u.f (TXNP_STAT_LAST_REJ q.code) = 0x0F ∧ u.acc = s.acc ∧ regsBut [portAddr q.code + 0x10] s u) ∧
  (∀ t q c off s, c < 1024 → (s.at t).gate q (spdBlock c + 0x10) = none → s.coreRuns c = false → off = s.f ⟨selCopy (spdBlock c + 8) q.code, 0, 20⟩ →
    (s.at t).isClearing c (off / 65536) = false → s.dark c = false → s.poison = [] →
    Runs (.spdDataRead t q c none) s fun u => u.lastRead = BitVec.ofNat 64 (s.num (spd c off) 8) ∧ u.mem = s.mem ∧
      u.f (SPD_DCHK_CHECK c) = s.checkBits c off % 2 ^ 8 ∧ regsBut [(SPD_DCHK_CHECK c).a] s u) ∧
  (∀ t q c off v s, c < 1024 → (s.at t).gate q (spdBlock c + 0x10) = none → s.owns q (spdBlock c + 0x10) = true → s.coreRuns c = false →
    off = s.f ⟨selCopy (spdBlock c + 8) q.code, 0, 20⟩ → (s.at t).isClearing c (off / 65536) = false →
    Runs (.spdDataWrite t q c v) s fun u => u.num (spd c off) 8 = v.toNat ∧ memBut (spd c off) 8 s u ∧
      (∀ p ∈ u.poison, ¬ (spd c off ≤ p.addr ∧ p.addr < spd c off + 8)) ∧ regsBut [] s u)

/-- R496 to R501, R504: what the host does at a queue pair. Setting EN resets the pair and zeroes its completion queue; clearing it is
refused while live requests route to the pair; SIZE_LOG2 stands while EN is 1. A submission doorbell takes the new entries in order into
the forward buffer; a completion doorbell consumes entries, and may arm the pair; a bad index sets ERR and does nothing else. -/
def Obligations.QueuePairsAndDoorbells : Prop :=
  (∀ t p v s, p < 256 → (s.at t).gate .host 0x400000 = none → s.b (QP_CFG_EN p) = false → v.toNat.testBit 63 = true →
    4 ≤ bits v.toNat 44 4 → bits v.toNat 44 4 ≤ 12 → bits v.toNat 50 6 < 60 →
    Runs (.qpEnable t p v) s fun u => u.b (QP_CFG_EN p) = true ∧ u.f (QP_CFG_SIZE_LOG2 p) = bits v.toNat 44 4 ∧
      u.f (QP_CFG_VECTOR p) = bits v.toNat 50 6 ∧ u.f (QP_STAT_SQ_HEAD p) = 0 ∧ u.f (QP_STAT_CQ_HEAD p) = 0 ∧ u.f (QP_STAT_CQ_TAIL p) = 0 ∧
      u.f (QP_STAT_PHASE p) = 1 ∧ u.f (QP_STAT_ERR p) = s.f (QP_STAT_ERR p) ∧ u.f (QP_STAT_SCOPE p) = s.f FAB_ID_PKG_ID ∧
      (∀ i, i < 16 * 2 ^ bits v.toNat 44 4 → u.byte (qpMem p + 0x40000 + i) = 0) ∧
      memBut (qpMem p + 0x40000) (16 * 2 ^ bits v.toNat 44 4) s u ∧ regsBut [qpPage p, qpPage p + 0x18] s u) ∧
  (∀ t p v s, p < 256 → (s.at t).gate .host 0x400000 = none → s.b (QP_CFG_EN p) = true → v.toNat.testBit 63 = false →
    bits v.toNat 44 4 = s.f (QP_CFG_SIZE_LOG2 p) → bits v.toNat 50 6 = s.f (QP_CFG_VECTOR p) →
    Runs (.qpEnable t p v) s fun u => u.b (QP_CFG_EN p) = s.pairLive p ∧
      u.f (QP_STAT_ERR p) = (if s.pairLive p then 2 else s.f (QP_STAT_ERR p)) ∧ u.mem = s.mem ∧ regsBut [qpPage p, qpPage p + 0x18] s u) ∧
  (∀ t p v s, p < 256 → (s.at t).gate .host 0x400000 = none → s.b (QP_CFG_EN p) = true → v.toNat.testBit 63 = true →
    bits v.toNat 44 4 ≠ s.f (QP_CFG_SIZE_LOG2 p) ∨ bits v.toNat 50 6 ≠ s.f (QP_CFG_VECTOR p) →
    Runs (.qpEnable t p v) s fun u => u.f (QP_STAT_ERR p) = 3 ∧ regsBut [qpPage p + 0x18] s u ∧ u.mem = s.mem) ∧
  (∀ t p tail lines n s, p < 256 → (s.at t).gate .host 0x400000 = none → s.b (QP_CFG_EN p) = true → s.f (QP_CFG_SIZE_LOG2 p) ≤ 12 →
    tail < s.qpSize p → s.f (QP_STAT_SQ_HEAD p) < s.qpSize p → n = (tail + s.qpSize p - s.f (QP_STAT_SQ_HEAD p)) % s.qpSize p →
    Runs (.sqDoorbell t p tail lines) s fun u => u.f (QP_STAT_SQ_HEAD p) = tail ∧ u.fwd.length = s.fwd.length + n ∧
      u.fwd.take s.fwd.length = s.fwd ∧ u.f (QP_CNT_SUBMITTED p) = (s.f (QP_CNT_SUBMITTED p) + n) % 2 ^ 32 ∧
      u.mem = s.mem ∧ u.f (QP_STAT_ERR p) = s.f (QP_STAT_ERR p) ∧
      ∀ k, k < n → ∃ c, u.fwd[s.fwd.length + k]? = some c ∧ c.pair = p ∧ c.scope = s.f (QP_STAT_SCOPE p) ∧ c.home = s.f FAB_ID_PKG_ID ∧
        c.idx = (s.f (QP_CNT_SUBMITTED p) + k) % 2 ^ 32 ∧ c.words = (List.range 8).map (fun w =>
          BitVec.ofNat 64 (s.num (qpMem p + 64 * ((s.f (QP_STAT_SQ_HEAD p) + k) % s.qpSize p) + 8 * w) 8))) ∧
  (∀ t p tail lines s, p < 256 → (s.at t).gate .host 0x400000 = none → s.b (QP_CFG_EN p) = false ∨ s.qpSize p ≤ tail →
    Runs (.sqDoorbell t p tail lines) s fun u => u.f (QP_STAT_ERR p) = 1 ∧ u.fwd = s.fwd ∧ regsBut [qpPage p + 0x18] s u) ∧
  (∀ t p head n s, p < 256 → (s.at t).gate .host 0x400000 = none → s.b (QP_CFG_EN p) = true → s.f (QP_CFG_SIZE_LOG2 p) ≤ 12 →
    head < s.qpSize p → n = (head + s.qpSize p - s.f (QP_STAT_CQ_HEAD p)) % s.qpSize p →
    n ≤ (s.f (QP_STAT_CQ_TAIL p) + s.qpSize p - s.f (QP_STAT_CQ_HEAD p)) % s.qpSize p → s.heldCq = [] → s.b (QP_STAT_ARMED p) = false →
    Runs (.cqDoorbell t p head false) s fun u => u.f (QP_STAT_CQ_HEAD p) = head ∧ regsBut [qpPage p + 0x18] s u ∧ u.mem = s.mem ∧
      u.out = s.out ∧ u.f (QP_STAT_CQ_TAIL p) = s.f (QP_STAT_CQ_TAIL p) ∧
      ∀ c ∈ s.chains, c.scope = s.f (QP_STAT_SCOPE p) →
        (∃ i, i < n ∧ c.tag = s.num (qpMem p + 0x40000 + 16 * ((s.f (QP_STAT_CQ_HEAD p) + i) % s.qpSize p) + 8) 8) →
        (c.scope, c.tag) ∈ u.delivered) ∧
  (∀ t p s, p < 256 → (s.at t).gate .host 0x400000 = none → s.b (QP_CFG_EN p) = true → s.f (QP_STAT_CQ_HEAD p) < s.qpSize p →
    s.heldCq = [] → s.b (MSIX_MASK (s.f (QP_CFG_VECTOR p))) = false → s.b PCI_BME = true →
    Runs (.cqDoorbell t p (s.f (QP_STAT_CQ_HEAD p)) true) s fun u =>
      if s.f (QP_STAT_CQ_TAIL p) = s.f (QP_STAT_CQ_HEAD p) then u.b (QP_STAT_ARMED p) = true ∧ u.out = s.out
      else u.b (QP_STAT_ARMED p) = false ∧
        u.out = s.out ++ [.msix (s.f (MSIX_ADDR (s.f (QP_CFG_VECTOR p)))) (s.f (MSIX_DATA (s.f (QP_CFG_VECTOR p))))]) ∧
  (∀ t p head arm s, p < 256 → (s.at t).gate .host 0x400000 = none → s.b (QP_CFG_EN p) = false ∨ s.qpSize p ≤ head →
    Runs (.cqDoorbell t p head arm) s fun u => u.f (QP_STAT_ERR p) = 1 ∧ u.mem = s.mem ∧ regsBut [qpPage p + 0x18] s u)

/-- R210, R216, R222 to R224: the admission root stamps a forwarded entry when it arrives, and decides what arrived before the tick: the
first test that fails gives the reason of a REJECT, one that may wait is DEFERRED while there is room, and a command that fails none is
accepted with its micro-batch and prefix hits. A DEFERRED command whose MAX_DEFER ticks have passed is rejected with its last reason. -/
def Obligations.AdmissionRootDecides : Prop :=
  (∀ t c rest s, s.fwdIn = c :: rest →
    Runs (.commandArrive t) s fun u => u.fwdIn = rest ∧ u.arrivals = s.arrivals ++ [⟨max s.now t, c, false, 0⟩] ∧ regsBut [] s u) ∧
  (∀ t op i a s, (op, i) ∈ decidingRows t → s.isRoot = true → s.arrivals = [a] → a.expiry = false →
    a.stamp < s.f PAV_TICK_TICK_STAMP → a.due ≤ s.jobFrame → cmdOp a.cmd = op → s.foreseen.reasonFor a.cmd = 0 →
    Runs i s fun u => u.arrivals = [] ∧ u.deferred = s.deferred ∧
      u.decisions = s.decisions ++ [(s.jobFrame, ⟨a.cmd, 0, s.foreseen.bindOf a.cmd, (s.foreseen.start a.cmd).hits, false⟩)]) ∧
  (∀ t op i a r s, (op, i) ∈ decidingRows t → s.isRoot = true → s.arrivals = [a] → a.expiry = false →
    a.stamp < s.f PAV_TICK_TICK_STAMP → a.due ≤ s.jobFrame → cmdOp a.cmd = op → s.foreseen.reasonFor a.cmd = r → r ≠ 0 →
    (deferrable r = false ∨ cmdDefer a.cmd = 0 ∨ s.f SRV_CFG_ADM_DEPTH ≤ s.deferred.length) →
    Runs i s fun u => u.arrivals = [] ∧ u.deferred = s.deferred ∧ u.decisions = s.decisions ++ [(s.jobFrame, ⟨a.cmd, r, 0, [], false⟩)]) ∧
  (∀ t op i a r s, (op, i) ∈ decidingRows t → s.isRoot = true → s.arrivals = [a] → a.expiry = false →
    a.stamp < s.f PAV_TICK_TICK_STAMP → a.due ≤ s.jobFrame → cmdOp a.cmd = op → s.foreseen.reasonFor a.cmd = r → deferrable r = true →
    0 < cmdDefer a.cmd → s.deferred.length < s.f SRV_CFG_ADM_DEPTH →
    Runs i s fun u => u.arrivals = [] ∧ u.decisions = s.decisions ∧ u.deferred = s.deferred ++ [⟨a.stamp, a.cmd, s.jobFrame, r⟩] ∧
      u.f SRV_ADM_DEFERRED = (s.deferred.length + 1) % 2 ^ 16 ∧ regsBut [0x400028] s u) ∧
  (∀ t op i s, (op, i) ∈ decidingRows t → s.isRoot = false → exec i s = .next (s.at t)) ∧
  (∀ t d s, s.isRoot = true → s.deferred.find? (fun (x : Deferred) => decide (x.since + cmdDefer x.cmd ≤ s.jobFrame)) = some d →
    Runs (.deferExpire t) s fun u => u.deferred = s.deferred.filter (fun x => x ≠ d) ∧
      u.decisions = s.decisions ++ [(s.jobFrame, ⟨d.cmd, d.reason, 0, [], false⟩)])

/-- R214, R219 to R221, R243, R246, R500: a completion whose journal entry is mirrored goes to the completion queue at CQ_TAIL with the
pair's phase; behind a full queue it is held in order and the stall is counted; one not mirrored waits. -/
def Obligations.CompletionsArePosted : Prop :=
  (∀ t typ i p s, (typ, i) ∈ postingRows t → s.posts = [p] → p.typ = typ → s.mirrored p.scope p.own = true → p.pair < 256 →
    p.toks.length ≤ 8 → s.f (QP_CFG_SIZE_LOG2 p.pair) ≤ 12 → s.cqFull p.pair = false → s.heldCq = [] →
    Runs i s fun u => u.posts = [] ∧ u.heldCq = [] ∧
      u.f (QP_STAT_CQ_TAIL p.pair) = (s.f (QP_STAT_CQ_TAIL p.pair) + 1) % s.qpSize p.pair ∧
      u.f (QP_CNT_POSTED p.pair) = (s.f (QP_CNT_POSTED p.pair) + 1) % 2 ^ 32 ∧
      u.num (qpMem p.pair + 0x40000 + 16 * s.f (QP_STAT_CQ_TAIL p.pair) + 8) 8 = p.tag % 2 ^ 64 ∧
      u.num (qpMem p.pair + 0x40000 + 16 * s.f (QP_STAT_CQ_TAIL p.pair)) 8 = s.f (QP_STAT_PHASE p.pair) * 2 ^ 63 + typ * 2 ^ 56 +
        p.code % 256 * 2 ^ 48 + (if typ = 3 then p.toks.length else 0) * 2 ^ 40 + p.deg % 256 * 2 ^ 32 + p.seq % 2 ^ 32) ∧
  (∀ t typ i p s, (typ, i) ∈ postingRows t → s.posts = [p] → p.typ = typ → s.mirrored p.scope p.own = true → p.pair < 256 →
    s.cqFull p.pair = true →
    Runs i s fun u => u.posts = [] ∧ u.heldCq = s.heldCq ++ [(p.pair, p)] ∧ u.mem = s.mem ∧ u.b SRV_EVT_CQ_STALL = true ∧
      u.f SRV_WAIT_CQ_STALL = min (s.f SRV_WAIT_CQ_STALL + 1) (2 ^ 16 - 1)) ∧
  (∀ t typ i s, (typ, i) ∈ postingRows t → (∀ p ∈ s.posts, p.typ = typ → s.mirrored p.scope p.own = false) →
    exec i s = .next (s.at t))

/-- R205, R216, R244 to R246: a request asked to pause becomes PAUSED when its step is over and none of its pages moves, with its time to
live from the tick; an idle one is paused by the block; the root stamps its expiry at the end of that time; a resumed one whose pages are
all back in tier N returns to ACTIVE or HELD. -/
def Obligations.RequestsPauseExpireAndResume : Prop :=
  (∀ t scope tag r ms s, s.req scope tag = some r → r.pausing = some ms → r.step = none → s.isMoving r = false → r.st ≠ .ending →
    r.st ≠ .expired →
    Runs (.pauseEffect t scope tag) s fun u => ∃ x, u.req scope tag = some x ∧ x.st = .paused ∧ x.ttl = ms ∧ x.pausing = none ∧
      x.expAt = some (s.f PAV_TICK_TICK_STAMP + ms * 1000000) ∧ x.idlePaused = false ∧ x.pages = r.pages ∧ x.input = r.input) ∧
  (∀ t scope tag r s, s.req scope tag = some r → 0 < s.f SRV_CFG_IDLE_FRAMES → s.f SRV_CFG_IDLE_FRAMES ≤ r.idle →
    r.st = .waitMask ∨ r.st = .held → r.step = none →
    Runs (.idlePause t scope tag) s fun u => ∃ x, u.req scope tag = some x ∧ x.st = .paused ∧ x.ttl = s.f SRV_TTL_AUTO_TTL_MS ∧
      x.expAt = some (s.f PAV_TICK_TICK_STAMP + s.f SRV_TTL_AUTO_TTL_MS * 1000000) ∧ x.idlePaused = true ∧
      x.resumeTo = (r.st == .held) ∧ x.pages = r.pages) ∧
  (∀ t scope tag r e s, s.req scope tag = some r → r.expAt = some e → s.isRoot = true → r.st = .paused → r.expSent = false →
    e ≤ max s.now t →
    Runs (.ttlExpire t scope tag) s fun u => u.req scope tag = some { r with expSent := true } ∧
      (∃ a, u.arrivals = s.arrivals ++ [a] ∧ a.stamp = e ∧ a.expiry = true ∧ a.cmd.scope = scope ∧ cmdTag a.cmd = tag % 2 ^ 64) ∧ regsBut [] s u) ∧
  (∀ t scope tag r s, s.req scope tag = some r → r.st = .resuming → s.isMoving r = false → (∀ x ∈ r.pages, s.pageF x.2.2 = false) →
    r.pausing = none → r.more = none →
    Runs (.resumeDone t scope tag) s fun u => ∃ x, u.req scope tag = some x ∧ x.st = (if r.resumeTo then .held else .active) ∧
      x.pages = r.pages ∧ x.input = r.input ∧ x.horizon = r.horizon ∧ x.resumeTo = false)
/-- R179, R259, R278, R478: a LOAD while one runs, while an image is active or on a halted package is BUSY and changes nothing else; the
audit's hold fails it at once; otherwise the state is HASHING, or FAILED at the first check of the container that
fails. ABORT is remembered while a load runs. When every target array has reported, one that failed fails the
load; otherwise Larkspur writes the factor records and the image is READY, and IMG_ID shows its ID. -/
def Obligations.LoadsStartFailAndComplete : Prop :=
  (∀ t q img s, (s.at t).gate q 0x300010 = none → s.owns q 0x300010 = true →
    (1 ≤ s.imgSt ∧ s.imgSt ≤ 4) ∨ s.imgSt = 6 ∨ s.halted = true →
    Runs (.load t q img) s fun u => u.f IMG_STATE_ERR = 0x14 ∧ u.imgSt = s.imgSt ∧ u.staging = s.staging ∧ regsBut [0x300018] s u) ∧
  (∀ t q img s, (s.at t).gate q 0x300010 = none → s.owns q 0x300010 = true →
    ¬ ((1 ≤ s.imgSt ∧ s.imgSt ≤ 4) ∨ s.imgSt = 6 ∨ s.halted = true) → s.audit.hold = true →
    Runs (.load t q img) s fun u => u.imgSt = 7 ∧ u.f IMG_STATE_ERR = 0x15 ∧ u.staging = none ∧ u.b IMG_EVT_LOAD_FAIL = true ∧
      regsBut (0x300018 :: 0x300028 :: 0x300030 :: IMG_EVT_LOAD_FAIL.evtKeys) s u) ∧
  (∀ t q img b s, (s.at t).gate q 0x300010 = none → s.owns q 0x300010 = true →
    ¬ ((1 ≤ s.imgSt ∧ s.imgSt ≤ 4) ∨ s.imgSt = 6 ∨ s.halted = true) → s.audit.hold = false → b = 4096 * s.f IMG_STAGE_BASE_4K →
    s.headerOk b = true → s.targetOk b = true → s.sectionsOk b = true →
    Runs (.load t q img) s fun u => u.imgSt = 1 ∧ u.f IMG_STATE_ERR = 0 ∧ u.staging = some img ∧ u.stageBase = b ∧
      u.stageLen = s.num (b + 32) 8 ∧ u.f (IMG_ID_ID 0) = 0 ∧ u.f (IMG_ID_ID 1) = 0 ∧
      u.f IMG_PROG_TOTAL = 0 ∧ u.f IMG_PROG_DONE = 0 ∧ u.f IMG_PROG_FAILED = 0 ∧ u.loadStop = false ∧ u.mem = s.mem ∧ u.cells = s.cells) ∧
  (∀ t q img b s, (s.at t).gate q 0x300010 = none → s.owns q 0x300010 = true →
    ¬ ((1 ≤ s.imgSt ∧ s.imgSt ≤ 4) ∨ s.imgSt = 6 ∨ s.halted = true) → s.audit.hold = false → b = 4096 * s.f IMG_STAGE_BASE_4K →
    (s.headerOk b = false ∨ s.targetOk b = false ∨ s.sectionsOk b = false) →
    Runs (.load t q img) s fun u => u.imgSt = 7 ∧ u.staging = none ∧ u.b IMG_EVT_LOAD_FAIL = true ∧ u.mem = s.mem ∧
      u.f IMG_STATE_ERR = (if s.headerOk b = false then 1 else if s.targetOk b = false then 2 else 3)) ∧
  (∀ t q s, (s.at t).gate q 0x300010 = none → s.owns q 0x300010 = true →
    Runs (.loadAbort t q) s fun u => u.loadStop = (s.loadStop || decide (1 ≤ s.imgSt ∧ s.imgSt ≤ 4)) ∧ u.staging = s.staging ∧ regsBut [] s u) ∧
  (∀ t s, s.imgSt = 4 → s.loadSettled = true → s.loadFact = false → s.loadStop = false → s.f IMG_PROG_FAILED = 0 →
    Runs (.loadProgrammed t) s fun u => u.loadFact = true ∧ u.staging = s.staging ∧ regsBut [] s u) ∧
  (∀ t s, s.imgSt = 4 → s.loadSettled = true → s.loadFact = false → s.loadStop = false → s.f IMG_PROG_FAILED ≠ 0 →
    Runs (.loadProgrammed t) s fun u => u.imgSt = 7 ∧ u.f IMG_STATE_ERR = 0x12 ∧ u.staging = none ∧ u.b IMG_EVT_LOAD_FAIL = true) ∧
  (∀ t a bs s, s.imgSt = 4 → s.loadFact = true → s.f MGT_LSTATE_STATE = 2 → s.loadStop = false → a + bs.length ≤ 2 ^ 39 →
    Runs (.loadDone t [(a, bs)]) s fun u => u.imgSt = 5 ∧ u.loadFact = false ∧ u.loadArrs = [] ∧ u.staging = s.staging ∧
      u.b IMG_EVT_LOAD_DONE = true ∧ (∀ i, i < bs.length → u.byte (a + i) = bs.getD i 0 % 256) ∧ memBut a bs.length s u ∧
      u.f (IMG_ID_ID 0) = s.num (s.stageBase + 16) 8 ∧ u.f (IMG_ID_ID 1) = s.num (s.stageBase + 24) 8 ∧
      regsBut (0x300018 :: 0x300028 :: 0x300030 :: IMG_EVT_LOAD_DONE.evtKeys) s u)

/-- R252, R259, R260, R415, R427: the digest covers the image up to its SIG section; a version below the floor, a signature that is not
the owner's, a missing key and a GCM tag that does not hold fail the load with their codes, the last with zeros over the range; an
encrypted image waits in VERIFYING for its clear text, and the validator's first code fails it, or the arrays are programmed. -/
def Obligations.LoadVerifiesAndValidates : Prop :=
  (∀ t sig vet place s, s.imgSt = 1 → s.loadStop = true →
    Runs (.hashDone t sig vet place) s fun u => u.imgSt = 7 ∧ u.f IMG_STATE_ERR = 0x13 ∧ u.staging = none ∧ u.loadStop = false ∧
      u.mem = s.mem) ∧
  (∀ t sig vet place s, s.imgSt = 1 → s.loadStop = false → s.num (s.stageBase + 40) 4 < s.fuses.floorI →
    Runs (.hashDone t sig vet place) s fun u => u.imgSt = 7 ∧ u.f IMG_STATE_ERR = 0x04 ∧ u.f IMG_STATE_ERR_OFFSET = 40 ∧ u.staging = none ∧
      u.imgDigest = sha256 (s.bytes s.stageBase (s.sigAt - s.stageBase)) ∧ u.mem = s.mem) ∧
  (∀ t vet place s, s.imgSt = 1 → s.loadStop = false → s.fuses.floorI ≤ s.num (s.stageBase + 40) 4 →
    Runs (.hashDone t false vet place) s fun u => u.imgSt = 7 ∧ u.f IMG_STATE_ERR = 0x05 ∧ u.staging = none ∧ u.mem = s.mem ∧
      u.f SEC_CNT_BAD_SIG = min (s.f SEC_CNT_BAD_SIG + 1) (2 ^ SEC_CNT_BAD_SIG.w - 1)) ∧
  (∀ t vet place h k s, s.imgSt = 1 → s.loadStop = false → s.fuses.floorI ≤ s.num (s.stageBase + 40) 4 → s.ownerHash = some h →
    h.take 16 = s.bytes s.sigAt 16 → s.num (s.sigAt + 16) 2 = 0x0192 → s.num (s.stageBase + 12) 4 % 2 = 1 → s.f SEC_STATE_DEBUG ≠ 2 →
    sfind s.fuses.keys (s.num (s.sigAt + 18) 2) = some k →
    Runs (.hashDone t true vet place) s fun u => u.imgSt = 2 ∧ u.imgDigest = sha256 (s.bytes s.stageBase (s.sigAt - s.stageBase)) ∧
      u.staging = s.staging ∧ u.mem = s.mem ∧ regsBut [0x300018] s u) ∧
  (∀ t place im h s, s.imgSt = 1 → s.loadStop = false → s.fuses.floorI ≤ s.num (s.stageBase + 40) 4 → s.ownerHash = some h →
    h.take 16 = s.bytes s.sigAt 16 → s.num (s.sigAt + 16) 2 = 0x0192 → s.num (s.stageBase + 12) 4 % 2 = 0 → s.staging = some im →
    Runs (.hashDone t true (some 0x16) place) s fun u => u.imgSt = 7 ∧ u.f IMG_STATE_ERR = 0x16 ∧ u.f IMG_STATE_ERR_OFFSET = place % 2 ^ 32 ∧
      u.staging = none ∧ u.mem = s.mem) ∧
  (∀ t plain vet place s, s.imgSt = 2 → s.loadStop = false →
    Runs (.decryptDone t false plain vet place) s fun u => u.imgSt = 7 ∧ u.f IMG_STATE_ERR = 0x06 ∧ u.staging = none ∧
      (∀ i, i < s.cipher.2 → u.byte (s.cipher.1 + i) = 0) ∧ memBut s.cipher.1 s.cipher.2 s u) ∧
  (∀ t plain vet place im a d w s, s.imgSt = 2 → s.loadStop = false → s.staging = some im → a = (s.at t).write s.cipher.1 (plain.take s.cipher.2) →
    d = leNat ((sha256 (a.bytes (s.stageBase + (a.sectAt s.stageBase 0).1) (a.sectAt s.stageBase 0).2)).take 16) →
    w = { a.setf IMG_STATE_STATE 3 with topoDigest := d } →
    w.validate im s.stageBase vet = 0 → im.wideCopy = [] → s.b IMG_COPYF_EN = false →
    Runs (.decryptDone t true plain vet place) s fun u => u.imgSt = 4 ∧ u.staging = some im ∧ u.topoDigest = d ∧
      u.f IMG_PROG_TOTAL = (a.byLoc (a.records_ s.stageBase)).length % 2 ^ 16 ∧
      u.loadArrs = s.loadArrs ++ (a.byLoc (a.records_ s.stageBase)).map a.recLoc ∧ u.mem = a.mem ∧ u.cells = s.cells)
/-- R47, R272, R308, R316, R372: a member posts its own arrival once its local frame end has come and what it sent is acknowledged; a leaf
sends it on to its parent, the root of a job of one completes the barrier at once with its own level and skip request, a root whose
window has closed counts it LATE, and a member that reported a JOB_FAULT posts nothing. -/
def Obligations.ArrivalsArePosted : Prop :=
  (∀ t s, s.active = true → s.failSolo = false → s.qdr.excluded = false → s.qdr.member = none → s.qdr.own = none → s.pav.lfeDone = true →
    s.pav.faulted = false → s.pav.waitDead = false → s.pav.stopped = false → (∀ x ∈ s.tx, x.flit.frame ≠ s.jobFrame % 2 ^ 32) →
    (∀ m ∈ s.ctrlQ, isMirror m.2 = false) → s.b QDR_TREE_IS_ROOT = false → s.qdr.kids = [] → s.qdr.sent = false →
    Runs (.arrivePost t) s fun u => u.qdr.sent = true ∧ (∃ m, u.qdr.own = some m ∧ m.frame = s.jobFrame ∧ m.level = s.pav.latched ∧
        m.skip = s.pav.skipReq ∧ m.arrived = 1 ∧ m.jobId = s.f QDR_JOB_JOB_ID) ∧
      (s.upPort < 72 → s.portUp (s.onPort s.upPort) = true → s.b (FAB_PCTL_DRAINING (s.onPort s.upPort)) = false →
        (s.txOf (s.onPort s.upPort)).length < 4096 →
        ∃ x, u.tx = s.tx ++ [x] ∧ x.port = s.onPort s.upPort ∧ x.flit.typ = 3)) ∧
  (∀ t s, s.active = true → s.failSolo = false → s.qdr.excluded = false → s.qdr.member = none → s.qdr.own = none → s.pav.lfeDone = true →
    s.pav.faulted = false → s.pav.waitDead = false → s.pav.stopped = false → (∀ x ∈ s.tx, x.flit.frame ≠ s.jobFrame % 2 ^ 32) →
    (∀ m ∈ s.ctrlQ, isMirror m.2 = false) → s.b QDR_TREE_IS_ROOT = true → (s.at t).windowShut = false → s.qdr.kids = [] → s.qdr.got = [] →
    s.qdr.done ≠ some s.jobFrame → s.txnPend = [] →
    Runs (.arrivePost t) s fun u => u.qdr.done = some s.jobFrame ∧ u.qdr.skipNext = s.pav.skipReq ∧
      u.f QDR_DONE_FRAME = s.jobFrame % 2 ^ 64 ∧ u.f PAV_THR_JOB_LEVEL = min s.pav.latched 11) ∧
  (∀ t s, s.active = true → s.failSolo = false → s.qdr.excluded = false → s.qdr.member = none → s.qdr.own = none → s.pav.lfeDone = true →
    s.pav.faulted = false → s.pav.waitDead = false → s.pav.stopped = false → (∀ x ∈ s.tx, x.flit.frame ≠ s.jobFrame % 2 ^ 32) →
    (∀ m ∈ s.ctrlQ, isMirror m.2 = false) → s.b QDR_TREE_IS_ROOT = true → (s.at t).windowShut = true →
    Runs (.arrivePost t) s fun u => u.qdr = s.qdr ∧ u.f QDR_CNT_LATE = min (s.f QDR_CNT_LATE + 1) (2 ^ 32 - 1) ∧ u.b QDR_EVT_LATE = true ∧
      regsBut (0x700048 :: QDR_EVT_LATE.evtKeys) s u) ∧
  (∀ t s, s.pav.faulted = true → exec (.arrivePost t) s = .next (s.at t))

/-- R315, R316, R318, R319, R322: an ARRIVE is kept at a combiner that still waits; the last one at the root completes the barrier with
the highest level and the OR of the skip requests; after the root's window it is LATE, and one of an earlier frame is dropped. A COMPLETE
of the barrier's frame ends it at a member. -/
def Obligations.BarriersComplete : Prop :=
  (∀ t p f m s, flitTaken s p 3 f → m = qmsgOf f.payload → m.kind = 1 → s.active = true → s.failSolo = false → m.jobId = s.f QDR_JOB_JOB_ID →
    m.frame < s.barFrame →
    Runs (.arrive t p f) s fun u => u.qdr = s.qdr ∧ regsBut [] s u ∧ (u.prt p).expSeq = (f.seq + 1) % 2 ^ 32) ∧
  (∀ t p f m s, flitTaken s p 3 f → m = qmsgOf f.payload → m.kind = 1 → s.active = true → s.failSolo = false → m.jobId = s.f QDR_JOB_JOB_ID →
    m.frame = s.barFrame → s.qdr.done ≠ some s.barFrame → s.b QDR_TREE_IS_ROOT = true → (s.at t).windowShut = true → m.join = false →
    Runs (.arrive t p f) s fun u => u.qdr = s.qdr ∧ u.f QDR_CNT_LATE = min (s.f QDR_CNT_LATE + m.arrived) (2 ^ 32 - 1) ∧
      u.b QDR_EVT_LATE = true ∧ regsBut (0x700048 :: QDR_EVT_LATE.evtKeys) s u) ∧
  (∀ t p f m s, flitTaken s p 3 f → m = qmsgOf f.payload → m.kind = 1 → s.active = true → s.failSolo = false → m.jobId = s.f QDR_JOB_JOB_ID →
    m.frame = s.barFrame → s.qdr.done ≠ some s.barFrame → s.b QDR_TREE_IS_ROOT = false → s.qdr.sent = false → m.join = false → s.qdr.got = [] →
    s.qdr.own = none →
    Runs (.arrive t p f) s fun u => u.qdr = { s.qdr with got := [(p, m)] } ∧ regsBut [] s u) ∧
  (∀ t p f m o ms s, flitTaken s p 3 f → m = qmsgOf f.payload → m.kind = 1 → s.active = true → s.failSolo = false →
    m.jobId = s.f QDR_JOB_JOB_ID → m.frame = s.jobFrame → s.qdr.member = none → s.qdr.done ≠ some s.jobFrame → s.b QDR_TREE_IS_ROOT = true →
    (s.at t).windowShut = false → m.join = false → m.part = false → s.qdr.got = [] → s.qdr.own = some o → s.qdr.kids = [(p, ms)] →
    s.txnPend = [] →
    Runs (.arrive t p f) s fun u => u.qdr.done = some s.jobFrame ∧ u.qdr.skipNext = (o.skip || m.skip) ∧
      u.f QDR_DONE_FRAME = s.jobFrame % 2 ^ 64 ∧ u.f PAV_THR_JOB_LEVEL = min (max o.level m.level) 11) ∧
  (∀ t p f m s, flitTaken s p 3 f → m = qmsgOf f.payload → m.kind = 2 → s.active = true → s.failSolo = false → m.jobId = s.f QDR_JOB_JOB_ID →
    m.frame = s.jobFrame → s.qdr.member = none → s.qdr.done ≠ some s.jobFrame → s.txnPend = [] →
    Runs (.complete t p f) s fun u => u.qdr.done = some m.frame ∧ u.qdr.skipNext = m.skip ∧ u.f QDR_DONE_FRAME = m.frame % 2 ^ 64 ∧
      u.f PAV_THR_JOB_LEVEL = m.level % 2 ^ 4 ∧ u.f QDR_LAT_LAST_NS = min (max s.now t - s.pav.lfeStamp) (2 ^ 32 - 1)) ∧
  (∀ t p f m s, flitTaken s p 3 f → m = qmsgOf f.payload → m.kind = 7 → s.active = true → s.failSolo = false → m.jobId = s.f QDR_JOB_JOB_ID →
    s.b QDR_TREE_IS_ROOT = true → s.barFrame ≤ m.frame →
    Runs (.held t p f) s fun u => u.qdr = { s.qdr with held := s.qdr.held ++ [m] } ∧ regsBut [] s u)

/-- R316 to R318, R320, R395: what missing arrivals lead to. A combiner passes on what it has before the root's window closes; at the close
the root declares the one member that is missing, and starts a round over it: the package stops and goes back to the settled tick; the
same at the close of a restore window. Where the loss is beyond the guarantee the job fails. A member that has seen no COMPLETE reports
the root's loss, once. -/
def Obligations.MissingMembersStartRounds : Prop :=
  (∀ t s, s.active = true → s.failSolo = false → s.b QDR_TREE_IS_ROOT = false → s.qdr.kids ≠ [] → s.qdr.sent = false → s.barDone = false →
    s.windowSet = true → s.windowClose ≤ max s.now t + s.f QDR_TREE_DEPTH * s.f QDR_CFG_HOP_GUARD_NS →
    Runs (.partialTimeout t) s fun u => u.qdr = { s.qdr with sent := true } ∧
      (s.upPort < 72 → s.portUp (s.onPort s.upPort) = true → s.b (FAB_PCTL_DRAINING (s.onPort s.upPort)) = false →
        (s.txOf (s.onPort s.upPort)).length < 4096 →
        ∃ x, u.tx = s.tx ++ [x] ∧ x.port = s.onPort s.upPort ∧ x.flit.typ = 3)) ∧
  (∀ t i x tp s, (i = .windowClose t ∧ s.qdr.member = none ∧ s.pav.stopped = false) ∨ (i = .restoreWindowClose t ∧ s.qdr.member.isSome = true) →
    s.isQRoot = true → s.barDone = false → (s.at t).windowShut = true → s.topo = some tp → s.missing = [x] → s.saidMany = false →
    s.qdr.held = [] → s.qdr.mine = [] → x ≠ tp.self → x ∉ s.qdr.leaving → s.beyond x = false → s.qdr.excluded = false →
    Runs i s fun u => u.pav.stopped = true ∧ u.pav.waits = [] ∧ (∃ r, u.qdr.member = some (r, s.jobFrame + 2)) ∧ x ∈ u.qdr.gone ∧
      x ∈ u.qdr.leaving ∧ u.qdr.round.isSome = true ∧ u.f RCV_STATE_STATE = 3 ∧ u.txnPend = []) ∧
  (∀ t i x tp s, (i = .windowClose t ∧ s.qdr.member = none ∧ s.pav.stopped = false) ∨ (i = .restoreWindowClose t ∧ s.qdr.member.isSome = true) →
    s.isQRoot = true → s.barDone = false → (s.at t).windowShut = true → s.topo = some tp → s.missing = [x] → s.saidMany = false →
    s.qdr.held = [] → s.qdr.mine = [] → x ≠ tp.self → x ∉ s.qdr.leaving → s.beyond x = true →
    Runs i s fun u => u.failSolo = true ∧ u.qdr.round = none ∧ u.qdr.member = none ∧ u.pav.stopped = false ∧ u.f PAV_CFG_N_PASSES = 768 ∧
      u.f PAV_CFG_WORK_SPAN = 704) ∧
  (∀ t s, s.barDone = true → exec (.windowClose t) s = .next (s.at t) ∧ exec (.restoreWindowClose t) s = .next (s.at t)) ∧
  (∀ t tp s, s.topo = some tp → s.active = true → s.failSolo = false → s.b QDR_TREE_IS_ROOT = false → s.qdr.member = none →
    s.pav.lfeDone = true → s.barDone = false → s.qdr.lostSent = false → s.lfeAt + 2 * s.f QDR_CFG_WINDOW_NS ≤ max s.now t →
    tp.standby ≠ tp.self →
    Runs (.rootLost t) s fun u => u.qdr = { s.qdr with lostSent := true } ∧ u.b QDR_EVT_ROOT_LOST = true)

/-- R321, R322, R387 to R390, R395, R409: the root's ABORT stops a member that is not to blame: its transactions end, it goes back to the
tick the broadcast names and waits in RESTORE; with MANY_MISSING the job fails instead. A request at the root is held while a round runs.
The round ends when every surviving member has answered, or when the silent ones are declared failed; a restored member posts its
arrival for the frame before the round's tick. -/
def Obligations.AbortRoundsRunAndEnd : Prop :=
  (∀ t p f m s, flitTaken s p 3 f → m = qmsgOf f.payload → m.kind = 3 → s.active = true → s.failSolo = false → m.bcast = true →
    s.b QDR_TREE_IS_ROOT = false → s.qdr.mine = [] → s.qdr.excluded = false → bits m.cause 0 8 ≠ 5 →
    faultClass (bits m.cause 8 8) (bits m.cause 16 4) < 6 →
    Runs (.abort t p f) s fun u => u.qdr.member = some (m.aux, m.frame + 1) ∧ u.qdr.fault = some m ∧ u.qdr.own = none ∧ u.qdr.sent = false ∧
      u.pav.stopped = true ∧ u.pav.waits = [] ∧ u.txnPend = [] ∧ u.f RCV_STATE_STATE = 3 ∧ u.moving = [] ∧ u.cow = [] ∧ u.staged = []) ∧
  (∀ t p f m s, flitTaken s p 3 f → m = qmsgOf f.payload → m.kind = 3 → s.active = true → s.failSolo = false → m.bcast = true →
    s.b QDR_TREE_IS_ROOT = false → s.qdr.mine = [] → bits m.cause 0 8 = 5 →
    Runs (.abort t p f) s fun u => u.failSolo = true ∧ u.qdr.member = none ∧ u.pav.stopped = false ∧ u.f PAV_CFG_N_PASSES = 768 ∧
      u.f PAV_CFG_WORK_SPAN = 704) ∧
  (∀ t p f m x s, flitTaken s p 3 f → m = qmsgOf f.payload → m.kind = 3 → s.active = true → s.failSolo = false → m.bcast = false →
    s.b QDR_TREE_IS_ROOT = true → s.qdr.round = some x → x.ended = false →
    Runs (.abort t p f) s fun u => u.qdr = { s.qdr with round := some { x with later := x.later ++ [m] } } ∧ regsBut [] s u) ∧
  (∀ t p f m x s, flitTaken s p 3 f → m = qmsgOf f.payload → m.kind = 4 → s.isQRoot = true → m.jobId = s.f QDR_JOB_JOB_ID →
    s.qdr.round = some x → x.ended = false → m.frame + 1 = x.s → x.later = [] → s.qdr.own = none →
    Runs (.abortAck t p f) s fun u => regsBut [] s u ∧
      if s.alive.all (x.acked ++ [m.member]).eraseDups.contains then
        u.qdr = { s.qdr with round := some { x with acked := (x.acked ++ [m.member]).eraseDups, ended := true, endAt := max s.now t } }
      else u.qdr = { s.qdr with round := some { x with acked := (x.acked ++ [m.member]).eraseDups } }) ∧
  (∀ t x i tp s, s.isQRoot = true → s.qdr.round = some x → x.ended = false → x.first + 1000 * s.f RCV_CFG_ACK_WAIT_US ≤ max s.now t →
    s.alive.filter (fun k => !x.acked.contains k) = [i] → s.topo = some tp → i ≠ tp.self → i ∉ s.qdr.leaving → s.beyond i = false →
    x.later = [] → s.qdr.own = none →
    Runs (.abortAckTimeout t) s fun u =>
      u.qdr.round = some { x with failed := [i], acked := x.acked ++ [i], ended := true, endAt := max s.now t } ∧ i ∈ u.qdr.gone ∧
      u.f QDR_FAIL_MEMBER = i % 2 ^ 32 ∧ u.f QDR_FAIL_CAUSE = 1 ∧ u.b QDR_EVT_MEMBER_FAILED = true ∧
      ∃ r, u.records = s.records ++ [r] ∧ r.cause = 0x1E ∧ r.unit = i) ∧
  (∀ t bk src s, s.active = true → s.failSolo = false → s.qdr.excluded = false → s.qdr.member.isSome = true → s.f RCV_STATE_STATE = 3 →
    s.qdr.own = none → s.badBanks.contains bk = true → src + 65536 ≤ 2 ^ 39 → s.b QDR_TREE_IS_ROOT = false → s.qdr.kids = [] →
    s.qdr.sent = false →
    Runs (.restoreDone t [(bk, src)]) s fun u => u.qdr.sent = true ∧ (∃ m, u.qdr.own = some m ∧ m.frame = s.barFrame ∧ m.arrived = 1) ∧
      (∀ i, i < 65536 → u.byte (spd (bk / 16) (bk % 16 * 65536) + i) = s.byte (src + i)) ∧
      memBut (spd (bk / 16) (bk % 16 * 65536)) 65536 s u)

/-- R258, R273, R323: START rounds. A vote that comes to a package of the new tree before its own is kept, and the first starts START_WAIT;
START_GO with a COMMIT brings the apply tick, without one the transaction ends with ROUND_ABORT, as it does when the root's START_WAIT
is over. -/
def Obligations.StartRoundsDecide : Prop :=
  (∀ t p f m tp s, flitTaken s p 3 f → m = qmsgOf f.payload → m.kind = 5 → s.newTopo = some tp → m.jobId = tp.jobId → s.qdr.startSent = false →
    s.qdr.startVotes = [] →
    Runs (.startVote t p f) s fun u =>
      u.qdr = { s.qdr with startVotes := [(p, m)], startFirst := some (s.qdr.startFirst.getD (max s.now t)) } ∧ regsBut [] s u) ∧
  (∀ t p f m tp x s, flitTaken s p 3 f → m = qmsgOf f.payload → m.kind = 6 → s.newTopo = some tp → m.jobId = tp.jobId → s.txnPend = [x] →
    isStart x = true → m.votes.any (fun v => v.req == x.q.code && v.id == x.id && v.state == 2) = true →
    Runs (.startGo t p f) s fun u => u.txnPend = [{ x with verdict := .commit }] ∧ u.qdr.startGo = true ∧ u.qdr.startVotes = [] ∧
      u.qdr.startFirst = none) ∧
  (∀ t p f m tp x s, flitTaken s p 3 f → m = qmsgOf f.payload → m.kind = 6 → s.newTopo = some tp → m.jobId = tp.jobId → s.txnPend = [x] →
    isStart x = true → m.votes.any (fun v => v.req == x.q.code && v.id == x.id && v.state == 2) = false → x.q ≠ .larkspur →
    Runs (.startGo t p f) s fun u => u.txnPend = [] ∧ u.f (TXNP_DONE_RESULT x.q.code) = 0x0A ∧ u.f (TXNP_DONE_ID x.q.code) = x.id % 2 ^ 32 ∧
      u.qdr.startGo = s.qdr.startGo ∧ u.qdr.startFirst = none) ∧
  (∀ t a tp x s, s.newTopo = some tp → s.qdr.startFirst = some a → tp.self = tp.root → s.qdr.startGo = false →
    a + tp.startWait * 1000000000 ≤ max s.now t → s.txnPend = [x] → isStart x = true → x.q ≠ .larkspur →
    Runs (.startWaitExpire t) s fun u => u.txnPend = [] ∧ u.f (TXNP_DONE_RESULT x.q.code) = 0x0A ∧ u.qdr.startGo = false ∧
      u.qdr.startVotes = [] ∧ u.qdr.startFirst = none)
/-- R302, R304 to R306, R309, R311: a DATA flit that passes the link layer is staged; with 512 staged it is refused and counted; an old
frame makes it STALE, a wrong destination a misroute with a record; a bad CRC or an uncorrectable codeword asks for it again; ACK removes
acknowledged flits from the replay store, NAK sends one again, and a timer does so until the fourth failure fails the link. -/
def Obligations.FlitsAreCheckedAndReplayed : Prop :=
  (∀ t p f n s, flitTaken s p 1 f → (s.staged.filter (fun x => x.1 = p)).length < 512 →
    (f.frame + 2 ^ 32 - s.jobFrame % 2 ^ 32) % 2 ^ 32 ≤ 1 → f.dst = s.f FAB_ID_PKG_ID →
    Runs (.dataFlit t p f (some n)) s fun u => u.staged = s.staged ++ [(p, f)] ∧ (u.prt p).expSeq = (f.seq + 1) % 2 ^ 32 ∧
      (u.prt p).nak = none ∧ u.records = s.records ∧ u.mem = s.mem ∧
      u.f (FAB_PERR_CORR_SYM p) = min (s.f (FAB_PERR_CORR_SYM p) + n) (2 ^ 32 - 1)) ∧
  (∀ t p f n s, flitTaken s p 1 f → 512 ≤ (s.staged.filter (fun x => x.1 = p)).length →
    Runs (.dataFlit t p f (some n)) s fun u => u.staged = s.staged ∧ (u.prt p).expSeq = f.seq ∧ (u.prt p).nak = some f.seq ∧
      u.f (FAB_PCNT_STAGE_FULL p) = min (s.f (FAB_PCNT_STAGE_FULL p) + 1) (2 ^ 16 - 1) ∧ u.b FAB_EVT_STAGE_FULL = true) ∧
  (∀ t p f n s, flitTaken s p 1 f → (s.staged.filter (fun x => x.1 = p)).length < 512 →
    2 ^ 31 ≤ (f.frame + 2 ^ 32 - s.jobFrame % 2 ^ 32) % 2 ^ 32 →
    Runs (.dataFlit t p f (some n)) s fun u => u.staged = s.staged ∧ u.f (FAB_PCNT_STALE p) = min (s.f (FAB_PCNT_STALE p) + 1) (2 ^ 16 - 1) ∧
      u.b FAB_EVT_STALE = true) ∧
  (∀ t p f n s, flitTaken s p 1 f → (s.staged.filter (fun x => x.1 = p)).length < 512 →
    (f.frame + 2 ^ 32 - s.jobFrame % 2 ^ 32) % 2 ^ 32 ≤ 1 → f.dst ≠ s.f FAB_ID_PKG_ID →
    Runs (.dataFlit t p f (some n)) s fun u => u.staged = s.staged ∧ u.b FAB_EVT_MISROUTE = true ∧
      ∃ r, u.records = s.records ++ [r] ∧ r.sev = 2 ∧ r.cause = 0x1D ∧ r.kind = 7 ∧ r.unit = p ∧ r.detail = f.dst) ∧
  (∀ t p f n s, p < 72 → f.typ % 16 = 1 → s.portUp p = true → f.crc ≠ crc32 (flitBody f) →
    Runs (.dataFlit t p f (some n)) s fun u => u.staged = s.staged ∧ (u.prt p).nak = some (s.prt p).expSeq ∧
      (u.prt p).expSeq = (s.prt p).expSeq ∧ u.tx = s.tx) ∧
  (∀ t p f s, p < 72 → Runs (.dataFlit t p f none) s fun u => u.staged = s.staged ∧ (u.prt p).nak = some (s.prt p).expSeq ∧
      u.f (FAB_PERR_UNCORR p) = min (s.f (FAB_PERR_UNCORR p) + 1) (2 ^ 16 - 1) ∧ regsBut [(FAB_PERR_UNCORR p).a] s u) ∧
  (∀ t p f n s, p < 72 → f.typ % 16 = 2 → s.portUp p = true → f.crc = crc32 (flitBody f) → f.nak = 0xFFFFFFFF → (s.prt p).farEp = some f.epoch →
    Runs (.ackFlit t p f (some n)) s fun u =>
      u.tx = s.tx.filter (fun x => x.port ≠ p || !seqLe x.flit.seq f.ack) ∧ u.out = s.out ∧ u.staged = s.staged) ∧
  (∀ t p f n x s, p < 72 → f.typ % 16 = 2 → s.portUp p = true → f.crc = crc32 (flitBody f) → (s.prt p).farEp = some f.epoch →
    s.tx = [x] → x.port = p → x.flit.seq = f.nak → f.nak ≠ 0xFFFFFFFF → seqLe x.flit.seq f.ack = false → x.tries < 4 → x.ctrl = none →
    Runs (.ackFlit t p f (some n)) s fun u => u.out = s.out ++ [.flit p x.flit] ∧
      u.f (FAB_PCNT_RETRANS p) = min (s.f (FAB_PCNT_RETRANS p) + 1) (2 ^ 32 - 1) ∧
      ∃ y, u.tx = [y] ∧ y.flit = x.flit ∧ y.tries = x.tries + 1) ∧
  (∀ t p x s, p < 72 → s.portUp p = true → (s.txOf p).find? (fun (y : TxFlit) => decide (y.due ≤ max s.now t)) = some x → x.tries < 4 →
    Runs (.linkTimerExpire t p) s fun u => u.tx.length = s.tx.length ∧ u.staged = s.staged ∧
      u.f (FAB_PCNT_RETRANS p) = min (s.f (FAB_PCNT_RETRANS p) + 1) (2 ^ 32 - 1) ∧ (∃ o, u.out = s.out ++ [o]) ∧
      regsBut [(FAB_PCNT_RETRANS p).a] s u) ∧
  (∀ t p x s, p < 72 → s.portUp p = true → (s.txOf p).find? (fun (y : TxFlit) => decide (y.due ≤ max s.now t)) = some x → 4 ≤ x.tries →
    Runs (.linkTimerExpire t p) s fun u => u.tx = s.tx ∧ u.f (FAB_PSTAT_STATE p) = 4 ∧ u.b FAB_EVT_LINK_FAIL = true ∧
      u.f (FAB_PERR_LINK_FAILS p) = min (s.f (FAB_PERR_LINK_FAILS p) + 1) (2 ^ 8 - 1) ∧
      ∃ r, u.records = s.records ++ [r] ∧ r.cause = 0x19 ∧ r.kind = 7 ∧ r.unit = p)

/-- R210, R304, R309, R314, R526: a CTRL flit for this package hands its message to the unit it is for; one for another package that
this one does not relay is a misroute with a record, and its message has no effect; without an image the flit goes on to the other slot of
the rack. -/
def Obligations.ControlFlitsAreDelivered : Prop :=
  (∀ t p f n c s, flitTaken s p 5 f → f.dst = s.f FAB_ID_PKG_ID →
    Runs (.ctrlFlit t p f (.forward c) (some n)) s fun u => u.fwdIn = s.fwdIn ++ [c] ∧ u.mem = s.mem) ∧
  (∀ t p f n bs s, flitTaken s p 5 f → f.dst = s.f FAB_ID_PKG_ID →
    Runs (.ctrlFlit t p f (.larkspur bs) (some n)) s fun u => u.lspIn = s.lspIn ++ [bs] ∧ u.fwdIn = s.fwdIn) ∧
  (∀ t p f n m k s, flitTaken s p 5 f → f.dst = s.f FAB_ID_PKG_ID →
    Runs (.ctrlFlit t p f (.free m k) (some n)) s fun u => sfind u.freeRep m = some k ∧ ∀ x, x ≠ m → sfind u.freeRep x = sfind s.freeRep x) ∧
  (∀ t p f n scope tag j r s, flitTaken s p 5 f → f.dst = s.f FAB_ID_PKG_ID → s.req scope tag = some r →
    Runs (.ctrlFlit t p f (.accepted scope tag j) (some n)) s fun u => u.req scope tag = some { r with count := some j }) ∧
  (∀ t p f n msg s, flitTaken s p 5 f → f.dst ≠ s.f FAB_ID_PKG_ID → s.active = true ∨ f.dst / 32 ≠ s.f FAB_ID_PKG_ID / 32 →
    Runs (.ctrlFlit t p f msg (some n)) s fun u => u.fwdIn = s.fwdIn ∧ u.lspIn = s.lspIn ∧ u.freeRep = s.freeRep ∧ u.reqs = s.reqs ∧
      u.mem = s.mem ∧ u.b FAB_EVT_MISROUTE = true ∧ ∃ r, u.records = s.records ++ [r] ∧ r.cause = 0x1D ∧ r.unit = p) ∧
  (∀ t p f n msg o s, flitTaken s p 5 f → s.relays f = true → o = s.onPort (s.rackPort f.dst) → s.b (FAB_PCTL_DRAINING o) = false →
    (s.prt o).farJob = 0 → (s.txOf o).length < 4096 →
    Runs (.ctrlFlit t p f msg (some n)) s fun u => u.records = s.records ∧ u.fwdIn = s.fwdIn ∧ u.lspIn = s.lspIn ∧ u.mem = s.mem ∧
      Out.ctrl o f.dst msg ∈ u.out)

/-- R303, R325 to R328: a port whose last beacon is 100 µs old sends the next; a received beacon gives a port its neighbour; the cable plan
is read from tier N and the ports are judged against it, again when the two seconds of a dark port are over. -/
def Obligations.BeaconsAndCablePlan : Prop :=
  (∀ t p s, s.power = .on → p < 72 → s.f FAB_ID_PKG_ID ≠ 0xFFFFF →
    Runs (.beaconSend t) s fun u =>
      (s.beacons p = true ∧ (s.prt p).beacon + 100000 ≤ max s.now t → (u.prt p).beacon = max s.now t ∧ ∃ f, Out.flit p f ∈ u.out ∧ f.typ = 4) ∧
      (¬ (s.beacons p = true ∧ (s.prt p).beacon + 100000 ≤ max s.now t) → u.prt p = s.prt p) ∧ regsBut [] s u) ∧
  (∀ t p f s, p < 72 → f.typ % 16 = 4 → s.portUp p = true → f.crc = crc32 (flitBody f) → (s.prt p).farEp = some f.epoch → f.nak = 0xFFFFFFFF →
    s.newTopo = none →
    Runs (.beacon t p f) s fun u => u.f (FAB_PNBR_KIND p) = pNum f.payload 0 1 % 2 ^ 2 ∧ u.f (FAB_PNBR_ID p) = pNum f.payload 4 4 % 2 ^ 20 ∧
      u.f (FAB_PNBR_PORT p) = pNum f.payload 2 2 % 2 ^ 16 ∧ u.staged = s.staged ∧ (u.prt p).expSeq = (s.prt p).expSeq) ∧
  (∀ t q a s, (s.at t).gate q 0x600010 = none → s.owns q 0x600010 = true → a % 64 = 0 → a % 2 ^ 42 + 576 ≤ 2 ^ 39 → s.newTopo = none →
    Runs (.cablePlanLoad t q a) s fun u => u.planAt = some (max s.now t) ∧ u.plan.length = 72 ∧
      (∀ p, p < 72 → u.plan.getD p 0 = s.num (a % 2 ^ 42 + 8 * p) 8) ∧ u.f FAB_PLAN_ADDR = a % 2 ^ 42 ∧ u.freeCount = s.freeCount) ∧
  (∀ t q a s, (s.at t).gate q 0x600010 = none → s.owns q 0x600010 = true → a % 64 ≠ 0 →
    Runs (.cablePlanLoad t q a) s fun u => u.f (TXNP_STAT_LAST_REJ q.code) = 0x06 ∧ u.plan = s.plan ∧ u.planAt = s.planAt ∧
      regsBut [portAddr q.code + 0x10] s u) ∧
  (∀ t a s, s.planAt = some a → a + 2000000000 ≤ max s.now t → s.f FAB_ID_PKG_ID ≠ 0xFFFFF →
    Runs (.promenadeTimeout t) s fun u => ∀ p, p < 72 → u.f (FAB_PSTAT_REPORT p) = (s.at t).verdictOf p) ∧
  (∀ t a s, s.planAt = some a → max s.now t < a + 2000000000 → exec (.promenadeTimeout t) s = .next (s.at t))

/-- R302, R303, R306, R309, R329, R330, R332, R405: the life of a port. Loss of light empties its replay store and raises its epoch, with a
record; steady light trains it; training ends UP, or DARK over a fibre that is too long; its EN is refused while it is in use, drains it
otherwise, and a drain that is done leaves it dark, training again where PEND_ON is set; a stand-in retrains into service and must match
within 60 µs. -/
def Obligations.PortsTrainAndDrain : Prop :=
  (∀ t p s, s.power = .on → p < 72 → 2 ≤ s.f (FAB_PSTAT_STATE p) →
    Runs (.lossOfLight t p) s fun u => u.f (FAB_PSTAT_STATE p) = 1 ∧ u.f (FAB_PSTAT_EPOCH p) = (s.f (FAB_PSTAT_EPOCH p) + 1) % 2 ^ 16 ∧
      u.f (FAB_PNBR_KIND p) = 0 ∧ u.tx = s.tx.filter (fun x => x.port ≠ p) ∧ (u.prt p).farEp = none ∧ u.b FAB_EVT_LOSS_OF_LIGHT = true ∧
      u.f (FAB_PERR_LOL p) = min (s.f (FAB_PERR_LOL p) + 1) (2 ^ 8 - 1) ∧
      ∃ r, u.records = s.records ++ [r] ∧ r.cause = 0x1A ∧ r.unit = p ∧
        (r.sev = 2 ↔ (p < 64 ∨ s.b (FAB_SPARE_EN (p - 64)) = true) ∧ s.portInUse p = true)) ∧
  (∀ t p s, s.power = .on → p < 72 → s.f (FAB_PSTAT_STATE p) ≤ 1 → s.mayTrain p = true →
    Runs (.lightSteady t p) s fun u => u.f (FAB_PSTAT_STATE p) = 2 ∧ regsBut [portRegs p] s u) ∧
  (∀ t p rtt far s, s.power = .on → p < 72 → s.f (FAB_PSTAT_STATE p) = 2 → (64 ≤ p → s.b (FAB_SPARE_EN (p - 64)) = false) → rtt ≤ 5200 →
    Runs (.portUp t p rtt far) s fun u => u.f (FAB_PSTAT_STATE p) = (if p < 64 then 3 else 5) ∧ u.f (FAB_PSTAT_RTT_NS p) = rtt ∧
      (u.prt p).farEp = some (far % 2 ^ 16) ∧ (u.prt p).nextSeq = 0 ∧ (u.prt p).expSeq = 0 ∧ u.tx = s.tx) ∧
  (∀ t p rtt far s, s.power = .on → p < 72 → s.f (FAB_PSTAT_STATE p) = 2 → (64 ≤ p → s.b (FAB_SPARE_EN (p - 64)) = false) → 5200 < rtt →
    Runs (.portUp t p rtt far) s fun u => u.f (FAB_PSTAT_STATE p) = 1 ∧ u.b FAB_EVT_TOO_LONG = true ∧ u.ports = s.ports) ∧
  (∀ t q p en s, p < 72 → (s.at t).gate q (portRegs p + 8) = none → s.owns q (portRegs p + 8) = true →
    (en = false → ¬ ((p < 64 ∨ s.b (FAB_SPARE_EN (p - 64)) = true) ∧ s.portInUse p = true)) →
    Runs (.portEnWrite t q p en) s fun u => regsBut [portRegs p + 8] s u ∧
      if s.b (FAB_PCTL_DRAINING p) then u.b (FAB_PCTL_PEND_ON p) = en ∧ u.f (FAB_PCTL_EN p) = s.f (FAB_PCTL_EN p)
      else u.b (FAB_PCTL_EN p) = en ∧ u.b (FAB_PCTL_DRAINING p) = (!en && decide (2 ≤ s.f (FAB_PSTAT_STATE p)))) ∧
  (∀ t q p s, p < 72 → (s.at t).gate q (portRegs p + 8) = none → s.owns q (portRegs p + 8) = true →
    (p < 64 ∨ s.b (FAB_SPARE_EN (p - 64)) = true) → s.portInUse p = true →
    Runs (.portEnWrite t q p false) s fun u => u.f (TXNP_STAT_LAST_REJ q.code) = 0x06 ∧ regsBut [portAddr q.code + 0x10] s u) ∧
  (∀ t p s, p < 72 → s.b (FAB_PCTL_DRAINING p) = true → s.txOf p = [] →
    Runs (.portDrainDone t p) s fun u => u.b (FAB_PCTL_DRAINING p) = false ∧ u.f (FAB_PSTAT_STATE p) = 1 ∧ u.b (FAB_PCTL_PEND_ON p) = false ∧
      u.b (FAB_PCTL_EN p) = (s.b (FAB_PCTL_EN p) || s.b (FAB_PCTL_PEND_ON p))) ∧
  (∀ t p rtt far s, 64 ≤ p → p < 72 → s.b (FAB_SPARE_EN (p - 64)) = true → s.f (FAB_PSTAT_STATE p) = 2 →
    Runs (.standinRetrainDone t p rtt far) s fun u => u.f (FAB_PSTAT_STATE p) = 6 ∧ (u.prt p).farEp = some (far % 2 ^ 16) ∧
      (u.prt p).standAt = some (max s.now t + 60000)) ∧
  (∀ t p rtt far s, p < 64 → s.f (FAB_PSTAT_STATE p) = 3 →
    Runs (.standinRetrainDone t p rtt far) s fun u => u.f (FAB_PSTAT_STATE p) = 3 ∧ (u.prt p).farEp = some (far % 2 ^ 16) ∧
      u.f (FAB_PSTAT_EPOCH p) = (s.f (FAB_PSTAT_EPOCH p) + 1) % 2 ^ 16 ∧ u.tx = s.tx.filter (fun x => x.port ≠ p)) ∧
  (∀ t p d s, (s.prt p).standAt = some d → d ≤ max s.now t →
    Runs (.standinFail t p) s fun u => (u.prt p).standAt = none ∧ u.b FAB_EVT_STANDIN_FAIL = true ∧
      ∃ r, u.records = s.records ++ [r] ∧ r.sev = 2 ∧ r.cause = 0x1B ∧ r.kind = 7 ∧ r.unit = p ∧ r.detail = s.stoodFor p)
/-- R291, R292, R405 to R407: the network's clock regions and the reset and power of parts. A slip or a lost lock raises a record, a lost
lock once; a reset raises the part's epoch, and ends; a late reply during an active image is a record; enables are set at once, cleared
through a drain, and refused while the unit is in use; at the end of a drain the unit is on again where PEND_ON is set. -/
def Obligations.PartsResetAndPower : Prop :=
  (∀ t link s, s.power = .on → crossing link = true →
    Runs (.cdcSlip t link) s fun u => regsBut [] s u ∧ ∃ r, u.records = s.records ++ [r] ∧ r.sev = 2 ∧ r.cause = 0x13 ∧ r.kind = 6 ∧ r.unit = link) ∧
  (∀ t n s, s.power = .on → n < 32 → n ∉ s.pllLost →
    Runs (.pllUnlock t n) s fun u => u.pllLost = s.pllLost ++ [n] ∧ regsBut [] s u ∧
      ∃ r, u.records = s.records ++ [r] ∧ r.sev = 2 ∧ r.cause = 0x14 ∧ r.kind = 5 ∧ r.unit = n) ∧
  (∀ t n s, n ∈ s.pllLost → exec (.pllUnlock t n) s = .next (s.at t)) ∧
  (∀ t q k i s, (s.at t).gate q 0xA00058 = none → s.owns q 0xA00058 = true → (k, i) = s.epSel q → k < 3 →
    Runs (.unitReset t q false) s fun u => u.b (RCV_EPDATA_IN_RESET k i) = true ∧
      u.f (RCV_EPDATA_EPOCH k i) = (s.f (RCV_EPDATA_EPOCH k i) + 1) % 2 ^ 16 ∧ regsBut [epochBank k i] s u) ∧
  (∀ t q k i s, (s.at t).gate q 0xA00058 = none → s.owns q 0xA00058 = true → (k, i) = s.epSel q → k < 3 → s.active = true →
    Runs (.unitReset t q true) s fun u => u.b (RCV_EPDATA_IN_RESET k i) = true ∧
      ∃ r, u.records = s.records ++ [r] ∧ r.sev = 2 ∧ r.cause = 0x25 ∧ r.unit = i ∧ r.detail = s.f (RCV_EPDATA_EPOCH k i)) ∧
  (∀ t k i s, k < 4 → s.b (RCV_EPDATA_IN_RESET k i) = true →
    Runs (.unitResetEnd t k i) s fun u => u.b (RCV_EPDATA_IN_RESET k i) = false ∧ u.f (RCV_EPDATA_EPOCH k i) = s.f (RCV_EPDATA_EPOCH k i) ∧
      regsBut [epochBank k i] s u) ∧
  (∀ t q v c n s, (s.at t).gate q 0xA00068 = none → s.owns q 0xA00068 = true → c = s.f ⟨selCopy 0xA00060 q.code, 0, 10⟩ →
    (∀ k, k < 18 → v.toNat.testBit k = false → s.usesUnit c k = false) → n < 18 →
    Runs (.unitEnWrite t q v) s fun u => regsBut [upwrBank c] s u ∧
      if s.b (upDraining c n) then u.b (upPend c n) = v.toNat.testBit n ∧ u.b (upEn c n) = s.b (upEn c n)
      else u.b (upEn c n) = v.toNat.testBit n ∧ u.b (upDraining c n) = (s.b (upEn c n) && !v.toNat.testBit n)) ∧
  (∀ t q v c n s, (s.at t).gate q 0xA00068 = none → s.owns q 0xA00068 = true → c = s.f ⟨selCopy 0xA00060 q.code, 0, 10⟩ → n < 18 →
    v.toNat.testBit n = false → s.usesUnit c n = true →
    Runs (.unitEnWrite t q v) s fun u => u.f (TXNP_STAT_LAST_REJ q.code) = 0x06 ∧ regsBut [portAddr q.code + 0x10] s u) ∧
  (∀ t c n s, c < 1024 → n < 18 → s.b (upDraining c n) = true → (∀ h ∈ s.held, h.group < 16) →
    Runs (.unitDrainDone t c n) s fun u => u.b (upDraining c n) = false ∧ u.b (upPend c n) = false ∧
      u.b (upEn c n) = (s.b (upEn c n) || s.b (upPend c n)) ∧ (s.b (upPend c n) = true → u.b RCV_EVT_PEND_APPLIED = true) ∧
      (n < 8 → u.b (CNV_STAT_POWERED (8 * c + n)) = false ∧ ∀ h ∈ u.held, h.tile ≠ 8 * c + n))

/-- R345, R346 to R352: pooled memory. A request is served only when no check of R347 refuses it; the server answers on the port it came
on. A command asks for three lines at a time, stores what comes back, and ends with DONE_BYTES and a status: the answer's, NO_ROUTE without
a port, TIMEOUT after 10 ms, or after an ABORT once nothing is outstanding. -/
def Obligations.PooledMemoryIsServedAndAsked : Prop :=
  (∀ t p f m lines s, flitTaken s p 6 f → f.dst = s.f FAB_ID_PKG_ID → m = poolOf f.payload → m.op = 1 → s.poolCode m lines = 0 → s.onPort p = p →
    s.b (FAB_PCTL_DRAINING p) = false → (s.txOf p).length < 4096 → (s.prt p).farJob = 0 →
    Runs (.read t p f lines) s fun u => u.f MEM_PCNT_SERVED = min (s.f MEM_PCNT_SERVED + 1) (2 ^ 32 - 1) ∧ u.mem = s.mem ∧
      ∃ x ∈ u.tx, x.port = p ∧ x.flit.typ = 6 ∧ x.flit.dst = m.src ∧ x.flit.payload = poolBytes ⟨3, 0, m.lines, m.tag, m.gaddr,
        s.f FAB_ID_PKG_ID, s.bytes (tierAddr (bits m.gaddr 42 2 == 1) (m.gaddr % 2 ^ 42)) (64 * m.lines)⟩) ∧
  (∀ t p f m lines s, flitTaken s p 6 f → f.dst = s.f FAB_ID_PKG_ID → m = poolOf f.payload → m.op = 1 → s.poolCode m lines ≠ 0 →
    Runs (.read t p f lines) s fun u => u.f MEM_PCNT_REFUSED = min (s.f MEM_PCNT_REFUSED + 1) (2 ^ 32 - 1) ∧ u.b MEM_EVT_POOL_REFUSED = true ∧
      u.f MEM_PCNT_SERVED = s.f MEM_PCNT_SERVED ∧ u.mem = s.mem) ∧
  (∀ t p f m a s, flitTaken s p 6 f → f.dst = s.f FAB_ID_PKG_ID → m = poolOf f.payload → m.op = 2 → a = tierAddr (bits m.gaddr 42 2 == 1) (m.gaddr % 2 ^ 42) →
    s.poolCode m [] = 0 →
    Runs (.write t p f) s fun u => u.f MEM_PCNT_SERVED = min (s.f MEM_PCNT_SERVED + 1) (2 ^ 32 - 1) ∧ memBut a m.data.length s u ∧
      ∀ i, i < m.data.length → u.byte (a + i) = m.data.getD i 0 % 256) ∧
  (∀ t p f m s, flitTaken s p 6 f → f.dst = s.f FAB_ID_PKG_ID → m = poolOf f.payload → m.op = 2 → s.poolCode m [] ≠ 0 →
    Runs (.write t p f) s fun u => u.mem = s.mem ∧ u.f MEM_PCNT_REFUSED = min (s.f MEM_PCNT_REFUSED + 1) (2 ^ 32 - 1)) ∧
  (∀ t i op q slot p s, (op = 1 ∧ i = .poolCmdRead t q slot) ∨ (op = 2 ∧ i = .poolCmdWrite t q slot) → slot < 8 →
    (s.at t).gate q (pqSlot slot + 0x18) = none → s.owns q (pqSlot slot + 0x18) = true → s.poolMay slot = true →
    (s.at t).poolPort slot = some p → s.f (MEM_PQLEN_LEN slot) ≤ 192 →
    Runs i s fun u => u.f (MEM_PQCMD_STATUS slot) = 0x0D ∧ u.f (MEM_PQCMD_DONE_BYTES slot) = 0 ∧ u.pqTag = (s.pqTag + 1) % 2 ^ 32 ∧
      u.mem = s.mem ∧ sfind u.pool slot = some ⟨op, s.f (MEM_PQLEN_LEN slot), [(s.pqTag, 0, s.f (MEM_PQLEN_LEN slot), max s.now t, s.onPort p)], [], false, 0⟩) ∧
  (∀ t i q slot s, i = .poolCmdRead t q slot ∨ i = .poolCmdWrite t q slot → slot < 8 → (s.at t).gate q (pqSlot slot + 0x18) = none →
    s.owns q (pqSlot slot + 0x18) = true → s.poolMay slot = false →
    Runs i s fun u => u.f (TXNP_STAT_LAST_REJ q.code) = 0x06 ∧ u.pool = s.pool ∧ regsBut [portAddr q.code + 0x10] s u) ∧
  (∀ t i q slot s, i = .poolCmdRead t q slot ∨ i = .poolCmdWrite t q slot → slot < 8 → (s.at t).gate q (pqSlot slot + 0x18) = none →
    s.owns q (pqSlot slot + 0x18) = true → s.poolMay slot = true → (s.at t).poolPort slot = none →
    Runs i s fun u => u.f (MEM_PQCMD_STATUS slot) = 0x0C ∧ sfind u.pool slot = none ∧ u.b MEM_EVT_PQ_DONE = true ∧ u.tx = s.tx) ∧
  (∀ t p f m slot tag off n at_ o asked parts s, flitTaken s p 6 f → f.dst = s.f FAB_ID_PKG_ID → m = poolOf f.payload → m.op = 3 → m.status = 0 → m.tag = tag → slot < 8 →
    s.pool = [(slot, ⟨1, asked, [(tag, off, n, at_, o)], parts, false, 0⟩)] → s.f (MEM_PQLEN_LEN slot) ≤ asked →
    Runs (.readRsp t p f) s fun u => u.pool = [] ∧ u.f (MEM_PQCMD_STATUS slot) = 0 ∧ u.b MEM_EVT_PQ_DONE = true ∧
      u.f (MEM_PQCMD_DONE_BYTES slot) = leading (parts ++ [(off, n)]) (parts.length + 1) 0 % 2 ^ 40 ∧
      memBut (s.f (MEM_PQLOCAL_LOCAL slot) + off) (m.data.take n).length s u ∧
      ∀ i, i < (m.data.take n).length → u.byte (s.f (MEM_PQLOCAL_LOCAL slot) + off + i) = m.data.getD i 0 % 256) ∧
  (∀ t p f m slot tag off n at_ o asked parts s, flitTaken s p 6 f → f.dst = s.f FAB_ID_PKG_ID → m = poolOf f.payload → m.op = 4 → m.status = 0 → m.tag = tag → slot < 8 →
    s.pool = [(slot, ⟨2, asked, [(tag, off, n, at_, o)], parts, false, 0⟩)] → s.f (MEM_PQLEN_LEN slot) ≤ asked →
    Runs (.writeRsp t p f) s fun u => u.pool = [] ∧ u.f (MEM_PQCMD_STATUS slot) = 0 ∧ u.b MEM_EVT_PQ_DONE = true ∧ u.mem = s.mem ∧
      u.f (MEM_PQCMD_DONE_BYTES slot) = leading (parts ++ [(off, n)]) (parts.length + 1) 0 % 2 ^ 40) ∧
  (∀ t q slot r s, slot < 8 → (s.at t).gate q (pqSlot slot + 0x18) = none → s.owns q (pqSlot slot + 0x18) = true → s.poolRun slot = some r →
    Runs (.poolCmdAbort t q slot) s fun u =>
      if r.wait = [] then sfind u.pool slot = none ∧ u.f (MEM_PQCMD_STATUS slot) = r.last % 2 ^ 8
      else sfind u.pool slot = some { r with stop := true } ∧ regsBut [] s u) ∧
  (∀ t slot r s, slot < 8 → s.poolRun slot = some r → (∃ w ∈ r.wait, w.2.2.2.1 + 10000000 ≤ max s.now t) →
    Runs (.poolTimeout t slot) s fun u => sfind u.pool slot = none ∧ u.f (MEM_PQCMD_STATUS slot) = 0x0B ∧ u.b MEM_EVT_PQ_DONE = true ∧
      u.mem = s.mem)

/-- R206, R343 to R345: stacks and channels. A channel's enable trains it or drains it, and clearing it is refused while an image is
active; the end of a drain leaves it OFF or trains it again; training ends UP with its size, ABSENT, or FAILED with a record; a channel or
a stack that is lost changes state with a record; the patrol counts what it corrects. -/
def Obligations.StacksAndChannelsChangeState : Prop :=
  (∀ t q c s, c < 16 → (s.at t).gate q (0x800200 + 8 * c) = none → s.owns q (0x800200 + 8 * c) = true → s.b (MEM_FCH_DRAINING c) = false →
    Runs (.fchEnWrite t q c true) s fun u => u.b (MEM_FCH_EN c) = true ∧ regsBut [0x800200 + 8 * c] s u ∧
      (s.f (MEM_FCH_STATE c) = 0 → u.f (MEM_FCH_STATE c) = 1 ∧ u.f (MEM_FCH_EPOCH c) = (s.f (MEM_FCH_EPOCH c) + 1) % 2 ^ 16) ∧
      (s.f (MEM_FCH_STATE c) ≠ 0 → u.f (MEM_FCH_STATE c) = s.f (MEM_FCH_STATE c))) ∧
  (∀ t q c s, c < 16 → (s.at t).gate q (0x800200 + 8 * c) = none → s.owns q (0x800200 + 8 * c) = true → s.b (MEM_FCH_DRAINING c) = true →
    Runs (.fchEnWrite t q c true) s fun u => u.b (MEM_FCH_PEND_ON c) = true ∧ u.f (MEM_FCH_STATE c) = s.f (MEM_FCH_STATE c) ∧
      regsBut [0x800200 + 8 * c] s u) ∧
  (∀ t q c s, c < 16 → (s.at t).gate q (0x800200 + 8 * c) = none → s.owns q (0x800200 + 8 * c) = true → s.active = false →
    Runs (.fchEnWrite t q c false) s fun u => u.b (MEM_FCH_EN c) = false ∧ u.b (MEM_FCH_PEND_ON c) = false ∧ regsBut [0x800200 + 8 * c] s u ∧
      u.b (MEM_FCH_DRAINING c) = (s.b (MEM_FCH_DRAINING c) || decide (1 ≤ s.f (MEM_FCH_STATE c) ∧ s.f (MEM_FCH_STATE c) ≤ 3))) ∧
  (∀ t q c s, c < 16 → (s.at t).gate q (0x800200 + 8 * c) = none → s.owns q (0x800200 + 8 * c) = true → s.active = true →
    Runs (.fchEnWrite t q c false) s fun u => u.f (TXNP_STAT_LAST_REJ q.code) = 0x06 ∧ regsBut [portAddr q.code + 0x10] s u) ∧
  (∀ t c s, c < 16 → s.b (MEM_FCH_DRAINING c) = true →
    Runs (.channelDrainDone t c) s fun u => u.b (MEM_FCH_DRAINING c) = false ∧ u.b (MEM_FCH_PEND_ON c) = false ∧ regsBut [0x800200 + 8 * c] s u ∧
      u.f (MEM_FCH_STATE c) = (if s.b (MEM_FCH_PEND_ON c) then 1 else 0) ∧ u.b (MEM_FCH_EN c) = (s.b (MEM_FCH_EN c) || s.b (MEM_FCH_PEND_ON c))) ∧
  (∀ t c z s, c < 16 → s.f (MEM_FCH_STATE c) = 1 →
    Runs (.channelTrainDone t c (some z)) s fun u => u.f (MEM_FCH_STATE c) = (if z = 0 then 4 else 2) ∧ u.f (MEM_FCH_SIZE c) = z % 2 ^ 4 ∧
      regsBut [0x800200 + 8 * c] s u) ∧
  (∀ t c s, c < 16 → s.f (MEM_FCH_STATE c) = 1 →
    Runs (.channelTrainDone t c none) s fun u => u.f (MEM_FCH_STATE c) = 3 ∧ u.b MEM_EVT_CH_FAIL = true ∧
      ∃ r, u.records = s.records ++ [r] ∧ r.cause = 0x23 ∧ r.kind = 9 ∧ r.unit = c) ∧
  (∀ t c reset s, c < 16 → s.f (MEM_FCH_STATE c) = 2 → s.active = false →
    Runs (.tfLost t c reset) s fun u => u.f (MEM_FCH_STATE c) = (if reset then 1 else 3) ∧ u.f MEM_ERRCAUSE_CAUSE = 4 ∧ u.mem = s.mem ∧
      u.f (MEM_FCH_EPOCH c) = (if reset then (s.f (MEM_FCH_EPOCH c) + 1) % 2 ^ 16 else s.f (MEM_FCH_EPOCH c)) ∧
      ∃ r, u.records = s.records ++ [r] ∧ r.cause = 0x22 ∧ r.kind = 9 ∧ r.unit = c) ∧
  (∀ t k s, k < 8 → s.power = .on → s.f (MEM_NSTK_STATE k) = 2 →
    Runs (.hbmLost t k) s fun u => u.f (MEM_NSTK_STATE k) = 3 ∧ u.f MEM_ERRCAUSE_CAUSE = 2 ∧ u.b MEM_EVT_STACK_FAIL = true ∧
      ∃ r, u.records = s.records ++ [r] ∧ r.sev = 3 ∧ r.cause = 0x20 ∧ r.kind = 8 ∧ r.unit = k) ∧
  (∀ t k a s, k < 8 → s.power = .on → s.f (MEM_NSTK_STATE k) = 2 → a < 2 ^ 39 → s.stackOf a = k →
    Runs (.patrolScrub t k [a]) s fun u => u.f (MEM_NSTK_CORRECTED k) = min (s.f (MEM_NSTK_CORRECTED k) + 1) (2 ^ 32 - 1) ∧
      u.b MEM_EVT_CORRECTED = true ∧ u.mem = s.mem ∧ u.records = s.records)

/-- R412, R495, R506 to R508: the window and Larkspur's port. A BAR4 access reaches the enabled segment's tier; one that reaches nothing is
counted, and a read of it gives 0; an uncorrectable line reads as all ones; while an image is active a write of the protected areas is
refused, to the host and to Larkspur; a write of Larkspur's past the end of tier N names no memory and stops. -/
def Obligations.WindowAndFirmwareAccess : Prop :=
  (∀ t off n isF a s, (s.at t).gate .host 0x800000 = none → s.winAt off n = some (isF, a) →
    Runs (.bar4Read t off n []) s fun u => u.lastRead = BitVec.ofNat 64 (s.num (tierAddr isF a) (min n 8)) ∧ u.mem = s.mem ∧ regsBut [] s u) ∧
  (∀ t off n isF a l s, (s.at t).gate .host 0x800000 = none → s.winAt off n = some (isF, a) → a / 64 * 64 ≤ l → l < a + n →
    Runs (.bar4Read t off n [l]) s fun u => u.lastRead = BitVec.ofNat 64 (2 ^ 64 - 1) ∧ u.mem = s.mem ∧ u.records = s.records) ∧
  (∀ t off n lines s, (s.at t).gate .host 0x800000 = none → s.winAt off n = none →
    Runs (.bar4Read t off n lines) s fun u => u.lastRead = 0 ∧ u.b SYS_EVT_HOST_ERR = true ∧
      u.f SYS_HOSTERR_WINDOW = min (s.f SYS_HOSTERR_WINDOW + 1) (2 ^ SYS_HOSTERR_WINDOW.w - 1)) ∧
  (∀ t off bs isF a s, (s.at t).gate .host 0x800000 = none → s.winAt off bs.length = some (isF, a) →
    (s.active = true → isF = false → meets (queueArea :: s.protected) a bs.length = false) →
    Runs (.bar4Write t off bs) s fun u => (∀ i, i < bs.length → u.byte (tierAddr isF a + i) = bs.getD i 0 % 256) ∧
      memBut (tierAddr isF a) bs.length s u ∧ regsBut [] s u) ∧
  (∀ t off bs s, (s.at t).gate .host 0x800000 = none → (s.winAt off bs.length = none ∨
      ∃ a, s.winAt off bs.length = some (false, a) ∧ s.active = true ∧ meets (queueArea :: s.protected) a bs.length = true) →
    Runs (.bar4Write t off bs) s fun u => u.mem = s.mem ∧ u.b SYS_EVT_HOST_ERR = true ∧
      u.f SYS_HOSTERR_WINDOW = min (s.f SYS_HOSTERR_WINDOW + 1) (2 ^ SYS_HOSTERR_WINDOW.w - 1)) ∧
  (∀ t off bs s, s.power = .on → s.f MGT_LSTATE_STATE ≠ 0 → s.f MGT_LSTATE_STATE ≠ 4 → (s.active = true → meets s.protected off bs.length = false) →
    off + bs.length ≤ 2 ^ 39 →
    Runs (.larkspurTierWrite t off bs) s fun u => (∀ i, i < bs.length → u.byte (off + i) = bs.getD i 0 % 256) ∧ memBut off bs.length s u ∧
      regsBut [] s u) ∧
  (∀ t off bs s, s.power = .on → s.f MGT_LSTATE_STATE ≠ 0 → s.f MGT_LSTATE_STATE ≠ 4 → s.active = true → meets s.protected off bs.length = true →
    Runs (.larkspurTierWrite t off bs) s fun u => u.mem = s.mem ∧ u.f MGT_ACL_LAST = off % 2 ^ MGT_ACL_LAST.w ∧
      u.f MGT_ACL_DENIED = min (s.f MGT_ACL_DENIED + 1) (2 ^ MGT_ACL_DENIED.w - 1)) ∧
  (∀ t off bs s, s.power = .on → s.f MGT_LSTATE_STATE ≠ 0 → s.f MGT_LSTATE_STATE ≠ 4 → (s.active = true → meets s.protected off bs.length = false) →
    bs ≠ [] → 2 ^ 39 < off + bs.length → exec (.larkspurTierWrite t off bs) s = .fault .badAddress)
/-- R376 to R380, R478, R511: a record that reaches the collector is counted under its severity and cause, goes into the log ring while
there is room, and sets its severity's event; without an active image a JOB_FAULT is taken as CORRECTED; in a job a JOB_FAULT fills SYS_ERR
and is kept for the round; a FATAL one halts the package. SYS_ERR is read through a capture. -/
def Obligations.ErrorRecordsAreCollected : Prop :=
  (∀ t i r s, s.records[i]? = some r → r.sev = 0 → r.cause < 256 → s.logSeen.contains (r.cause, r.kind * 2 ^ 32 + r.unit, r.frame) = false →
    s.f CHK_LOGSZ_LOG2 = 0 →
    Runs (.errorRecord t i) s fun u => u.records = s.records.eraseIdx i ∧ u.f CHK_SEV_CORRECTED = min (s.f CHK_SEV_CORRECTED + 1) (2 ^ 16 - 1) ∧
      u.f (CHK_CDATA_COUNT r.cause) = min (s.f (CHK_CDATA_COUNT r.cause) + 1) (2 ^ 32 - 1) ∧ u.f (CHK_CDATA_LAST_UNIT r.cause) = r.unit % 2 ^ 32 ∧
      u.b CHK_EVT_CORRECTED = true ∧ (r.cause, r.kind * 2 ^ 32 + r.unit, r.frame) ∈ u.logSeen ∧ u.mem = s.mem ∧ u.halted = s.halted ∧
      regsBut ([0x900030, causeBank r.cause] ++ CHK_EVT_CORRECTED.evtKeys) s u) ∧
  (∀ t i r s, s.records[i]? = some r → r.sev = 2 → r.cause < 256 → s.active = false →
    Runs (.errorRecord t i) s fun u => u.f CHK_SEV_CORRECTED = min (s.f CHK_SEV_CORRECTED + 1) (2 ^ 16 - 1) ∧
      u.f CHK_SEV_JOB_FAULT = s.f CHK_SEV_JOB_FAULT ∧ u.qdr = s.qdr ∧ u.halted = s.halted) ∧
  (∀ t i r n a s, s.records[i]? = some r → r.sev = 1 → r.cause < 256 → n = s.f CHK_LOGSZ_LOG2 → n ≠ 0 →
    16 ≤ 2 ^ n - (s.f CHK_LOGHEAD_HEAD + 2 ^ 32 - s.f CHK_LOGTAIL_TAIL) % 2 ^ 32 → a = s.f CHK_LOGBASE_ADDR + 32 * (s.f CHK_LOGHEAD_HEAD % 2 ^ n) →
    Runs (.errorRecord t i) s fun u => holdsBytes u a ((s.at t).recBytes r) ∧ memBut a 32 s u ∧
      u.f CHK_LOGHEAD_HEAD = (s.f CHK_LOGHEAD_HEAD + 1) % 2 ^ 32 ∧ u.f CHK_SEV_DEGRADED = min (s.f CHK_SEV_DEGRADED + 1) (2 ^ 16 - 1)) ∧
  (∀ t i r s, s.records[i]? = some r → r.sev = 2 → r.cause < 256 → s.active = true → s.failSolo = false → s.qdr.told = true →
    Runs (.errorRecord t i) s fun u => u.f CHK_SEV_JOB_FAULT = min (s.f CHK_SEV_JOB_FAULT + 1) (2 ^ 16 - 1) ∧ u.b CHK_EVT_JOB_FAULT = true ∧
      u.qdr.mine = s.qdr.mine ++ [r] ∧ u.f CHK_SFROM_FRAME = min (s.f CHK_SFROM_FRAME) r.sfrom ∧
      ∀ w, w < 4 → u.f (SYS_ERR_REC w) = leNat ((((s.at t).recBytes r).drop (8 * w)).take 8) % 2 ^ 64) ∧
  (∀ t i r s, s.records[i]? = some r → r.sev = 3 → r.cause < 256 → r.cause ≠ 0x29 → s.active = false →
    Runs (.errorRecord t i) s fun u => u.halted = true ∧ u.f SYS_STATUS_PHASE = 6 ∧ u.f CHK_SEV_FATAL = min (s.f CHK_SEV_FATAL + 1) (2 ^ 16 - 1) ∧
      u.b CHK_EVT_FATAL = true) ∧
  (∀ t i s, s.records[i]? = none → exec (.errorRecord t i) s = .next (s.at t)) ∧
  (∀ t s, s.power = .on → Runs (.sysErrRead t 0) s fun u => u.errCap = (List.range 4).map (fun i => s.f (SYS_ERR_REC i)) ∧
      u.lastRead = BitVec.ofNat 64 (s.f (SYS_ERR_REC 0)) ∧ regsBut [] s u) ∧
  (∀ t w s, s.power = .on → w ≠ 0 →
    Runs (.sysErrRead t w) s fun u => u.errCap = s.errCap ∧ u.lastRead = BitVec.ofNat 64 (s.errCap.getD w 0) ∧ regsBut [] s u)

/-- R450 to R455, R460 to R462, R464: sensors and the housekeeping ADC. A sample point takes the readings that are due; LEVEL_T is then
the highest sensor level, and the throttle request the highest of its three sources; between sample points nothing is sampled. A
cross-check is counted, and refused while an image is neither absent, READY nor FAILED. A conversion gives its channel's result, stamp
and extremes; TRK_CLR starts them afresh. -/
def Obligations.SensorsAreSampled : Prop :=
  (∀ t reads s, s.power = .on → max s.now t % 100000 = 0 → (∀ c ∈ s.progQ, c.arr < 32768) →
    Runs (.sensorSample t reads) s fun u =>
      u.f THM_STATE_LEVEL_T = ((List.range 296).map (fun x => u.f (THM_SDATA_LEVEL x))).foldl max 0 ∧
      u.f PAV_THR_REQUEST = max (u.f THM_STATE_LEVEL_T) (max (s.f PWR_STATE_LEVEL_P) (s.f THM_CFG_FORCE_LEVEL)) ∧ u.mem = s.mem) ∧
  (∀ t reads x v s, s.power = .on → max s.now t % 100000 = 0 → (∀ c ∈ s.progQ, c.arr < 32768) → x < 264 → (s.at t).sampleDue x = true →
    sfind reads x = some v → -160 ≤ v → v ≤ 600 → s.sensorOk x = true →
    Runs (.sensorSample t reads) s fun u => u.fi (THM_SDATA_READ x) = v ∧ u.fi (THM_SDATA_USED x) = v ∧ u.sensorOk x = true ∧
      sfind u.heat.sampled x = some (max s.now t) ∧ u.f (THM_SDATA_LEVEL x) = nextLevel (s.f (THM_SDATA_LEVEL x)) v (sensorEntry x)) ∧
  (∀ t reads s, s.power ≠ .on ∨ max s.now t % 100000 ≠ 0 → exec (.sensorSample t reads) s = .next (s.at t)) ∧
  (∀ t q s, (s.at t).gate q 0xE00048 = none → s.owns q 0xE00048 = true → s.imgSt = 0 ∨ s.imgSt = 5 ∨ s.imgSt = 7 →
    Runs (.xchkStart t q) s fun u => u.f THM_XCHK_CHECKS = min (s.f THM_XCHK_CHECKS + 1) (2 ^ 16 - 1) ∧
      ∀ x, x < 296 → s.sensorOk x = false ∨ sfind s.heat.sampled x = none → u.f (THM_SDATA_STATE x) = s.f (THM_SDATA_STATE x)) ∧
  (∀ t q s, (s.at t).gate q 0xE00048 = none → s.owns q 0xE00048 = true → s.imgSt ≠ 0 → s.imgSt ≠ 5 → s.imgSt ≠ 7 →
    Runs (.xchkStart t q) s fun u => u.f (TXNP_STAT_LAST_REJ q.code) = 0x06 ∧ regsBut [portAddr q.code + 0x10] s u) ∧
  (∀ t n c rest start s, s.power = .on → start = max s.now t / 100000 * 100000 → s.heat.hkStart ≠ some start → n < 14 →
    (List.range 48).filter (fun k => bits (s.f HKA_MASK_MASK) k 1 == 1) = n :: rest → start + 5000 ≤ max s.now t →
    Runs (.hkScan t [(n, c)]) s fun u => u.f (HKA_RES_RESULT n) = min c 4095 ∧ u.f (HKA_RES_STAMP n) = (start + 5000) % 2 ^ 32 ∧
      u.f HKA_STAT_CHANNEL = n ∧ u.f (HKA_TRK_MIN n) = min (min c 4095) (s.f (HKA_TRK_MIN n)) ∧
      u.f (HKA_TRK_MAX n) = max (min c 4095) (s.f (HKA_TRK_MAX n)) ∧ u.heat.hkStart = some start ∧ u.heat.hkDone = 1 ∧
      u.b HKA_STAT_POWERED = !rest.isEmpty) ∧
  (∀ t q n s, n < 48 → (s.at t).gate q (hkaChan n + 8) = none → s.owns q (hkaChan n + 8) = true → (s.at t).endsNow n = false →
    Runs (.trkClr t q n) s fun u => u.f (HKA_TRK_MIN n) = 0xFFF ∧ u.f (HKA_TRK_MAX n) = 0 ∧ regsBut [hkaChan n + 8] s u)

/-- R411, R421, R443, R444, R447, R456 to R458, R466, R467: power. With no Yarrow slot fit to run the ROM holds the package; otherwise it
comes up to its transit frames at the count given, with cells and fuses as they were and memory and transactions empty. A package reset
takes its key; an input fault, a rail fault and a confirmed critical temperature take the power away, the last two until the latch is
cleared, and leave the shutdown record; a failed VCORE takes its region's clock. -/
def Obligations.PowerComesAndGoes : Prop :=
  (∀ t yOk lOk hbm rec reads s, s.power = .off → pickSlot s.fuses.yarSlot (fitSlots s.fuses.yarSlot yOk s.fuses.floorY) = none →
    Runs (.powerOn t yOk lOk hbm rec reads) s fun u => u.power = .rom ∧ u.now = t ∧ u.cells = s.cells ∧ u.fuses = s.fuses ∧ u.mem = [] ∧
      u.f PWR_STATE_RAIL_OK = 0x81) ∧
  (∀ t yOk lOk hbm reads y s, s.power = .off → pickSlot s.fuses.yarSlot (fitSlots s.fuses.yarSlot yOk s.fuses.floorY) = some y →
    Runs (.powerOn t yOk lOk hbm true reads) s fun u => u.power = .on ∧ u.now = t ∧ u.cells = s.cells ∧ u.fuses = s.fuses ∧ u.mem = [] ∧
      u.txnOpen = [] ∧ u.txnPend = [] ∧ u.f PAV_TICK_TICK_STAMP = t % 2 ^ 64 ∧ u.f SYS_STATUS_PHASE = 2 ∧ u.audit.hold = false) ∧
  (∀ t yOk lOk hbm reads y s, s.power = .off → pickSlot s.fuses.yarSlot (fitSlots s.fuses.yarSlot yOk s.fuses.floorY) = some y →
    Runs (.powerOn t yOk lOk hbm false reads) s fun u => u.power = .on ∧ u.audit.hold = true ∧ u.audit.badRec = true ∧
      (∃ r ∈ u.records, r.sev = 3 ∧ r.cause = 0x29 ∧ r.detail = 0xFF) ∧ ∀ T, T < 8192 → u.f (CNV_CAL_CAL_EN T) = 0) ∧
  (∀ t yOk lOk hbm rec reads s, s.power ≠ .off → exec (.powerOn t yOk lOk hbm rec reads) s = .next (s.at t)) ∧
  (∀ t q s, (s.at t).gate q 0x10 = none → s.owns q 0x10 = true →
    Runs (.packageReset t q 0x5A08) s fun u => u.power = .off ∧ u.mem = [] ∧ u.cells = s.cells ∧ u.fuses = s.fuses ∧ u.txnPend = [] ∧
      u.reg 0xD00058 = s.reg 0xD00058) ∧
  (∀ t q key s, (s.at t).gate q 0x10 = none → s.owns q 0x10 = true → key ≠ 0x5A08 → exec (.packageReset t q key) s = .next (s.at t)) ∧
  (∀ t s, s.power = .on ∨ s.power = .rom → Runs (.inputFault t) s fun u => u.power = .off ∧ u.mem = [] ∧ u.cells = s.cells ∧ u.fuses = s.fuses ∧
      u.reg 0xD00058 = s.reg 0xD00058) ∧
  (∀ t rail w s, s.power = .on → rail < 10 →
    Runs (.railFault t rail w) s fun u => u.power = .latched ∧ u.mem = [] ∧ u.cells = s.cells ∧ u.fuses = s.fuses ∧
      (w = true ∨ (rail ≠ 0 ∧ rail ≠ 7) → u.f PWR_LASTOFF_CAUSE = 2 ∧ u.f PWR_LASTOFF_INDEX = rail ∧ u.f PWR_LASTOFF_READING = 0) ∧
      (w = false ∧ (rail = 0 ∨ rail = 7) → u.reg 0xD00058 = s.reg 0xD00058)) ∧
  (∀ t a s, s.power = .on → s.heat.shut = some a → a + 1000000 ≤ max s.now t →
    Runs (.shutdownRailsOff t) s fun u => u.power = .latched ∧ u.mem = [] ∧ u.fuses = s.fuses ∧ u.cells = s.cells ∧
      u.reg 0xD00058 = s.reg 0xD00058) ∧
  (∀ t s, s.power = .latched → Runs (.latchClear t) s fun u => u.power = .off ∧ u.reg 0xD00058 = s.reg 0xD00058 ∧ u.fuses = s.fuses ∧
      u.cells = s.cells) ∧
  (∀ t n s, s.power = .on → n < 32 → n ∉ s.pllLost →
    Runs (.vcoreFail t n) s fun u => bits (u.f PWR_STATE_VCORE_OK) n 1 = 0 ∧ u.b PWR_EVT_VCORE_FAIL = true ∧ u.pllLost = s.pllLost ++ [n] ∧
      (∀ k, k < 32 → k ≠ n → bits (u.f PWR_STATE_VCORE_OK) k 1 = bits (s.f PWR_STATE_VCORE_OK) k 1) ∧
      ∃ r, u.records = s.records ++ [r] ∧ r.cause = 0x14 ∧ r.unit = n)

/-- R467, R469, R472, R473, R482, R505, R486, R488: the end of start-up and the PCIe function. Self-test lists what failed; at a tick
with everything ready the package enters TRANSIT, with a spare for each lone failed converter; a function reset returns the function's
own registers to their reset values and no other; an unmasked vector that is pending is sent. -/
def Obligations.StartupEndsAndFunctionResets : Prop :=
  (∀ t convs cores routers s, s.power = .on → s.f SYS_STATUS_PHASE = 2 → s.boot.tested = false →
    Runs (.selfTestDone t convs cores routers) s fun u => u.failCore = (cores ++ routers).eraseDups ∧ u.boot.tested = true ∧
      u.boot.convs = convs.eraseDups ∧ u.boot.routers = routers.eraseDups ∧ (∀ c ∈ cores, ∀ i, i < 8 → 8 * c + i ∈ u.failTile) ∧ regsBut [] s u) ∧
  (∀ t s, s.power = .on → max s.now t = s.f PAV_TICK_TICK_STAMP → s.startReady = true → s.drain.asked = false →
    (∀ x ∈ s.boot.convs, x.1 < 8192) →
    Runs (.transitEnter t) s fun u => u.f SYS_STATUS_PHASE = 3 ∧ u.b SYS_EVT_RESET_DONE = true ∧ u.boot.transit = max s.now t ∧
      u.f SYS_STATUS_START_MS = min 65535 ((max s.now t + 2000000) / 1000000) ∧ u.drain.st = s.drain.st ∧
      (s.f MGT_LSTATE_STATE = 2 → ∀ x ∈ s.substituted, u.b (CNV_SUBST_EN x.1 (x.2 / 34)) = true)) ∧
  (∀ t s, s.power = .on → max s.now t = s.f PAV_TICK_TICK_STAMP → s.startReady = true → s.drain.asked = true → s.drain.press = none →
    (∀ x ∈ s.boot.convs, x.1 < 8192) →
    Runs (.transitEnter t) s fun u => u.f SYS_STATUS_PHASE = 3 ∧ u.drain.st = 4 ∧ u.f SYS_STATUS_DRAIN = 4 ∧ u.drain.asked = false) ∧
  (∀ t s, s.startReady = false → exec (.transitEnter t) s = .next (s.at t)) ∧
  (∀ t s, Runs (.functionReset t) s fun u => (∀ k, isFuncKey k = true → u.reg k = resetVal k) ∧ (∀ k, isFuncKey k = false → u.reg k = s.reg k) ∧
      u.mem = s.mem ∧ u.out = s.out) ∧
  (∀ t v s, (s.at t).gate .host 0x800000 = none → v < 64 → s.b (MSIX_PEND v) = true → s.b PCI_BME = true →
    Runs (.msixUnmask t v) s fun u => u.b (MSIX_MASK v) = false ∧ u.b (MSIX_PEND v) = false ∧
      u.out = s.out ++ [.msix (s.f (MSIX_ADDR v)) (s.f (MSIX_DATA v))]) ∧
  (∀ t v s, (s.at t).gate .host 0x800000 = none → v < 64 → s.b (MSIX_PEND v) = false ∨ s.b PCI_BME = false →
    Runs (.msixUnmask t v) s fun u => u.b (MSIX_MASK v) = false ∧ u.out = s.out ∧ regsBut [(MSIX_MASK v).a] s u)
/-- R418, R419, R422, R423, R429, R430, R434, R438: identity, quotes and measurements. GET_ID, GET_CERT, QUOTE, GET_MLOG and EXTEND at a door
that permits them give their data in the response, in the area named, or on the sideband; a debug level of FULL refuses a quote, a log of
960 entries refuses EXTEND, and a door that does not permit a command answers NOT_ALLOWED. -/
def Obligations.IdentityAndMeasurementCommands : Prop :=
  (∀ t d s, secServed s d 0x01 →
    Runs (.getId t d) s fun u => answered s u d 0 [s.f (SEC_DEVID_ID 0), s.f (SEC_DEVID_ID 1), (s.reg 0xB00000).toNat] ∧ u.mem = s.mem ∧
      regsBut (rspKeys d) s u) ∧
  (∀ t d s, secServed s d 0x02 → d ≠ 3 → s.areaOk d (s.reqWord d 1) 17888 = true →
    Runs (.getCert t d) s fun u => answered s u d 0 [] ∧ holdsBytes u (s.reqWord d 1) certificate ∧ memBut (s.reqWord d 1) 17888 s u ∧
      regsBut (rspKeys d) s u) ∧
  (∀ t s, secServed s 3 0x02 → Runs (.getCert t 3) s fun u => answered s u 3 0 [] ∧ u.out = s.out ++ [.sideband certificate] ∧ u.mem = s.mem) ∧
  (∀ t d s, secServed s d 0x02 → d ≠ 3 → s.areaOk d (s.reqWord d 1) 17888 = false →
    Runs (.getCert t d) s fun u => answered s u d 0x03 [] ∧ u.mem = s.mem) ∧
  (∀ t d sig q s, secServed s d 0x03 → d ≠ 3 → s.f SEC_STATE_DEBUG ≠ 2 →
    q = (s.at t).quoteBytes (((List.range 4).map (fun i => leBytes 8 (s.reqWord d (1 + i)))).flatten) (s.reqWord d 5 % 256) ++ sig.take 7856 →
    s.areaOk d (s.reqWord d 6) q.length = true →
    Runs (.quote t d sig) s fun u => answered s u d 0 [] ∧ holdsBytes u (s.reqWord d 6) q ∧ memBut (s.reqWord d 6) q.length s u ∧
      u.f SEC_CNT_QUOTES = min (s.f SEC_CNT_QUOTES + 1) (2 ^ 16 - 1)) ∧
  (∀ t d sig s, secServed s d 0x03 → s.f SEC_STATE_DEBUG = 2 → Runs (.quote t d sig) s fun u => answered s u d 0x0A [] ∧ u.mem = s.mem ∧
      u.out = s.out) ∧
  (∀ t d s, secServed s d 0x04 → d ≠ 3 → s.areaOk d (s.reqWord d 1) (48 * s.yar.mlog.length) = true →
    Runs (.getMlog t d) s fun u => answered s u d 0 [s.yar.mlog.length] ∧ holdsBytes u (s.reqWord d 1) (s.yar.mlog.map mlogBytes).flatten ∧
      u.yar = s.yar ∧ regsBut (rspKeys d) s u) ∧
  (∀ t i s, (i = .getMlog t 3 ∧ secServed s 3 0x04) ∨ (i = .extend t 3 ∧ secServed s 3 0x05) →
    Runs i s fun u => answered s u 3 0x02 [] ∧ u.yar = s.yar ∧ regsBut (rspKeys 3) s u) ∧
  (∀ t d s, secServed s d 0x05 → d ≠ 3 → s.yar.mlog.length < 960 →
    Runs (.extend t d) s fun u => answered s u d 0 [] ∧
      extended s u 7 (((List.range 4).map (fun i => leBytes 8 (s.reqWord d (1 + i)))).flatten) ∧ u.mem = s.mem) ∧
  (∀ t d s, secServed s d 0x05 → d ≠ 3 → 960 ≤ s.yar.mlog.length →
    Runs (.extend t d) s fun u => answered s u d 0x08 [] ∧ u.yar = s.yar ∧ regsBut (rspKeys d) s u)

/-- R415, R424 to R426, R428, R433, R435: what changes fuses and keys. OWNER_TRANSFER burns a new OWNER slot, erases the image keys and
extends MR4; KEY_IMPORT and KEY_ERASE fill and empty a key slot; ROLL_ADVANCE raises the image floor; YARROW_STAGE fills the idle firmware
slot; DEBUG_KILL burns its fuse. A signature that does not hold is counted and answered BAD_SIG, and changes nothing. -/
def Obligations.FusesAndKeysChange : Prop :=
  (∀ t r h s, secServed s 0 0x06 → s.imgSt = 0 ∨ s.imgSt = 7 → s.areaOk 0 (s.reqWord 0 1) 16296 = true → r = s.bytes (s.reqWord 0 1) 72 →
    part r 0 16 = deviceId → partNum r 16 4 = s.fuses.owners.length → s.fuses.owners.length < 8 →
    h = (if (part r 24 48).all (fun x => x == 0) then List.replicate 32 0xFF else sha256 (part r 24 48)) →
    Runs (.ownerTransfer t 0 true) s fun u => answered s u 0 0 [] ∧ u.fuses.owners = s.fuses.owners ++ [h] ∧
      u.fuses.ownerPk = s.fuses.ownerPk ++ [part r 24 48] ∧ u.fuses.keys = [] ∧ u.fuses.floorI = s.fuses.floorI ∧ extended s u 4 h ∧
      u.f SEC_CNT_TRANSFERS = min (s.f SEC_CNT_TRANSFERS + 1) (2 ^ 16 - 1) ∧ u.mem = s.mem) ∧
  (∀ t r s, secServed s 0 0x06 → s.imgSt = 0 ∨ s.imgSt = 7 → s.areaOk 0 (s.reqWord 0 1) 16296 = true → r = s.bytes (s.reqWord 0 1) 72 →
    part r 0 16 = deviceId → partNum r 16 4 = s.fuses.owners.length → s.fuses.owners.length < 8 →
    Runs (.ownerTransfer t 0 false) s fun u => answered s u 0 0x04 [] ∧ u.fuses = s.fuses ∧ u.yar = s.yar ∧
      u.f SEC_CNT_BAD_SIG = min (s.f SEC_CNT_BAD_SIG + 1) (2 ^ 16 - 1)) ∧
  (∀ t sig s, secServed s 0 0x06 → s.imgSt ≠ 0 → s.imgSt ≠ 7 →
    Runs (.ownerTransfer t 0 sig) s fun u => answered s u 0 0x06 [] ∧ u.fuses = s.fuses ∧ regsBut (rspKeys 0) s u) ∧
  (∀ t k r s, secServed s 0 0x07 → s.f SEC_STATE_DEBUG ≠ 2 → s.areaOk 0 (s.reqWord 0 1) 17888 = true → r = s.bytes (s.reqWord 0 1) 18 →
    part r 0 16 = deviceId → partNum r 16 2 < 16 → s.ownerHash.isSome = true →
    Runs (.keyImport t 0 true (some k)) s fun u => answered s u 0 0 [] ∧ sfind u.fuses.keys (partNum r 16 2) = some k ∧
      (∀ x, x ≠ partNum r 16 2 → sfind u.fuses.keys x = sfind s.fuses.keys x) ∧ u.fuses.owners = s.fuses.owners ∧ regsBut (rspKeys 0) s u) ∧
  (∀ t key sig s, secServed s 0 0x07 → s.f SEC_STATE_DEBUG = 2 →
    Runs (.keyImport t 0 sig key) s fun u => answered s u 0 0x0A [] ∧ u.fuses = s.fuses) ∧
  (∀ t s, secServed s 0 0x08 → s.reqWord 0 1 < 16 →
    Runs (.keyErase t 0) s fun u => answered s u 0 0 [] ∧ sfind u.fuses.keys (s.reqWord 0 1) = none ∧
      (∀ x, x ≠ s.reqWord 0 1 → sfind u.fuses.keys x = sfind s.fuses.keys x) ∧ regsBut (rspKeys 0) s u) ∧
  (∀ t r s, secServed s 0 0x09 → s.areaOk 0 (s.reqWord 0 1) 16256 = true → r = s.bytes (s.reqWord 0 1) 20 → part r 0 16 = deviceId →
    s.fuses.floorI ≤ partNum r 16 4 → partNum r 16 4 ≤ 64 → s.ownerHash.isSome = true →
    Runs (.rollAdvance t 0 true) s fun u => answered s u 0 0 [] ∧ u.fuses = { s.fuses with floorI := partNum r 16 4 } ∧
      u.f SEC_STATE_FLOOR_I = partNum r 16 4 ∧ u.mem = s.mem) ∧
  (∀ t r sig s, secServed s 0 0x09 → s.areaOk 0 (s.reqWord 0 1) 16256 = true → r = s.bytes (s.reqWord 0 1) 20 →
    partNum r 16 4 < s.fuses.floorI →
    Runs (.rollAdvance t 0 sig) s fun u => answered s u 0 0x03 [] ∧ u.fuses = s.fuses) ∧
  (∀ t d rec r n s, secServed s d 0x0B → d = 0 ∨ d = 3 → n = 16288 + min (s.fwLen d rec) (2 ^ 20) → s.areaOk d (s.reqWord d 1) n = true →
    r = s.area d rec (s.reqWord d 1) n → fwOk r kindYar (2 ^ 20) true = true → s.fuses.floorY ≤ partNum r 12 4 →
    Runs (.yarrowStage t d rec true) s fun u => answered s u d 0 [] ∧ u.fuses.yarPref = 1 - s.f SEC_STATE_YAR_SLOT ∧
      sfind u.fuses.yarSlot (1 - s.f SEC_STATE_YAR_SLOT) = some (partNum r 8 4, partNum r 12 4, part r 32 32) ∧
      sfind u.fuses.yarSlot (s.f SEC_STATE_YAR_SLOT) = sfind s.fuses.yarSlot (s.f SEC_STATE_YAR_SLOT) ∧ u.fuses.lspSlot = s.fuses.lspSlot) ∧
  (∀ t d rec n s, secServed s d 0x0B → d = 0 ∨ d = 3 → n = 16288 + min (s.fwLen d rec) (2 ^ 20) → s.areaOk d (s.reqWord d 1) n = true →
    Runs (.yarrowStage t d rec false) s fun u => answered s u d 0x04 [] ∧ u.fuses = s.fuses ∧
      u.f SEC_CNT_BAD_SIG = min (s.f SEC_CNT_BAD_SIG + 1) (2 ^ 16 - 1)) ∧
  (∀ t s, secServed s 0 0x0E → s.areaOk 0 (s.reqWord 0 1) 16256 = true → s.bytes (s.reqWord 0 1) 16 = deviceId → s.ownerHash.isSome = true →
    Runs (.debugKill t 0 true) s fun u => answered s u 0 0 [] ∧ u.fuses = { s.fuses with dkill := true } ∧ u.b SEC_STATE_DEBUG_KILL = true) ∧
  (∀ t sig s, secServed s 0 0x0E → s.areaOk 0 (s.reqWord 0 1) 16256 = true → s.bytes (s.reqWord 0 1) 16 ≠ deviceId →
    Runs (.debugKill t 0 sig) s fun u => answered s u 0 0x03 [] ∧ u.fuses = s.fuses)

/-- R422, R434, R435: debug. A challenge gives a nonce that lives 60 s; a record with that nonce and a signature that holds raises the
level and extends MR6, FULL erases Yarrow's derived keys; a stale nonce, an image and the kill fuse refuse it. The nonce's value is left
open by the spec: the statement holds for every value (notes/assumptions/11.md). -/
def Obligations.DebugUnlocks : Prop :=
  (∀ t d s, secServed s d 0x0C → d = 0 ∨ d = 3 →
    Runs (.debugChallenge t d) s fun u => u.freeCount = s.freeCount + 4 ∧ u.f SEC_STATE_DEBUG = s.f SEC_STATE_DEBUG ∧
      ∃ a b c e, answered s u d 0 [a, b, c, e] ∧ u.yar.nonce = some (([a, b, c, e].map (leBytes 8)).flatten, max s.now t)) ∧
  (∀ t x s, s.yar.nonce = some x → x.2 + 60000000000 ≤ max s.now t →
    Runs (.nonceExpire t) s fun u => u.yar = { s.yar with nonce := none } ∧ regsBut [] s u) ∧
  (∀ t x s, s.yar.nonce = some x → max s.now t < x.2 + 60000000000 → exec (.nonceExpire t) s = .next (s.at t)) ∧
  (∀ t d rec r s, secServed s d 0x0D → d = 0 ∨ d = 3 → s.areaOk d (s.reqWord d 1) 16288 = true → r = s.area d rec (s.reqWord d 1) 64 →
    part r 0 16 = deviceId → partNum r 16 1 = 2 → (s.at t).nonceLives = some (part r 32 32) → s.imgSt = 0 → s.fuses.dkill = false →
    Runs (.debugUnlock t d rec true) s fun u => answered s u d 0 [] ∧ u.f SEC_STATE_DEBUG = max 2 (s.f SEC_STATE_DEBUG) ∧
      u.yar.keysUp = false ∧ extended s u 6 (sha256 (2 :: vendorPk)) ∧ u.fuses = s.fuses) ∧
  (∀ t d rec r s, secServed s d 0x0D → d = 0 ∨ d = 3 → s.areaOk d (s.reqWord d 1) 16288 = true → r = s.area d rec (s.reqWord d 1) 64 →
    part r 0 16 = deviceId → partNum r 16 1 = 1 → (s.at t).nonceLives = some (part r 32 32) → s.ownerHash.isSome = true →
    Runs (.debugUnlock t d rec true) s fun u => answered s u d 0 [] ∧ u.f SEC_STATE_DEBUG = max 1 (s.f SEC_STATE_DEBUG) ∧
      u.yar.keysUp = s.yar.keysUp ∧ extended s u 6 (sha256 (1 :: s.ownerKey.getD [])) ∧ u.fuses = s.fuses) ∧
  (∀ t d rec sig r s, secServed s d 0x0D → d = 0 ∨ d = 3 → s.areaOk d (s.reqWord d 1) 16288 = true → r = s.area d rec (s.reqWord d 1) 64 →
    part r 0 16 = deviceId → partNum r 16 1 = 1 ∨ partNum r 16 1 = 2 → (s.at t).nonceLives ≠ some (part r 32 32) →
    Runs (.debugUnlock t d rec sig) s fun u => answered s u d 0x0B [] ∧ u.f SEC_STATE_DEBUG = s.f SEC_STATE_DEBUG ∧ u.yar = s.yar) ∧
  (∀ t d rec sig r s, secServed s d 0x0D → d = 0 ∨ d = 3 → s.areaOk d (s.reqWord d 1) 16288 = true → r = s.area d rec (s.reqWord d 1) 64 →
    part r 0 16 = deviceId → partNum r 16 1 = 2 → (s.at t).nonceLives = some (part r 32 32) → s.imgSt ≠ 0 ∨ s.fuses.dkill = true →
    Runs (.debugUnlock t d rec sig) s fun u => answered s u d (if s.imgSt ≠ 0 then 0x06 else 0x0A) [] ∧
      u.f SEC_STATE_DEBUG = s.f SEC_STATE_DEBUG ∧ u.yar = s.yar)

/-- R413, R421, R422, R424, R431, R432, R469: Larkspur's life. A kick counts; 1 s without one restarts it and ends a load; at boot 10 s
without READY restart it up to three times; READY starts its watchdog, and at boot burns the floors. A live update verifies the image
and waits for the handover, halts Larkspur at a tick, and ends with the new image in the idle slot or, without READY in time, with the
old one running. -/
def Obligations.LarkspurRunsAndUpdates : Prop :=
  (∀ t s, secServed s 2 0x0F →
    Runs (.kick t 2) s fun u => answered s u 2 0 [] ∧ u.lsp.kickAt = max s.now t ∧
      u.f MGT_LSTATE_KICKS = (s.f MGT_LSTATE_KICKS + 1) % 2 ^ 32 ∧ regsBut (0xC00000 :: rspKeys 2) s u) ∧
  (∀ t x s, s.power = .on → s.f MGT_LSTATE_STATE = 2 → s.lsp.kickAt + 1000000000 ≤ max s.now t →
    slotOf s.fuses.lspSlot (s.f SEC_STATE_LSP_SLOT) = some x →
    Runs (.watchdogExpire t) s fun u => u.f MGT_LSTATE_STATE = 1 ∧ u.lsp.startAt = max s.now t ∧ u.openTxn .larkspur = none ∧
      u.txnPend = s.txnPend ∧ u.lspIn = [] ∧ u.f MGT_CNT_RESTARTS = min (s.f MGT_CNT_RESTARTS + 1) (2 ^ 32 - 1) ∧ extended s u 2 x.2.2 ∧
      ((1 ≤ s.imgSt ∧ s.imgSt ≤ 4) → u.imgSt = 7 ∧ u.f IMG_STATE_ERR = 0x13 ∧ u.staging = none) ∧
      (¬ (1 ≤ s.imgSt ∧ s.imgSt ≤ 4) → u.imgSt = s.imgSt)) ∧
  (∀ t x i s, s.power = .on → s.f MGT_LSTATE_STATE = 1 → s.f SYS_STATUS_PHASE < 3 → s.lsp.startAt + 10000000000 ≤ max s.now t → s.lsp.tries < 3 →
    i = (if s.lsp.fit.contains (1 - s.f SEC_STATE_LSP_SLOT) then 1 - s.f SEC_STATE_LSP_SLOT else s.f SEC_STATE_LSP_SLOT) →
    slotOf s.fuses.lspSlot i = some x →
    Runs (.bootReadyTimeout t) s fun u => u.f MGT_LSTATE_STATE = 1 ∧ u.f SEC_STATE_LSP_SLOT = i ∧ u.lsp.tries = s.lsp.tries + 1 ∧
      u.lsp.startAt = max s.now t ∧ extended s u 2 x.2.2) ∧
  (∀ t s, s.power = .on → s.f MGT_LSTATE_STATE = 1 → s.f SYS_STATUS_PHASE < 3 → s.lsp.startAt + 10000000000 ≤ max s.now t → 3 ≤ s.lsp.tries →
    Runs (.bootReadyTimeout t) s fun u => u.f MGT_LSTATE_STATE = 4 ∧ u.lsp = s.lsp ∧ u.fuses = s.fuses) ∧
  (∀ t s, s.power = .on → s.lsp.haltAt = none → s.f MGT_LSTATE_STATE = 1 → 3 ≤ s.f SYS_STATUS_PHASE →
    Runs (.larkspurReady t) s fun u => u.f MGT_LSTATE_STATE = 2 ∧ u.lsp = { s.lsp with ready := true, kickAt := max s.now t } ∧
      u.fuses = s.fuses ∧ regsBut [0xC00000] s u) ∧
  (∀ t y l s, s.power = .on → s.lsp.haltAt = none → s.f MGT_LSTATE_STATE = 1 → s.f SYS_STATUS_PHASE < 3 →
    slotOf s.fuses.yarSlot (s.f SEC_STATE_YAR_SLOT) = some y → slotOf s.fuses.lspSlot (s.f SEC_STATE_LSP_SLOT) = some l →
    Runs (.larkspurReady t) s fun u => u.f MGT_LSTATE_STATE = 2 ∧
      u.fuses = { s.fuses with floorY := max s.fuses.floorY y.2.1, floorL := max s.fuses.floorL l.2.1 }) ∧
  (∀ t h i s, s.power = .on → s.lsp.haltAt = some h → max s.now t < h + readyWindow → i = 1 - s.f SEC_STATE_LSP_SLOT → s.lsp.door < 4 →
    (∀ x ∈ s.bells, x.door = s.lsp.door → x.run = true) →
    Runs (.larkspurReady t) s fun u => answered s u s.lsp.door 0 [] ∧ u.f MGT_LSTATE_STATE = 2 ∧ u.f SEC_STATE_LSP_SLOT = i ∧
      u.lsp.haltAt = none ∧ sfind u.fuses.lspSlot i = some (s.lsp.newVer, s.lsp.newSvn, s.lsp.newDig) ∧ u.fuses.lspPref = i ∧
      u.f SEC_VER_LARKSPUR = s.lsp.newVer % 2 ^ 32 ∧ u.f MGT_CNT_UPDATES = min (s.f MGT_CNT_UPDATES + 1) (2 ^ 16 - 1)) ∧
  (∀ t r n s, secServed s 0 0x0A → n = 16288 + min (s.fwLen 0 []) (2 ^ 24) → s.areaOk 0 (s.reqWord 0 1) n = true → r = s.bytes (s.reqWord 0 1) n →
    fwOk r kindLrk (2 ^ 24) true = true → s.fuses.floorL ≤ partNum r 12 4 → ¬ (1 ≤ s.imgSt ∧ s.imgSt ≤ 4) → s.audit.running = false →
    Runs (.larkspurUpdate t 0 true) s fun u => u.lsp.handover = some (max s.now t) ∧ u.lsp.newVer = partNum r 8 4 ∧
      u.lsp.newSvn = partNum r 12 4 ∧ u.lsp.newDig = part r 32 32 ∧ u.fuses = s.fuses ∧ regsBut [] s u) ∧
  (∀ t n s, secServed s 0 0x0A → n = 16288 + min (s.fwLen 0 []) (2 ^ 24) → s.areaOk 0 (s.reqWord 0 1) n = true →
    Runs (.larkspurUpdate t 0 false) s fun u => answered s u 0 0x04 [] ∧ u.lsp = s.lsp ∧ u.fuses = s.fuses) ∧
  (∀ t h answeredYet s, s.power = .on → max s.now t = s.f PAV_TICK_TICK_STAMP → s.lsp.handover = some h → h < s.f PAV_TICK_TICK_STAMP →
    answeredYet = true ∨ h + 100000000 ≤ s.f PAV_TICK_TICK_STAMP →
    Runs (.larkspurHalt t answeredYet) s fun u => u.f MGT_LSTATE_STATE = 3 ∧ u.lsp = { s.lsp with handover := none, haltAt := some (max s.now t), ready := false } ∧
      u.openTxn .larkspur = none ∧ u.txnPend = s.txnPend ∧ extended s u 2 s.lsp.newDig ∧ u.fuses = s.fuses) ∧
  (∀ t h x s, s.power = .on → s.lsp.haltAt = some h → h + readyWindow ≤ max s.now t → s.lsp.door < 4 →
    (∀ x ∈ s.bells, x.door = s.lsp.door → x.run = true) →
    slotOf s.fuses.lspSlot (s.f SEC_STATE_LSP_SLOT) = some x →
    Runs (.updateRevert t) s fun u => answered s u s.lsp.door 0x0F [] ∧ u.f MGT_LSTATE_STATE = 2 ∧ u.lsp.haltAt = none ∧ u.fuses = s.fuses ∧
      u.f MGT_CNT_REVERTS = min (s.f MGT_CNT_REVERTS + 1) (2 ^ 16 - 1) ∧ u.f SEC_VER_LARKSPUR = x.1 % 2 ^ 32 ∧ extended s u 2 x.2.2)
/-- R178, R259, R326, R432, R434, R439, R474: Larkspur's commands at HOST_MGT. While it is OFF or FAILED the answer is LARKSPUR_DOWN, during an
update UPDATING, and nothing else happens. STATUS gives MGT_LSTATE and the drain's state; IMG_LOAD writes the staging registers and starts the
load, and answers LOCKED for an encrypted image under debug FULL; IMG_ABORT stops one; REG_WRITE commits one register in Larkspur's own transaction; CABLE_PLAN loads the plan; TELEMETRY writes the
start-up report and what follows it. -/
def Obligations.ManagementCommandsRun : Prop :=
  (∀ t img rest c i s, s.power = .on → s.mayRun 1 = true → s.reqCmd 1 = c → (c, i) ∈ mgtRows t img rest →
    s.f MGT_LSTATE_STATE = 0 ∨ s.f MGT_LSTATE_STATE = 3 ∨ s.f MGT_LSTATE_STATE = 4 →
    Runs i s fun u => answered s u 1 (if s.f MGT_LSTATE_STATE = 3 then 0x0D else 0x0C) [] ∧ u.imgSt = s.imgSt ∧ u.txnOpen = s.txnOpen ∧
      u.plan = s.plan ∧ u.audit = s.audit ∧ u.drain = s.drain ∧ u.mem = s.mem ∧ regsBut (rspKeys 1) s u) ∧
  (∀ t s, mgtServed s 0x01 →
    Runs (.status t) s fun u => answered s u 1 0 [(s.reg 0xC00000).toNat, s.drain.st] ∧ u.drain = s.drain ∧ regsBut (rspKeys 1) s u) ∧
  (∀ t img b s, mgtServed s 0x02 → s.loadLocked = false → s.owns .larkspur 0x300000 = true → s.rangeOk 0x300000 (s.reqWord 1 1) = true →
    s.rangeOk 0x300008 (s.reqWord 1 2) = true → s.imgSt = 0 ∨ s.imgSt = 5 ∨ s.imgSt = 7 → s.halted = false → s.audit.hold = false →
    b = 4096 * bits (s.reqWord 1 1) 0 30 → s.headerOk b = true → s.targetOk b = true → s.sectionsOk b = true →
    Runs (.imgLoad t img) s fun u => u.imgSt = 1 ∧ u.staging = some img ∧ u.stageBase = b ∧ u.f IMG_STAGE_BASE_4K = bits (s.reqWord 1 1) 0 30 ∧
      u.b IMG_COPYF_EN = (s.reqWord 1 2).testBit 63 ∧ u.mem = s.mem ∧ u.bells = (s.takeBell 1).bells) ∧
  (∀ t s, mgtServed s 0x03 → s.owns .larkspur 0x300010 = true →
    Runs (.imgAbort t) s fun u => answered s u 1 0 [] ∧ u.loadStop = (s.loadStop || decide (1 ≤ s.imgSt ∧ s.imgSt ≤ 4)) ∧
      u.imgSt = s.imgSt ∧ regsBut (rspKeys 1) s u) ∧
  (∀ t k v r s, mgtServed s 0x04 → s.reqWord 1 1 = k → s.reqWord 1 2 = v.toNat → ordinaryWrite (s.at t) .larkspur k v r → r.sel = false →
    r.rwt ≠ 0 → s.owns .larkspur k = true → s.rangeOk k v.toNat = true → s.boundsOk .larkspur k v.toNat r.fs = true → s.reqWord 1 3 = 0 →
    s.openTxn .larkspur = none → s.newTopo = none → (s.pendOf .larkspur).length < 8 →
    Runs (.regWrite t) s fun u => u.openTxn .larkspur = none ∧ u.mgtTxn = some s.regTxnId ∧
      ∃ p, u.txnPend = s.txnPend ++ [p] ∧ p.q = .larkspur ∧ p.id = s.regTxnId ∧ p.mode = 0 ∧ p.job = false ∧
        p.shadows = [⟨k, r.rwt, Nat.land v.toNat r.rwt, max s.now t⟩]) ∧
  (∀ t s, mgtServed s 0x04 → (s.openTxn .larkspur).isSome = true →
    Runs (.regWrite t) s fun u => answered s u 1 0x0E [0x03] ∧ u.txnOpen = s.txnOpen ∧ u.txnPend = s.txnPend ∧ u.mgtTxn = s.mgtTxn) ∧
  (∀ t a s, mgtServed s 0x05 → s.owns .larkspur 0x600010 = true → a = bits (s.reqWord 1 1) 0 42 → a % 64 = 0 → a + 576 ≤ 2 ^ 39 →
    s.newTopo = none →
    Runs (.cablePlan t) s fun u => answered s u 1 0 [] ∧ u.planAt = some (max s.now t) ∧ u.plan.length = 72 ∧
      ∀ p, p < 72 → u.plan.getD p 0 = s.num (a + 8 * p) 8) ∧
  (∀ t s, mgtServed s 0x05 → s.owns .larkspur 0x600010 = true → bits (s.reqWord 1 1) 0 42 % 64 ≠ 0 →
    Runs (.cablePlan t) s fun u => answered s u 1 0x0E [0x06] ∧ u.plan = s.plan ∧ u.planAt = s.planAt) ∧
  (∀ t rest bs s, mgtServed s 0x07 → bs = s.startReport ++ rest → s.areaOk 1 (s.reqWord 1 1) bs.length = true →
    s.active = false ∨ meets s.protected (s.reqWord 1 1) bs.length = false →
    Runs (.telemetry t rest) s fun u => answered s u 1 0 [] ∧ holdsBytes u (s.reqWord 1 1) bs ∧ memBut (s.reqWord 1 1) bs.length s u ∧
      regsBut (rspKeys 1) s u) ∧
  (∀ t rest bs s, mgtServed s 0x07 → bs = s.startReport ++ rest → s.areaOk 1 (s.reqWord 1 1) bs.length = true → s.active = true →
    meets s.protected (s.reqWord 1 1) bs.length = true →
    Runs (.telemetry t rest) s fun u => u.mem = s.mem ∧ u.f MGT_ACL_DENIED = min (s.f MGT_ACL_DENIED + 1) (2 ^ 22 - 1)) ∧
  (∀ t rest s, mgtServed s 0x07 → s.areaOk 1 (s.reqWord 1 1) (s.startReport ++ rest).length = false →
    Runs (.telemetry t rest) s fun u => answered s u 1 0x03 [] ∧ u.mem = s.mem) ∧
  (∀ t img s, mgtServed s 0x02 → s.loadLocked = true →
    Runs (.imgLoad t img) s fun u => answered s u 1 0x0A [] ∧ u.imgSt = s.imgSt ∧ u.staging = s.staging ∧ regsBut (rspKeys 1) s u)

/-- R178, R179, R439, R440: the calibration audit. AUDIT starts one on a package that holds no image, answers IN_JOB otherwise and BUSY while
one runs; after its time it ends with two bits per item, its arrays erased: a FAIL raises AUDIT_FAIL and holds loads, and an audit in which
all pass ends the hold unless the factory record is unusable. -/
def Obligations.AuditsStartAndEnd : Prop :=
  (∀ t s, mgtServed s 0x06 → s.imgSt = 0 ∨ s.imgSt = 7 → s.audit.running = false →
    Runs (.audit t) s fun u => u.audit = { s.audit with running := true, began := max s.now t } ∧ u.bells = (s.takeBell 1).bells ∧
      regsBut [] s u ∧ u.cells = s.cells) ∧
  (∀ t s, mgtServed s 0x06 → (s.imgSt ≠ 0 ∧ s.imgSt ≠ 7) ∨ s.audit.running = true →
    Runs (.audit t) s fun u => answered s u 1 (if s.imgSt ≠ 0 ∧ s.imgSt ≠ 7 then 0x06 else 0x07) [] ∧ u.audit = s.audit ∧
      regsBut (rspKeys 1) s u) ∧
  (∀ t items arrs s, s.power = .on → s.audit.running = true → s.audit.began + 10000000000 ≤ max s.now t →
    (∀ i, i < 4 → items.getD i 0 = 0) → (∀ A ∈ arrs, A < 32768) → (∀ x ∈ s.bells, x.door = 1 → x.run = true) →
    Runs (.auditDone t items arrs) s fun u => answered s u 1 0 [0] ∧ u.audit.running = false ∧ u.audit.hold = s.audit.badRec ∧
      u.records = s.records ∧ (∀ A ∈ arrs, sfind u.cells A = none ∧ u.f (ARR_STATE_STATE A) = 0) ∧
      ∀ A, A ∉ arrs → sfind u.cells A = sfind s.cells A) ∧
  (∀ t items arrs i s, s.power = .on → s.audit.running = true → s.audit.began + 10000000000 ≤ max s.now t → i < 4 → items.getD i 0 = 2 →
    (∀ A ∈ arrs, A < 32768) →
    Runs (.auditDone t items arrs) s fun u => u.audit.running = false ∧ u.audit.hold = true ∧
      ∃ r ∈ u.records, r.sev = 3 ∧ r.cause = 0x29 ∧ r.detail = i) ∧
  (∀ t items arrs s, s.audit.running = false ∨ max s.now t < s.audit.began + 10000000000 →
    exec (.auditDone t items arrs) s = .next (s.at t))

/-- R479, R480, R482: the graceful drain. A DRAIN_WAIT above 600,000 ms is no record; a drain that runs or waits is answered OK; before
TRANSIT the drain waits for it; without an active image it reaches LEFT at once; with one whose recovery table does not provide for the
loss of this member it is refused. With no live request at home, or after DRAIN_WAIT, the leave notice goes out for 16 frames ahead, and a
member that takes it commits the loss of that member. -/
def Obligations.DrainsLeaveTheJob : Prop :=
  (∀ t s, mgtServed s 0x08 → 600000 < s.reqWord 1 1 → Runs (.drain t) s fun u => answered s u 1 0x03 [] ∧ u.drain = s.drain) ∧
  (∀ t s, mgtServed s 0x08 → s.reqWord 1 1 ≤ 600000 → 1 ≤ s.drain.st ∨ s.drain.asked = true →
    Runs (.drain t) s fun u => answered s u 1 0 [] ∧ u.drain = s.drain ∧ regsBut (rspKeys 1) s u) ∧
  (∀ t s, mgtServed s 0x08 → s.reqWord 1 1 ≤ 600000 → s.drain.st = 0 → s.drain.asked = false → s.f SYS_STATUS_PHASE < 3 →
    Runs (.drain t) s fun u =>
      u.drain = { s.drain with asked := true, door := true, waitMs := if s.reqWord 1 1 = 0 then 30000 else s.reqWord 1 1 } ∧ u.bells = (s.takeBell 1).bells ∧ regsBut [] s u) ∧
  (∀ t s, mgtServed s 0x08 → s.reqWord 1 1 ≤ 600000 → s.drain.st = 0 → s.drain.asked = false → 3 ≤ s.f SYS_STATUS_PHASE → s.active = false →
    Runs (.drain t) s fun u => answered s u 1 0 [] ∧ u.drain.st = 4 ∧ u.f SYS_STATUS_DRAIN = 4) ∧
  (∀ t s, mgtServed s 0x08 → s.reqWord 1 1 ≤ 600000 → s.drain.st = 0 → s.drain.asked = false → 3 ≤ s.f SYS_STATUS_PHASE → s.active = true →
    (s.recFor 8 0xB s.ownIdx s.ownIdx).isEmpty = true →
    Runs (.drain t) s fun u => answered s u 1 0x0E [] ∧ u.drain = { s.drain with flash := some (max s.now t + 5000000000) }) ∧
  (∀ t s, mgtServed s 0x08 → s.reqWord 1 1 ≤ 600000 → s.drain.st = 0 → s.drain.asked = false → 3 ≤ s.f SYS_STATUS_PHASE → s.active = true →
    (s.recFor 8 0xB s.ownIdx s.ownIdx).isEmpty = false →
    Runs (.drain t) s fun u => u.drain.asked = true ∧ u.drain.door = true ∧ u.drain.st = 0 ∧ regsBut [] s u) ∧
  (∀ t i T F s, (i = .drainHandover t ∧ s.reqs.any (fun r => r.home == s.f FAB_ID_PKG_ID) = false) ∨
      (i = .drainWaitExpire t ∧ s.drain.began + 1000000 * s.drain.waitMs ≤ max s.now t) → s.mayLeave = true → s.topo = some T →
    F = s.jobFrame + 16 →
    Runs i s fun u => u.drain.st = 3 ∧ u.f SYS_STATUS_DRAIN = 3 ∧ u.ctrlQ = (s.toAll (.leave T.self F)).ctrlQ ∧ (T.self, F) ∈ u.leaves ∧
      (∃ p ∈ u.txnPend, p.q = .larkspur ∧ p.id = leaveId T.self F ∧ p.mode = 1 ∧ p.job = true ∧ p.target = F) ∧
      ∃ p ∈ u.txnPend, p.q = .larkspur ∧ p.mode = 1 ∧ p.target = F ∧ ∃ w ∈ p.shadows, w.key = 0x300020 ∧ w.mask = 1 ∧ w.val = 0) ∧
  (∀ t i s, (i = .drainHandover t ∧ s.reqs.any (fun r => r.home == s.f FAB_ID_PKG_ID) = true) ∨
      (i = .drainWaitExpire t ∧ max s.now t < s.drain.began + 1000000 * s.drain.waitMs) ∨
      ((i = .drainHandover t ∨ i = .drainWaitExpire t) ∧ s.drain.st ≠ 2) → exec i s = .next (s.at t)) ∧
  (∀ t x rest s, s.notices = x :: rest → s.active = true → s.f MGT_LSTATE_STATE = 2 →
    Runs (.leaveNotice t) s fun u => u.notices = rest ∧ x ∈ u.leaves ∧ u.ctrlQ = s.ctrlQ ∧
      ∃ p ∈ u.txnPend, p.q = .larkspur ∧ p.id = leaveId x.1 x.2 ∧ p.mode = 1 ∧ p.job = true ∧ p.target = x.2)

/-- R437, R479, R483, R484: the service button, the refused flash and the end of mailbox commands. A press is stamped and held; a release
before 2 s counts it; 2 s of hold ask for a drain, once; the flash ends at its time. MAILBOX_DONE makes a response valid, clears BUSY and
raises the door's vector; a CMD that no table lists is answered BAD_CMD. -/
def Obligations.ButtonAndMailboxEnds : Prop :=
  (∀ t stamp s, s.power = .on → s.drain.press = none →
    Runs (.buttonPress t stamp) s fun u => u.f SYS_BUTTON_HELD = 1 ∧ u.drain.press = some (min stamp (max s.now t)) ∧ u.drain.fired = false ∧
      u.drain.ignore = decide (3 ≤ s.f SYS_STATUS_PHASE ∧ stamp < s.boot.transit) ∧ u.drain.st = s.drain.st ∧ u.drain.asked = s.drain.asked ∧
      regsBut [SYS_BUTTON_HELD.a] s u) ∧
  (∀ t stamp p s, s.drain.press = some p → s.drain.ignore = false → min stamp (max s.now t) < p + 2000000000 →
    Runs (.buttonRelease t stamp) s fun u => u.f SYS_BUTTON_SHORT = min (s.f SYS_BUTTON_SHORT + 1) (2 ^ 32 - 1) ∧ u.b SYS_EVT_SHORT_PRESS = true ∧
      u.f SYS_BUTTON_HELD = 0 ∧ u.drain = { s.drain with press := none, fired := false } ∧
      regsBut (SYS_BUTTON_HELD.a :: SYS_EVT_SHORT_PRESS.evtKeys) s u) ∧
  (∀ t stamp p s, s.drain.press = some p → s.drain.fired = true ∨ s.drain.ignore = true → p + 2000000000 ≤ min stamp (max s.now t) →
    Runs (.buttonRelease t stamp) s fun u => u.f SYS_BUTTON_SHORT = s.f SYS_BUTTON_SHORT ∧ u.f SYS_BUTTON_HELD = 0 ∧
      u.drain = { s.drain with press := none, ignore := false, fired := false } ∧ regsBut [SYS_BUTTON_HELD.a] s u) ∧
  (∀ t p s, s.drain.press = some p → s.drain.ignore = false → s.drain.fired = false → p + 2000000000 ≤ max s.now t → s.drain.st = 0 →
    s.drain.asked = false → 3 ≤ s.f SYS_STATUS_PHASE → s.active = false →
    Runs (.drainRequest t) s fun u => u.drain.st = 4 ∧ u.f SYS_STATUS_DRAIN = 4 ∧ u.drain.fired = true ∧ u.drain.press = some p) ∧
  (∀ t p s, s.drain.press = some p → max s.now t < p + 2000000000 → exec (.drainRequest t) s = .next (s.at t)) ∧
  (∀ t e s, s.drain.flash = some e → e ≤ max s.now t →
    Runs (.attnFlashEnd t) s fun u => u.drain = { s.drain with flash := none } ∧ regsBut [] s u) ∧
  (∀ t e s, s.drain.flash = some e → max s.now t < e → exec (.attnFlashEnd t) s = .next (s.at t)) ∧
  (∀ t d b s, s.power = .on → d < 4 → s.bell d = some b → b.run = true → b.ready = true →
    Runs (.mailboxDone t d) s fun u => u.b (MBX_STAT_BUSY d) = false ∧ u.b (MBX_STAT_DONE d) = true ∧
      u.f (MBX_STAT_DONE_CNT d) = min (s.f (MBX_STAT_DONE_CNT d) + 1) (2 ^ 32 - 1) ∧ u.bells = s.bells.filter (fun x => x.door ≠ d) ∧
      (d < 2 → u.out = s.out ++ [.msix (s.f (MSIX_ADDR (60 + d))) (s.f (MSIX_DATA (60 + d)))] ∨ u.b (MSIX_PEND (60 + d)) = true) ∧
      ∀ i, i < 8 → u.f (MBX_RSP_WORD d i) = s.f (MBX_RSP_WORD d i)) ∧
  (∀ t d s, s.power = .on → d < 4 → s.mayRun d = true → (if d = 1 then s.reqCmd d = 0 ∨ 8 < s.reqCmd d else s.reqCmd d = 0 ∨ 15 < s.reqCmd d) →
    (d = 1 → s.f MGT_LSTATE_STATE = 2) →
    Runs (.mailboxDone t d) s fun u => u.f (MBX_RSP_WORD d 0) = 2 ^ 56 + s.reqCmd d * 2 ^ 48 + s.reqTag d ∧ u.b (MBX_STAT_DONE d) = true ∧
      u.b (MBX_STAT_BUSY d) = false) ∧
  (∀ t b s, s.power = .on → s.bell 1 = some b → b.run = true → b.ready = false → s.reqCmd 1 = 0x02 → ¬ (1 ≤ s.imgSt ∧ s.imgSt ≤ 4) →
    Runs (.mailboxDone t 1) s fun u => u.f (MBX_RSP_WORD 1 0) = 2 * 2 ^ 48 + s.reqTag 1 ∧ u.f (MBX_RSP_WORD 1 1) = (s.reg 0x300018).toNat ∧
      u.b (MBX_STAT_DONE 1) = true) ∧
  (∀ t d s, d < 4 → s.bell d = none → exec (.mailboxDone t d) s = .next (s.at t))
/-- A step runs the command at the front of the queue on everything but the queue, which keeps its rest; with no command waiting the block
idles (the model's choice, notes/assumptions/1.md). -/
def Obligations.StepRunsTheFrontCommand : Prop :=
  (∀ c s, step { s with pending := c :: s.pending } = exec c s) ∧
  (∀ c rest s, s.pending = c :: rest → step s = exec c { s with pending := rest }) ∧
  (∀ s, s.pending = [] → step s = .next s) ∧
  (∀ c s u, exec c s = .next u → u.pending = s.pending)

/-- R5, R43, R90, R91, R153, R154, R410, R462, R489, R496, R509: what registers read right after reset: the owner of each group, the part
and stepping, the frame geometry, ports, channels and unit enables, range code 3 and column scale 1.0, the trackers, the windows of BAR4. No
command waits, no transaction is open, no request lives, memory lists nothing. -/
def Obligations.ResetValues : Prop :=
  (∀ g, g < 48 → State.reset.f (PAV_OWN_OWNER g) = (if g = 0 then 1 else if g = 11 ∨ g = 12 then 3 else 2)) ∧
  (∀ A k, A < 32768 → k < 544 → (State.reset.reg (rangeBank A k)).toNat = 3 * 2 ^ 48) ∧
  (∀ A j, A < 32768 → j < 256 → (State.reset.reg (scaleBank A j)).toNat = 0x3F800000) ∧
  (∀ c, c < 1024 → (State.reset.reg (upwrBank c)).toNat = 2 ^ 18 - 1) ∧
  (∀ p, p < 72 → State.reset.b (FAB_PCTL_EN p) = true) ∧ (∀ c, c < 16 → State.reset.b (MEM_FCH_EN c) = true) ∧
  (∀ n, n < 48 → State.reset.f (HKA_TRK_MIN n) = 0xFFF ∧ State.reset.f (HKA_TRK_MAX n) = 0) ∧
  (∀ x, x < 16 → (State.reset.reg (0x100 + 8 * x)).toNat = 2 ^ 63 + x * 2 ^ 32) ∧
  State.reset.f FAB_ID_PKG_ID = 0xFFFFF ∧ State.reset.f IMG_STATE_STATE = 0 ∧ State.reset.f PAV_CFG_N_PASSES = 768 ∧ State.reset.f PAV_CFG_WORK_SPAN = 704 ∧
  State.reset.pending = [] ∧ State.reset.txnOpen = [] ∧ State.reset.txnPend = [] ∧ State.reset.reqs = [] ∧ State.reset.mem = [] ∧
  State.reset.inv

/-- R88: after any reset of the package (power comes back, whatever ran before) every array reads EMPTY, whatever its cells hold. -/
def Obligations.ArraysAreEmptyAfterReset : Prop :=
  ∀ t yOk lOk hbm rec reads s, s.power = .off →
    Runs (.powerOn t yOk lOk hbm rec reads) s fun u => (∀ A, A < 32768 → u.f (ARR_STATE_STATE A) = 0) ∧ u.cells = s.cells

/-- R505: a vector that is masked sets its pending bit in place of sending; it sends when it is unmasked. -/
def Obligations.MaskedVectorsWait : Prop :=
  (∀ v (s : State), v < 64 → s.b (MSIX_MASK v) = true →
    (s.msix v).b (MSIX_PEND v) = true ∧ (s.msix v).out = s.out ∧ (s.msix v).b (MSIX_MASK v) = true ∧ regsBut [bar2 + 0x9000] s (s.msix v)) ∧
  (∀ v (s : State), v < 64 → s.b (MSIX_MASK v) = false → s.b PCI_BME = true →
    (s.msix v).out = s.out ++ [.msix (s.f (MSIX_ADDR v)) (s.f (MSIX_DATA v))] ∧ (s.msix v).b (MSIX_PEND v) = false) ∧
  (∀ t v (s : State), (s.at t).gate .host 0x800000 = none → v < 64 → s.b PCI_BME = true →
    Runs (.msixUnmask t v) (s.msix v) fun u => s.b (MSIX_MASK v) = true →
      u.out = s.out ++ [.msix (s.f (MSIX_ADDR v)) (s.f (MSIX_DATA v))] ∧ u.b (MSIX_PEND v) = false ∧ u.b (MSIX_MASK v) = false)

/-- R6, R41: a write of an RWT field without an open transaction is answered NO_TXN and changes nothing but that status: an ordinary
register, a column's range code behind CNV_DATA, a column's scale behind RING_SCALE. -/
def Obligations.RwtFieldsNeedATransaction : Prop :=
  (∀ t q k v r s, ordinaryWrite (s.at t) q k v r → r.sel = false → r.rwt ≠ 0 → s.owns q k = true → s.openTxn q = none →
    exec (.registerWrite t q k v 8) s = .next ((s.at t).setf (TXNP_STAT_LAST_REJ q.code) 0x04)) ∧
  (∀ t q tile off gain range s, (s.at t).gate q (cnvTile tile + 0x30) = none → s.owns q (cnvTile tile + 0x30) = true → s.openTxn q = none →
    exec (.trimWrite t q tile off gain range) s = .next ((s.at t).setf (TXNP_STAT_LAST_REJ q.code) 0x04)) ∧
  (∀ t q T v a s, T < 8192 → a = ringTile T + 8 → (s.at t).gate q a = none → s.owns q a = true → s.openTxn q = none →
    exec (.registerWrite t q a v 8) s = .next ((s.at t).setf (TXNP_STAT_LAST_REJ q.code) 0x04))

/-- R41, R42, R443, R487: every command that is a register's write is judged alike. Without power nothing happens; the host's writes before
TRANSIT are discarded and counted, but for SYS, SEC and MGT; a writer that does not own the group is answered NOT_OWNER, counted in PAV_REJ,
and changes nothing. -/
def Obligations.OwnersAloneWrite : Prop :=
  (∀ t q n a b c img w e k i s, (k, i) ∈ writeRows t q n a b c img w e → s.power ≠ .on → exec i s = .next (s.at t)) ∧
  (∀ t n a b c img w e k i s, (k, i) ∈ writeRows t .host n a b c img w e → s.power = .on → s.f SYS_STATUS_PHASE < 3 → groupOf k ≠ 0 →
    groupOf k ≠ 11 → groupOf k ≠ 12 →
    Runs i s fun u => u.f SYS_HOSTERR_EARLY = min (s.f SYS_HOSTERR_EARLY + 1) (2 ^ SYS_HOSTERR_EARLY.w - 1) ∧
      u.b SYS_EVT_HOST_ERR = true ∧ u.mem = s.mem ∧ u.txnOpen = s.txnOpen ∧ u.progQ = s.progQ ∧ u.staging = s.staging ∧
      regsBut (0x38 :: SYS_EVT_HOST_ERR.evtKeys) s u) ∧
  (∀ t q n a b c img w e k i s, (k, i) ∈ writeRows t q n a b c img w e → (s.at t).gate q k = none → s.owns q k = false →
    Runs i s fun u => u.f (TXNP_STAT_LAST_REJ q.code) = 0x0E ∧ u.f PAV_REJ_COUNT = min (s.f PAV_REJ_COUNT + 1) (2 ^ 32 - 1) ∧
      u.f PAV_REJ_LAST_REQ = q.code ∧ u.mem = s.mem ∧ u.txnOpen = s.txnOpen ∧ u.progQ = s.progQ ∧ u.staging = s.staging ∧ u.power = s.power ∧
      regsBut ([portAddr q.code + 0x10, 0x1000B0] ++ PAV_EVT_NOT_OWNER.evtKeys) s u)

/-- What each of the 188 commands leaves as it was: every kind of state that `changes` does not list for it reads the same in the next state,
and stored data keeps its canonical form. -/
def Obligations.CommandsChangeOnlyTheirKinds : Prop :=
  ∀ i s t, exec i s = .next t → Touch (changes i) s t

/-- R414, R423, R454: every step keeps the canonical form of stored data and the bounds of the measurement log, of LOST, of the OWNER slots
and of the power history. -/
def Obligations.EveryStepKeepsTheInvariant : Prop :=
  ∀ s t, s.inv → step s = .next t → t.inv

/-- R414, R422 to R425, R428, R431, R433, R435: fuses only burn. No command takes back a floor, an OWNER slot or DEBUG_KILL, and none changes
the vendor root's hash or FACTORY_LOCK; what is not one of the commands named leaves them all, the key slots and the firmware slots alone.
While the package keeps its supply, the measurement log only grows and LOST never falls. -/
def Obligations.FusesAndTheLogOnlyGrow : Prop :=
  (∀ i s t, exec i s = .next t → s.fuses.burnt t.fuses) ∧
  (∀ i s t, exec i s = .next t → t.fuses ≠ s.fuses → ∃ c d r g k, i ∈ [.ownerTransfer c d g, .keyImport c d g k, .keyErase c d,
    .rollAdvance c d g, .yarrowStage c d r g, .debugKill c d g, .larkspurReady c]) ∧
  (∀ i s t, exec i s = .next t → t.power = s.power → s.yar.lost ≤ 65535 → s.yar.mlog <+: t.yar.mlog ∧ s.yar.lost ≤ t.yar.lost)

/-- R51, R444, R457: counts never run back, but for the time base that starts at power-on; a package without supply gets it from POWER_ON
alone, and a latched shutdown ends by LATCH_CLEAR alone, with THERM_TRIP_N asserted until then. -/
def Obligations.SupplyAndTimeChangeAsNamed : Prop :=
  (∀ i s t, exec i s = .next t → s.now ≤ t.now ∨ (s.power = .off ∧ ∃ c y l h r x, i = .powerOn c y l h r x)) ∧
  (∀ i s t, exec i s = .next t → s.power = .off → t.power = .off ∨ ∃ c y l h r x, i = .powerOn c y l h r x) ∧
  (∀ i s t, exec i s = .next t → s.power = .latched →
    (t.power = .latched ∧ t.heat.trip = s.heat.trip) ∨ (t.power = .off ∧ ∃ c, i = .latchClear c))
end

