-- ==== Sys2Proof/Laws/Sparse.lean ====
section
/-! SUPPORT. Laws of sparse storage: what a read gives after a store, and that every store keeps the canonical form. -/

namespace Sys2Proof.Machine

variable {α : Type}

/-- The canonical form as a chain: strictly rising keys, no default values. -/
theorem scanon_iff [DecidableEq α] (d : Nat → α) (m : List (Nat × α)) :
    scanon d m = true ↔ m.Pairwise (fun p q => p.1 < q.1) ∧ ∀ p ∈ m, p.2 ≠ d p.1 := by
  induction m with
  | nil => simp [scanon]
  | cons p m ih =>
    cases m with
    | nil => simp [scanon]
    | cons q m =>
      simp only [scanon, Bool.and_eq_true, decide_eq_true_eq, ih, List.pairwise_cons, List.mem_cons, forall_eq_or_imp]
      constructor
      · rintro ⟨⟨h1, h2⟩, ⟨h3, h4⟩, h5⟩
        exact ⟨⟨⟨h2, fun a ha => Nat.lt_trans h2 (h3 a ha)⟩, h3, h4⟩, h1, h5⟩
      · rintro ⟨⟨⟨h2, -⟩, h3, h4⟩, h1, h5⟩
        exact ⟨⟨h1, h2⟩, ⟨h3, h4⟩, h5⟩

/-- A read of an erased key gives the default. -/
theorem sget_serase_same (d : Nat → α) (m : List (Nat × α)) (k : Nat) : sget d (serase m k) k = d k := by
  induction m with
  | nil => rfl
  | cons p m ih =>
    simp only [serase, List.filter_cons, decide_eq_true_eq]
    split
    · rename_i h
      simp only [sget, h, ↓reduceIte]
      exact ih
    · exact ih

/-- Erasing a key leaves every other. -/
theorem sget_serase_ne (d : Nat → α) (m : List (Nat × α)) {k j : Nat} (h : j ≠ k) : sget d (serase m k) j = sget d m j := by
  induction m with
  | nil => rfl
  | cons p m ih =>
    simp only [serase, List.filter_cons, decide_eq_true_eq]
    split
    · simp only [sget]
      split
      · rfl
      · exact ih
    · rename_i h'
      simp only [ne_eq, Decidable.not_not] at h'
      simp only [sget]
      rw [if_neg (by omega)]
      exact ih

/-- A read of an inserted key, where no entry for it stands before. -/
theorem sget_sinsert_same (d : Nat → α) (m : List (Nat × α)) (k : Nat) (v : α) (h : ∀ p ∈ m, p.1 ≠ k) :
    sget d (sinsert m k v) k = v := by
  induction m with
  | nil => simp [sinsert, sget]
  | cons p m ih =>
    simp only [sinsert]
    split
    · simp [sget]
    · simp only [sget]
      rw [if_neg (h p List.mem_cons_self)]
      exact ih (fun q hq => h q (List.mem_cons_of_mem _ hq))

/-- An insertion leaves every other key. -/
theorem sget_sinsert_ne (d : Nat → α) (m : List (Nat × α)) {k j : Nat} (v : α) (h : j ≠ k) :
    sget d (sinsert m k v) j = sget d m j := by
  induction m with
  | nil => simp [sinsert, sget, Ne.symm h]
  | cons p m ih =>
    simp only [sinsert]
    split
    · simp [sget, Ne.symm h]
    · simp only [sget]
      split
      · rfl
      · exact ih

/-- No entry of an erased list names the key. -/
theorem mem_serase {m : List (Nat × α)} {k : Nat} {p : Nat × α} (h : p ∈ serase m k) : p ∈ m ∧ p.1 ≠ k := by
  simpa [serase] using h

/-- A read after a store to the same key gives the value stored. -/
@[simp] theorem sget_sset_same [DecidableEq α] (d : Nat → α) (m : List (Nat × α)) (k : Nat) (v : α) :
    sget d (sset d m k v) k = v := by
  unfold sset
  split
  · rename_i h; rw [sget_serase_same, h]
  · exact sget_sinsert_same d _ k v (fun p hp => (mem_serase hp).2)

/-- A store leaves every other key. -/
theorem sget_sset_ne [DecidableEq α] (d : Nat → α) (m : List (Nat × α)) {k j : Nat} (v : α) (h : j ≠ k) :
    sget d (sset d m k v) j = sget d m j := by
  unfold sset
  split
  · exact sget_serase_ne d m h
  · rw [sget_sinsert_ne d _ v h, sget_serase_ne d m h]

/-- A part of a canonical list that keeps its order is canonical. -/
theorem scanon_sublist [DecidableEq α] {d : Nat → α} {m m' : List (Nat × α)} (hs : m'.Sublist m) (h : scanon d m = true) :
    scanon d m' = true := by
  rw [scanon_iff] at h ⊢
  exact ⟨h.1.sublist hs, fun p hp => h.2 p (hs.subset hp)⟩

/-- Erasing keeps the canonical form. -/
theorem scanon_serase [DecidableEq α] {d : Nat → α} {m : List (Nat × α)} (k : Nat) (h : scanon d m = true) :
    scanon d (serase m k) = true := scanon_sublist List.filter_sublist h

/-- An entry of an insertion. -/
theorem mem_sinsert {m : List (Nat × α)} {k : Nat} {v : α} {p : Nat × α} (h : p ∈ sinsert m k v) : p = (k, v) ∨ p ∈ m := by
  induction m with
  | nil => simpa [sinsert] using h
  | cons q m ih =>
    simp only [sinsert] at h
    split at h
    · simpa using h
    · rcases List.mem_cons.1 h with h | h
      · exact .inr (h ▸ List.mem_cons_self)
      · exact (ih h).imp id (List.mem_cons_of_mem _)

/-- An insertion of a value that differs from the default, where the key is free, keeps the canonical form. -/
theorem scanon_sinsert [DecidableEq α] {d : Nat → α} {m : List (Nat × α)} {k : Nat} {v : α} (h : scanon d m = true)
    (hk : ∀ p ∈ m, p.1 ≠ k) (hv : v ≠ d k) : scanon d (sinsert m k v) = true := by
  rw [scanon_iff] at h ⊢
  refine ⟨?_, fun p hp => (mem_sinsert hp).elim (fun e => e ▸ hv) (h.2 p)⟩
  obtain ⟨hs, -⟩ := h
  induction m with
  | nil => simp [sinsert]
  | cons q m ih =>
    simp only [sinsert]
    rw [List.pairwise_cons] at hs
    split
    · rename_i hlt
      refine List.pairwise_cons.2 ⟨fun p hp => ?_, List.pairwise_cons.2 hs⟩
      rcases List.mem_cons.1 hp with rfl | hp
      · exact hlt
      · exact Nat.lt_trans hlt (hs.1 p hp)
    · rename_i hlt
      refine List.pairwise_cons.2 ⟨fun p hp => ?_, ih (fun p hp => hk p (List.mem_cons_of_mem _ hp)) hs.2⟩
      rcases mem_sinsert hp with rfl | hp
      · have := hk q List.mem_cons_self; omega
      · exact hs.1 p hp

/-- Every store keeps the canonical form. -/
theorem scanon_sset [DecidableEq α] {d : Nat → α} {m : List (Nat × α)} (k : Nat) (v : α) (h : scanon d m = true) :
    scanon d (sset d m k v) = true := by
  unfold sset
  split
  · exact scanon_serase k h
  · exact scanon_sinsert (scanon_serase k h) (fun p hp => (mem_serase hp).2) (by assumption)

/-- What a partial map that keeps keys and differences leaves of a canonical list is canonical. -/
theorem scanon_filterMap [DecidableEq α] {d : Nat → α} {g : Nat × α → Option (Nat × α)} {m : List (Nat × α)}
    (hg : ∀ p q, g p = some q → q.1 = p.1 ∧ (p.2 ≠ d p.1 → q.2 ≠ d q.1)) (h : scanon d m = true) :
    scanon d (m.filterMap g) = true := by
  rw [scanon_iff] at h ⊢
  refine ⟨?_, fun q hq => ?_⟩
  · refine List.pairwise_filterMap.2 (h.1.imp (fun hab p hp q hq => ?_))
    rw [(hg _ _ hp).1, (hg _ _ hq).1]
    exact hab
  · obtain ⟨p, hp, e⟩ := List.mem_filterMap.1 hq
    exact (hg p q e).2 (h.2 p hp)

/-- Values mapped under their keys, defaults dropped, stay canonical. -/
theorem scanon_map_filter [DecidableEq α] {d : Nat → α} {g : Nat × α → Nat × α} {m : List (Nat × α)}
    (hg : ∀ p, (g p).1 = p.1) (h : scanon d m = true) :
    scanon d ((m.map g).filter (fun p => p.2 ≠ d p.1)) = true := by
  rw [scanon_iff] at h ⊢
  refine ⟨List.Pairwise.filter _ (List.pairwise_map.2 (h.1.imp (fun hab => by rw [hg, hg]; exact hab))), fun p hp => ?_⟩
  simpa using (List.mem_filter.1 hp).2

end Sys2Proof.Machine
end

