-- ==== Sys2Proof/Laws/State.lean ====
section
/-! SUPPORT. What the basic updates of the state leave and set, one lemma per field per update, so that no proof unfolds an update. -/

namespace Sys2Proof.Machine

variable (s : State)

@[simp] theorem State.at_now (t : Nat) : (s.at t).now = max s.now t := rfl
@[simp] theorem State.setReg_regs (k : Nat) (v : Word) : (s.setReg k v).regs = sset resetVal s.regs k v := rfl
@[simp] theorem State.write_mem (k : Nat) (bs : List Nat) : (s.write k bs).mem = setBytes s.mem k bs := rfl
@[simp] theorem State.used_freeCount : s.used.freeCount = s.freeCount + 1 := rfl


@[simp] theorem State.at_pending (t : Nat) : (s.at t).pending = s.pending := rfl
@[simp] theorem State.at_power (t : Nat) : (s.at t).power = s.power := rfl
@[simp] theorem State.at_regs (t : Nat) : (s.at t).regs = s.regs := rfl
@[simp] theorem State.at_mem (t : Nat) : (s.at t).mem = s.mem := rfl
@[simp] theorem State.at_lastRead (t : Nat) : (s.at t).lastRead = s.lastRead := rfl
@[simp] theorem State.at_out (t : Nat) : (s.at t).out = s.out := rfl
@[simp] theorem State.at_pav (t : Nat) : (s.at t).pav = s.pav := rfl
@[simp] theorem State.at_txnOpen (t : Nat) : (s.at t).txnOpen = s.txnOpen := rfl
@[simp] theorem State.at_txnPend (t : Nat) : (s.at t).txnPend = s.txnPend := rfl
@[simp] theorem State.at_ownAt (t : Nat) : (s.at t).ownAt = s.ownAt := rfl
@[simp] theorem State.at_progQ (t : Nat) : (s.at t).progQ = s.progQ := rfl
@[simp] theorem State.at_cells (t : Nat) : (s.at t).cells = s.cells := rfl
@[simp] theorem State.at_acc (t : Nat) : (s.at t).acc = s.acc := rfl
@[simp] theorem State.at_held (t : Nat) : (s.at t).held = s.held := rfl
@[simp] theorem State.at_satRec (t : Nat) : (s.at t).satRec = s.satRec := rfl
@[simp] theorem State.at_capture (t : Nat) : (s.at t).capture = s.capture := rfl
@[simp] theorem State.at_calSum (t : Nat) : (s.at t).calSum = s.calSum := rfl
@[simp] theorem State.at_calPrev (t : Nat) : (s.at t).calPrev = s.calPrev := rfl
@[simp] theorem State.at_calCycle (t : Nat) : (s.at t).calCycle = s.calCycle := rfl
@[simp] theorem State.at_trimNext (t : Nat) : (s.at t).trimNext = s.trimNext := rfl
@[simp] theorem State.at_lastPass (t : Nat) : (s.at t).lastPass = s.lastPass := rfl
@[simp] theorem State.at_poison (t : Nat) : (s.at t).poison = s.poison := rfl
@[simp] theorem State.at_scrubLog (t : Nat) : (s.at t).scrubLog = s.scrubLog := rfl
@[simp] theorem State.at_clearing (t : Nat) : (s.at t).clearing = s.clearing := rfl
@[simp] theorem State.at_wcCount (t : Nat) : (s.at t).wcCount = s.wcCount := rfl
@[simp] theorem State.at_pktCount (t : Nat) : (s.at t).pktCount = s.pktCount := rfl
@[simp] theorem State.at_ran (t : Nat) : (s.at t).ran = s.ran := rfl
@[simp] theorem State.at_fenced (t : Nat) : (s.at t).fenced = s.fenced := rfl
@[simp] theorem State.at_img (t : Nat) : (s.at t).img = s.img := rfl
@[simp] theorem State.at_arrTemp (t : Nat) : (s.at t).arrTemp = s.arrTemp := rfl
@[simp] theorem State.at_trkWin (t : Nat) : (s.at t).trkWin = s.trkWin := rfl
@[simp] theorem State.at_trkPrev (t : Nat) : (s.at t).trkPrev = s.trkPrev := rfl
@[simp] theorem State.at_trkNext (t : Nat) : (s.at t).trkNext = s.trkNext := rfl
@[simp] theorem State.at_degrade (t : Nat) : (s.at t).degrade = s.degrade := rfl
@[simp] theorem State.at_records (t : Nat) : (s.at t).records = s.records := rfl
@[simp] theorem State.at_score (t : Nat) : (s.at t).score = s.score := rfl
@[simp] theorem State.at_wideRep (t : Nat) : (s.at t).wideRep = s.wideRep := rfl
@[simp] theorem State.at_pxFails (t : Nat) : (s.at t).pxFails = s.pxFails := rfl
@[simp] theorem State.at_suspLast (t : Nat) : (s.at t).suspLast = s.suspLast := rfl
@[simp] theorem State.at_railPend (t : Nat) : (s.at t).railPend = s.railPend := rfl
@[simp] theorem State.at_lastSusp (t : Nat) : (s.at t).lastSusp = s.lastSusp := rfl
@[simp] theorem State.at_joinSeen (t : Nat) : (s.at t).joinSeen = s.joinSeen := rfl
@[simp] theorem State.at_cfgLoad (t : Nat) : (s.at t).cfgLoad = s.cfgLoad := rfl
@[simp] theorem State.at_valReq (t : Nat) : (s.at t).valReq = s.valReq := rfl
@[simp] theorem State.at_swTrim (t : Nat) : (s.at t).swTrim = s.swTrim := rfl
@[simp] theorem State.at_lastClean (t : Nat) : (s.at t).lastClean = s.lastClean := rfl
@[simp] theorem State.at_done (t : Nat) : (s.at t).done = s.done := rfl
@[simp] theorem State.at_failTile (t : Nat) : (s.at t).failTile = s.failTile := rfl
@[simp] theorem State.at_failCore (t : Nat) : (s.at t).failCore = s.failCore := rfl
@[simp] theorem State.at_loadArrs (t : Nat) : (s.at t).loadArrs = s.loadArrs := rfl
@[simp] theorem State.at_reqs (t : Nat) : (s.at t).reqs = s.reqs := rfl
@[simp] theorem State.at_posts (t : Nat) : (s.at t).posts = s.posts := rfl
@[simp] theorem State.at_heldCq (t : Nat) : (s.at t).heldCq = s.heldCq := rfl
@[simp] theorem State.at_fwd (t : Nat) : (s.at t).fwd = s.fwd := rfl
@[simp] theorem State.at_fwdIn (t : Nat) : (s.at t).fwdIn = s.fwdIn := rfl
@[simp] theorem State.at_undecided (t : Nat) : (s.at t).undecided = s.undecided := rfl
@[simp] theorem State.at_notices (t : Nat) : (s.at t).notices = s.notices := rfl
@[simp] theorem State.at_leaves (t : Nat) : (s.at t).leaves = s.leaves := rfl
@[simp] theorem State.at_lspIn (t : Nat) : (s.at t).lspIn = s.lspIn := rfl
@[simp] theorem State.at_evicts (t : Nat) : (s.at t).evicts = s.evicts := rfl
@[simp] theorem State.at_arrivals (t : Nat) : (s.at t).arrivals = s.arrivals := rfl
@[simp] theorem State.at_deferred (t : Nat) : (s.at t).deferred = s.deferred := rfl
@[simp] theorem State.at_decisions (t : Nat) : (s.at t).decisions = s.decisions := rfl
@[simp] theorem State.at_ctrlQ (t : Nat) : (s.at t).ctrlQ = s.ctrlQ := rfl
@[simp] theorem State.at_freeRep (t : Nat) : (s.at t).freeRep = s.freeRep := rfl
@[simp] theorem State.at_nextOrder (t : Nat) : (s.at t).nextOrder = s.nextOrder := rfl
@[simp] theorem State.at_prefixes (t : Nat) : (s.at t).prefixes = s.prefixes := rfl
@[simp] theorem State.at_nextHandle (t : Nat) : (s.at t).nextHandle = s.nextHandle := rfl
@[simp] theorem State.at_moving (t : Nat) : (s.at t).moving = s.moving := rfl
@[simp] theorem State.at_cow (t : Nat) : (s.at t).cow = s.cow := rfl
@[simp] theorem State.at_kvFail (t : Nat) : (s.at t).kvFail = s.kvFail := rfl
@[simp] theorem State.at_pqTag (t : Nat) : (s.at t).pqTag = s.pqTag := rfl
@[simp] theorem State.at_taint (t : Nat) : (s.at t).taint = s.taint := rfl
@[simp] theorem State.at_summaries (t : Nat) : (s.at t).summaries = s.summaries := rfl
@[simp] theorem State.at_draftTok (t : Nat) : (s.at t).draftTok = s.draftTok := rfl
@[simp] theorem State.at_chains (t : Nat) : (s.at t).chains = s.chains := rfl
@[simp] theorem State.at_delivered (t : Nat) : (s.at t).delivered = s.delivered := rfl
@[simp] theorem State.at_snaps (t : Nat) : (s.at t).snaps = s.snaps := rfl
@[simp] theorem State.at_decLog (t : Nat) : (s.at t).decLog = s.decLog := rfl
@[simp] theorem State.at_mirUsed (t : Nat) : (s.at t).mirUsed = s.mirUsed := rfl
@[simp] theorem State.at_copied (t : Nat) : (s.at t).copied = s.copied := rfl
@[simp] theorem State.at_fill (t : Nat) : (s.at t).fill = s.fill := rfl
@[simp] theorem State.at_fillNext (t : Nat) : (s.at t).fillNext = s.fillNext := rfl
@[simp] theorem State.at_staged (t : Nat) : (s.at t).staged = s.staged := rfl
@[simp] theorem State.at_tx (t : Nat) : (s.at t).tx = s.tx := rfl
@[simp] theorem State.at_ports (t : Nat) : (s.at t).ports = s.ports := rfl
@[simp] theorem State.at_planAt (t : Nat) : (s.at t).planAt = s.planAt := rfl
@[simp] theorem State.at_plan (t : Nat) : (s.at t).plan = s.plan := rfl
@[simp] theorem State.at_qdr (t : Nat) : (s.at t).qdr = s.qdr := rfl
@[simp] theorem State.at_pool (t : Nat) : (s.at t).pool = s.pool := rfl
@[simp] theorem State.at_bells (t : Nat) : (s.at t).bells = s.bells := rfl
@[simp] theorem State.at_mgtTxn (t : Nat) : (s.at t).mgtTxn = s.mgtTxn := rfl
@[simp] theorem State.at_lsp (t : Nat) : (s.at t).lsp = s.lsp := rfl
@[simp] theorem State.at_fuses (t : Nat) : (s.at t).fuses = s.fuses := rfl
@[simp] theorem State.at_yar (t : Nat) : (s.at t).yar = s.yar := rfl
@[simp] theorem State.at_audit (t : Nat) : (s.at t).audit = s.audit := rfl
@[simp] theorem State.at_drain (t : Nat) : (s.at t).drain = s.drain := rfl
@[simp] theorem State.at_boot (t : Nat) : (s.at t).boot = s.boot := rfl
@[simp] theorem State.at_heat (t : Nat) : (s.at t).heat = s.heat := rfl
@[simp] theorem State.at_halted (t : Nat) : (s.at t).halted = s.halted := rfl
@[simp] theorem State.at_failSolo (t : Nat) : (s.at t).failSolo = s.failSolo := rfl
@[simp] theorem State.at_staging (t : Nat) : (s.at t).staging = s.staging := rfl
@[simp] theorem State.at_imgDigest (t : Nat) : (s.at t).imgDigest = s.imgDigest := rfl
@[simp] theorem State.at_topoDigest (t : Nat) : (s.at t).topoDigest = s.topoDigest := rfl
@[simp] theorem State.at_stageBase (t : Nat) : (s.at t).stageBase = s.stageBase := rfl
@[simp] theorem State.at_stageLen (t : Nat) : (s.at t).stageLen = s.stageLen := rfl
@[simp] theorem State.at_loadStop (t : Nat) : (s.at t).loadStop = s.loadStop := rfl
@[simp] theorem State.at_loadFact (t : Nat) : (s.at t).loadFact = s.loadFact := rfl
@[simp] theorem State.at_crossings (t : Nat) : (s.at t).crossings = s.crossings := rfl
@[simp] theorem State.at_pllLost (t : Nat) : (s.at t).pllLost = s.pllLost := rfl
@[simp] theorem State.at_errCap (t : Nat) : (s.at t).errCap = s.errCap := rfl
@[simp] theorem State.at_logSeen (t : Nat) : (s.at t).logSeen = s.logSeen := rfl
@[simp] theorem State.at_freeCount (t : Nat) : (s.at t).freeCount = s.freeCount := rfl

@[simp] theorem State.setReg_pending (k : Nat) (v : Word) : (s.setReg k v).pending = s.pending := rfl
@[simp] theorem State.setReg_now (k : Nat) (v : Word) : (s.setReg k v).now = s.now := rfl
@[simp] theorem State.setReg_power (k : Nat) (v : Word) : (s.setReg k v).power = s.power := rfl
@[simp] theorem State.setReg_mem (k : Nat) (v : Word) : (s.setReg k v).mem = s.mem := rfl
@[simp] theorem State.setReg_lastRead (k : Nat) (v : Word) : (s.setReg k v).lastRead = s.lastRead := rfl
@[simp] theorem State.setReg_out (k : Nat) (v : Word) : (s.setReg k v).out = s.out := rfl
@[simp] theorem State.setReg_pav (k : Nat) (v : Word) : (s.setReg k v).pav = s.pav := rfl
@[simp] theorem State.setReg_txnOpen (k : Nat) (v : Word) : (s.setReg k v).txnOpen = s.txnOpen := rfl
@[simp] theorem State.setReg_txnPend (k : Nat) (v : Word) : (s.setReg k v).txnPend = s.txnPend := rfl
@[simp] theorem State.setReg_ownAt (k : Nat) (v : Word) : (s.setReg k v).ownAt = s.ownAt := rfl
@[simp] theorem State.setReg_progQ (k : Nat) (v : Word) : (s.setReg k v).progQ = s.progQ := rfl
@[simp] theorem State.setReg_cells (k : Nat) (v : Word) : (s.setReg k v).cells = s.cells := rfl
@[simp] theorem State.setReg_acc (k : Nat) (v : Word) : (s.setReg k v).acc = s.acc := rfl
@[simp] theorem State.setReg_held (k : Nat) (v : Word) : (s.setReg k v).held = s.held := rfl
@[simp] theorem State.setReg_satRec (k : Nat) (v : Word) : (s.setReg k v).satRec = s.satRec := rfl
@[simp] theorem State.setReg_capture (k : Nat) (v : Word) : (s.setReg k v).capture = s.capture := rfl
@[simp] theorem State.setReg_calSum (k : Nat) (v : Word) : (s.setReg k v).calSum = s.calSum := rfl
@[simp] theorem State.setReg_calPrev (k : Nat) (v : Word) : (s.setReg k v).calPrev = s.calPrev := rfl
@[simp] theorem State.setReg_calCycle (k : Nat) (v : Word) : (s.setReg k v).calCycle = s.calCycle := rfl
@[simp] theorem State.setReg_trimNext (k : Nat) (v : Word) : (s.setReg k v).trimNext = s.trimNext := rfl
@[simp] theorem State.setReg_lastPass (k : Nat) (v : Word) : (s.setReg k v).lastPass = s.lastPass := rfl
@[simp] theorem State.setReg_poison (k : Nat) (v : Word) : (s.setReg k v).poison = s.poison := rfl
@[simp] theorem State.setReg_scrubLog (k : Nat) (v : Word) : (s.setReg k v).scrubLog = s.scrubLog := rfl
@[simp] theorem State.setReg_clearing (k : Nat) (v : Word) : (s.setReg k v).clearing = s.clearing := rfl
@[simp] theorem State.setReg_wcCount (k : Nat) (v : Word) : (s.setReg k v).wcCount = s.wcCount := rfl
@[simp] theorem State.setReg_pktCount (k : Nat) (v : Word) : (s.setReg k v).pktCount = s.pktCount := rfl
@[simp] theorem State.setReg_ran (k : Nat) (v : Word) : (s.setReg k v).ran = s.ran := rfl
@[simp] theorem State.setReg_fenced (k : Nat) (v : Word) : (s.setReg k v).fenced = s.fenced := rfl
@[simp] theorem State.setReg_img (k : Nat) (v : Word) : (s.setReg k v).img = s.img := rfl
@[simp] theorem State.setReg_arrTemp (k : Nat) (v : Word) : (s.setReg k v).arrTemp = s.arrTemp := rfl
@[simp] theorem State.setReg_trkWin (k : Nat) (v : Word) : (s.setReg k v).trkWin = s.trkWin := rfl
@[simp] theorem State.setReg_trkPrev (k : Nat) (v : Word) : (s.setReg k v).trkPrev = s.trkPrev := rfl
@[simp] theorem State.setReg_trkNext (k : Nat) (v : Word) : (s.setReg k v).trkNext = s.trkNext := rfl
@[simp] theorem State.setReg_degrade (k : Nat) (v : Word) : (s.setReg k v).degrade = s.degrade := rfl
@[simp] theorem State.setReg_records (k : Nat) (v : Word) : (s.setReg k v).records = s.records := rfl
@[simp] theorem State.setReg_score (k : Nat) (v : Word) : (s.setReg k v).score = s.score := rfl
@[simp] theorem State.setReg_wideRep (k : Nat) (v : Word) : (s.setReg k v).wideRep = s.wideRep := rfl
@[simp] theorem State.setReg_pxFails (k : Nat) (v : Word) : (s.setReg k v).pxFails = s.pxFails := rfl
@[simp] theorem State.setReg_suspLast (k : Nat) (v : Word) : (s.setReg k v).suspLast = s.suspLast := rfl
@[simp] theorem State.setReg_railPend (k : Nat) (v : Word) : (s.setReg k v).railPend = s.railPend := rfl
@[simp] theorem State.setReg_lastSusp (k : Nat) (v : Word) : (s.setReg k v).lastSusp = s.lastSusp := rfl
@[simp] theorem State.setReg_joinSeen (k : Nat) (v : Word) : (s.setReg k v).joinSeen = s.joinSeen := rfl
@[simp] theorem State.setReg_cfgLoad (k : Nat) (v : Word) : (s.setReg k v).cfgLoad = s.cfgLoad := rfl
@[simp] theorem State.setReg_valReq (k : Nat) (v : Word) : (s.setReg k v).valReq = s.valReq := rfl
@[simp] theorem State.setReg_swTrim (k : Nat) (v : Word) : (s.setReg k v).swTrim = s.swTrim := rfl
@[simp] theorem State.setReg_lastClean (k : Nat) (v : Word) : (s.setReg k v).lastClean = s.lastClean := rfl
@[simp] theorem State.setReg_done (k : Nat) (v : Word) : (s.setReg k v).done = s.done := rfl
@[simp] theorem State.setReg_failTile (k : Nat) (v : Word) : (s.setReg k v).failTile = s.failTile := rfl
@[simp] theorem State.setReg_failCore (k : Nat) (v : Word) : (s.setReg k v).failCore = s.failCore := rfl
@[simp] theorem State.setReg_loadArrs (k : Nat) (v : Word) : (s.setReg k v).loadArrs = s.loadArrs := rfl
@[simp] theorem State.setReg_reqs (k : Nat) (v : Word) : (s.setReg k v).reqs = s.reqs := rfl
@[simp] theorem State.setReg_posts (k : Nat) (v : Word) : (s.setReg k v).posts = s.posts := rfl
@[simp] theorem State.setReg_heldCq (k : Nat) (v : Word) : (s.setReg k v).heldCq = s.heldCq := rfl
@[simp] theorem State.setReg_fwd (k : Nat) (v : Word) : (s.setReg k v).fwd = s.fwd := rfl
@[simp] theorem State.setReg_fwdIn (k : Nat) (v : Word) : (s.setReg k v).fwdIn = s.fwdIn := rfl
@[simp] theorem State.setReg_undecided (k : Nat) (v : Word) : (s.setReg k v).undecided = s.undecided := rfl
@[simp] theorem State.setReg_notices (k : Nat) (v : Word) : (s.setReg k v).notices = s.notices := rfl
@[simp] theorem State.setReg_leaves (k : Nat) (v : Word) : (s.setReg k v).leaves = s.leaves := rfl
@[simp] theorem State.setReg_lspIn (k : Nat) (v : Word) : (s.setReg k v).lspIn = s.lspIn := rfl
@[simp] theorem State.setReg_evicts (k : Nat) (v : Word) : (s.setReg k v).evicts = s.evicts := rfl
@[simp] theorem State.setReg_arrivals (k : Nat) (v : Word) : (s.setReg k v).arrivals = s.arrivals := rfl
@[simp] theorem State.setReg_deferred (k : Nat) (v : Word) : (s.setReg k v).deferred = s.deferred := rfl
@[simp] theorem State.setReg_decisions (k : Nat) (v : Word) : (s.setReg k v).decisions = s.decisions := rfl
@[simp] theorem State.setReg_ctrlQ (k : Nat) (v : Word) : (s.setReg k v).ctrlQ = s.ctrlQ := rfl
@[simp] theorem State.setReg_freeRep (k : Nat) (v : Word) : (s.setReg k v).freeRep = s.freeRep := rfl
@[simp] theorem State.setReg_nextOrder (k : Nat) (v : Word) : (s.setReg k v).nextOrder = s.nextOrder := rfl
@[simp] theorem State.setReg_prefixes (k : Nat) (v : Word) : (s.setReg k v).prefixes = s.prefixes := rfl
@[simp] theorem State.setReg_nextHandle (k : Nat) (v : Word) : (s.setReg k v).nextHandle = s.nextHandle := rfl
@[simp] theorem State.setReg_moving (k : Nat) (v : Word) : (s.setReg k v).moving = s.moving := rfl
@[simp] theorem State.setReg_cow (k : Nat) (v : Word) : (s.setReg k v).cow = s.cow := rfl
@[simp] theorem State.setReg_kvFail (k : Nat) (v : Word) : (s.setReg k v).kvFail = s.kvFail := rfl
@[simp] theorem State.setReg_pqTag (k : Nat) (v : Word) : (s.setReg k v).pqTag = s.pqTag := rfl
@[simp] theorem State.setReg_taint (k : Nat) (v : Word) : (s.setReg k v).taint = s.taint := rfl
@[simp] theorem State.setReg_summaries (k : Nat) (v : Word) : (s.setReg k v).summaries = s.summaries := rfl
@[simp] theorem State.setReg_draftTok (k : Nat) (v : Word) : (s.setReg k v).draftTok = s.draftTok := rfl
@[simp] theorem State.setReg_chains (k : Nat) (v : Word) : (s.setReg k v).chains = s.chains := rfl
@[simp] theorem State.setReg_delivered (k : Nat) (v : Word) : (s.setReg k v).delivered = s.delivered := rfl
@[simp] theorem State.setReg_snaps (k : Nat) (v : Word) : (s.setReg k v).snaps = s.snaps := rfl
@[simp] theorem State.setReg_decLog (k : Nat) (v : Word) : (s.setReg k v).decLog = s.decLog := rfl
@[simp] theorem State.setReg_mirUsed (k : Nat) (v : Word) : (s.setReg k v).mirUsed = s.mirUsed := rfl
@[simp] theorem State.setReg_copied (k : Nat) (v : Word) : (s.setReg k v).copied = s.copied := rfl
@[simp] theorem State.setReg_fill (k : Nat) (v : Word) : (s.setReg k v).fill = s.fill := rfl
@[simp] theorem State.setReg_fillNext (k : Nat) (v : Word) : (s.setReg k v).fillNext = s.fillNext := rfl
@[simp] theorem State.setReg_staged (k : Nat) (v : Word) : (s.setReg k v).staged = s.staged := rfl
@[simp] theorem State.setReg_tx (k : Nat) (v : Word) : (s.setReg k v).tx = s.tx := rfl
@[simp] theorem State.setReg_ports (k : Nat) (v : Word) : (s.setReg k v).ports = s.ports := rfl
@[simp] theorem State.setReg_planAt (k : Nat) (v : Word) : (s.setReg k v).planAt = s.planAt := rfl
@[simp] theorem State.setReg_plan (k : Nat) (v : Word) : (s.setReg k v).plan = s.plan := rfl
@[simp] theorem State.setReg_qdr (k : Nat) (v : Word) : (s.setReg k v).qdr = s.qdr := rfl
@[simp] theorem State.setReg_pool (k : Nat) (v : Word) : (s.setReg k v).pool = s.pool := rfl
@[simp] theorem State.setReg_bells (k : Nat) (v : Word) : (s.setReg k v).bells = s.bells := rfl
@[simp] theorem State.setReg_mgtTxn (k : Nat) (v : Word) : (s.setReg k v).mgtTxn = s.mgtTxn := rfl
@[simp] theorem State.setReg_lsp (k : Nat) (v : Word) : (s.setReg k v).lsp = s.lsp := rfl
@[simp] theorem State.setReg_fuses (k : Nat) (v : Word) : (s.setReg k v).fuses = s.fuses := rfl
@[simp] theorem State.setReg_yar (k : Nat) (v : Word) : (s.setReg k v).yar = s.yar := rfl
@[simp] theorem State.setReg_audit (k : Nat) (v : Word) : (s.setReg k v).audit = s.audit := rfl
@[simp] theorem State.setReg_drain (k : Nat) (v : Word) : (s.setReg k v).drain = s.drain := rfl
@[simp] theorem State.setReg_boot (k : Nat) (v : Word) : (s.setReg k v).boot = s.boot := rfl
@[simp] theorem State.setReg_heat (k : Nat) (v : Word) : (s.setReg k v).heat = s.heat := rfl
@[simp] theorem State.setReg_halted (k : Nat) (v : Word) : (s.setReg k v).halted = s.halted := rfl
@[simp] theorem State.setReg_failSolo (k : Nat) (v : Word) : (s.setReg k v).failSolo = s.failSolo := rfl
@[simp] theorem State.setReg_staging (k : Nat) (v : Word) : (s.setReg k v).staging = s.staging := rfl
@[simp] theorem State.setReg_imgDigest (k : Nat) (v : Word) : (s.setReg k v).imgDigest = s.imgDigest := rfl
@[simp] theorem State.setReg_topoDigest (k : Nat) (v : Word) : (s.setReg k v).topoDigest = s.topoDigest := rfl
@[simp] theorem State.setReg_stageBase (k : Nat) (v : Word) : (s.setReg k v).stageBase = s.stageBase := rfl
@[simp] theorem State.setReg_stageLen (k : Nat) (v : Word) : (s.setReg k v).stageLen = s.stageLen := rfl
@[simp] theorem State.setReg_loadStop (k : Nat) (v : Word) : (s.setReg k v).loadStop = s.loadStop := rfl
@[simp] theorem State.setReg_loadFact (k : Nat) (v : Word) : (s.setReg k v).loadFact = s.loadFact := rfl
@[simp] theorem State.setReg_crossings (k : Nat) (v : Word) : (s.setReg k v).crossings = s.crossings := rfl
@[simp] theorem State.setReg_pllLost (k : Nat) (v : Word) : (s.setReg k v).pllLost = s.pllLost := rfl
@[simp] theorem State.setReg_errCap (k : Nat) (v : Word) : (s.setReg k v).errCap = s.errCap := rfl
@[simp] theorem State.setReg_logSeen (k : Nat) (v : Word) : (s.setReg k v).logSeen = s.logSeen := rfl
@[simp] theorem State.setReg_freeCount (k : Nat) (v : Word) : (s.setReg k v).freeCount = s.freeCount := rfl

@[simp] theorem State.setf_pending (F : Fld) (x : Nat) : (s.setf F x).pending = s.pending := rfl
@[simp] theorem State.setf_now (F : Fld) (x : Nat) : (s.setf F x).now = s.now := rfl
@[simp] theorem State.setf_power (F : Fld) (x : Nat) : (s.setf F x).power = s.power := rfl
@[simp] theorem State.setf_mem (F : Fld) (x : Nat) : (s.setf F x).mem = s.mem := rfl
@[simp] theorem State.setf_lastRead (F : Fld) (x : Nat) : (s.setf F x).lastRead = s.lastRead := rfl
@[simp] theorem State.setf_out (F : Fld) (x : Nat) : (s.setf F x).out = s.out := rfl
@[simp] theorem State.setf_pav (F : Fld) (x : Nat) : (s.setf F x).pav = s.pav := rfl
@[simp] theorem State.setf_txnOpen (F : Fld) (x : Nat) : (s.setf F x).txnOpen = s.txnOpen := rfl
@[simp] theorem State.setf_txnPend (F : Fld) (x : Nat) : (s.setf F x).txnPend = s.txnPend := rfl
@[simp] theorem State.setf_ownAt (F : Fld) (x : Nat) : (s.setf F x).ownAt = s.ownAt := rfl
@[simp] theorem State.setf_progQ (F : Fld) (x : Nat) : (s.setf F x).progQ = s.progQ := rfl
@[simp] theorem State.setf_cells (F : Fld) (x : Nat) : (s.setf F x).cells = s.cells := rfl
@[simp] theorem State.setf_acc (F : Fld) (x : Nat) : (s.setf F x).acc = s.acc := rfl
@[simp] theorem State.setf_held (F : Fld) (x : Nat) : (s.setf F x).held = s.held := rfl
@[simp] theorem State.setf_satRec (F : Fld) (x : Nat) : (s.setf F x).satRec = s.satRec := rfl
@[simp] theorem State.setf_capture (F : Fld) (x : Nat) : (s.setf F x).capture = s.capture := rfl
@[simp] theorem State.setf_calSum (F : Fld) (x : Nat) : (s.setf F x).calSum = s.calSum := rfl
@[simp] theorem State.setf_calPrev (F : Fld) (x : Nat) : (s.setf F x).calPrev = s.calPrev := rfl
@[simp] theorem State.setf_calCycle (F : Fld) (x : Nat) : (s.setf F x).calCycle = s.calCycle := rfl
@[simp] theorem State.setf_trimNext (F : Fld) (x : Nat) : (s.setf F x).trimNext = s.trimNext := rfl
@[simp] theorem State.setf_lastPass (F : Fld) (x : Nat) : (s.setf F x).lastPass = s.lastPass := rfl
@[simp] theorem State.setf_poison (F : Fld) (x : Nat) : (s.setf F x).poison = s.poison := rfl
@[simp] theorem State.setf_scrubLog (F : Fld) (x : Nat) : (s.setf F x).scrubLog = s.scrubLog := rfl
@[simp] theorem State.setf_clearing (F : Fld) (x : Nat) : (s.setf F x).clearing = s.clearing := rfl
@[simp] theorem State.setf_wcCount (F : Fld) (x : Nat) : (s.setf F x).wcCount = s.wcCount := rfl
@[simp] theorem State.setf_pktCount (F : Fld) (x : Nat) : (s.setf F x).pktCount = s.pktCount := rfl
@[simp] theorem State.setf_ran (F : Fld) (x : Nat) : (s.setf F x).ran = s.ran := rfl
@[simp] theorem State.setf_fenced (F : Fld) (x : Nat) : (s.setf F x).fenced = s.fenced := rfl
@[simp] theorem State.setf_img (F : Fld) (x : Nat) : (s.setf F x).img = s.img := rfl
@[simp] theorem State.setf_arrTemp (F : Fld) (x : Nat) : (s.setf F x).arrTemp = s.arrTemp := rfl
@[simp] theorem State.setf_trkWin (F : Fld) (x : Nat) : (s.setf F x).trkWin = s.trkWin := rfl
@[simp] theorem State.setf_trkPrev (F : Fld) (x : Nat) : (s.setf F x).trkPrev = s.trkPrev := rfl
@[simp] theorem State.setf_trkNext (F : Fld) (x : Nat) : (s.setf F x).trkNext = s.trkNext := rfl
@[simp] theorem State.setf_degrade (F : Fld) (x : Nat) : (s.setf F x).degrade = s.degrade := rfl
@[simp] theorem State.setf_records (F : Fld) (x : Nat) : (s.setf F x).records = s.records := rfl
@[simp] theorem State.setf_score (F : Fld) (x : Nat) : (s.setf F x).score = s.score := rfl
@[simp] theorem State.setf_wideRep (F : Fld) (x : Nat) : (s.setf F x).wideRep = s.wideRep := rfl
@[simp] theorem State.setf_pxFails (F : Fld) (x : Nat) : (s.setf F x).pxFails = s.pxFails := rfl
@[simp] theorem State.setf_suspLast (F : Fld) (x : Nat) : (s.setf F x).suspLast = s.suspLast := rfl
@[simp] theorem State.setf_railPend (F : Fld) (x : Nat) : (s.setf F x).railPend = s.railPend := rfl
@[simp] theorem State.setf_lastSusp (F : Fld) (x : Nat) : (s.setf F x).lastSusp = s.lastSusp := rfl
@[simp] theorem State.setf_joinSeen (F : Fld) (x : Nat) : (s.setf F x).joinSeen = s.joinSeen := rfl
@[simp] theorem State.setf_cfgLoad (F : Fld) (x : Nat) : (s.setf F x).cfgLoad = s.cfgLoad := rfl
@[simp] theorem State.setf_valReq (F : Fld) (x : Nat) : (s.setf F x).valReq = s.valReq := rfl
@[simp] theorem State.setf_swTrim (F : Fld) (x : Nat) : (s.setf F x).swTrim = s.swTrim := rfl
@[simp] theorem State.setf_lastClean (F : Fld) (x : Nat) : (s.setf F x).lastClean = s.lastClean := rfl
@[simp] theorem State.setf_done (F : Fld) (x : Nat) : (s.setf F x).done = s.done := rfl
@[simp] theorem State.setf_failTile (F : Fld) (x : Nat) : (s.setf F x).failTile = s.failTile := rfl
@[simp] theorem State.setf_failCore (F : Fld) (x : Nat) : (s.setf F x).failCore = s.failCore := rfl
@[simp] theorem State.setf_loadArrs (F : Fld) (x : Nat) : (s.setf F x).loadArrs = s.loadArrs := rfl
@[simp] theorem State.setf_reqs (F : Fld) (x : Nat) : (s.setf F x).reqs = s.reqs := rfl
@[simp] theorem State.setf_posts (F : Fld) (x : Nat) : (s.setf F x).posts = s.posts := rfl
@[simp] theorem State.setf_heldCq (F : Fld) (x : Nat) : (s.setf F x).heldCq = s.heldCq := rfl
@[simp] theorem State.setf_fwd (F : Fld) (x : Nat) : (s.setf F x).fwd = s.fwd := rfl
@[simp] theorem State.setf_fwdIn (F : Fld) (x : Nat) : (s.setf F x).fwdIn = s.fwdIn := rfl
@[simp] theorem State.setf_undecided (F : Fld) (x : Nat) : (s.setf F x).undecided = s.undecided := rfl
@[simp] theorem State.setf_notices (F : Fld) (x : Nat) : (s.setf F x).notices = s.notices := rfl
@[simp] theorem State.setf_leaves (F : Fld) (x : Nat) : (s.setf F x).leaves = s.leaves := rfl
@[simp] theorem State.setf_lspIn (F : Fld) (x : Nat) : (s.setf F x).lspIn = s.lspIn := rfl
@[simp] theorem State.setf_evicts (F : Fld) (x : Nat) : (s.setf F x).evicts = s.evicts := rfl
@[simp] theorem State.setf_arrivals (F : Fld) (x : Nat) : (s.setf F x).arrivals = s.arrivals := rfl
@[simp] theorem State.setf_deferred (F : Fld) (x : Nat) : (s.setf F x).deferred = s.deferred := rfl
@[simp] theorem State.setf_decisions (F : Fld) (x : Nat) : (s.setf F x).decisions = s.decisions := rfl
@[simp] theorem State.setf_ctrlQ (F : Fld) (x : Nat) : (s.setf F x).ctrlQ = s.ctrlQ := rfl
@[simp] theorem State.setf_freeRep (F : Fld) (x : Nat) : (s.setf F x).freeRep = s.freeRep := rfl
@[simp] theorem State.setf_nextOrder (F : Fld) (x : Nat) : (s.setf F x).nextOrder = s.nextOrder := rfl
@[simp] theorem State.setf_prefixes (F : Fld) (x : Nat) : (s.setf F x).prefixes = s.prefixes := rfl
@[simp] theorem State.setf_nextHandle (F : Fld) (x : Nat) : (s.setf F x).nextHandle = s.nextHandle := rfl
@[simp] theorem State.setf_moving (F : Fld) (x : Nat) : (s.setf F x).moving = s.moving := rfl
@[simp] theorem State.setf_cow (F : Fld) (x : Nat) : (s.setf F x).cow = s.cow := rfl
@[simp] theorem State.setf_kvFail (F : Fld) (x : Nat) : (s.setf F x).kvFail = s.kvFail := rfl
@[simp] theorem State.setf_pqTag (F : Fld) (x : Nat) : (s.setf F x).pqTag = s.pqTag := rfl
@[simp] theorem State.setf_taint (F : Fld) (x : Nat) : (s.setf F x).taint = s.taint := rfl
@[simp] theorem State.setf_summaries (F : Fld) (x : Nat) : (s.setf F x).summaries = s.summaries := rfl
@[simp] theorem State.setf_draftTok (F : Fld) (x : Nat) : (s.setf F x).draftTok = s.draftTok := rfl
@[simp] theorem State.setf_chains (F : Fld) (x : Nat) : (s.setf F x).chains = s.chains := rfl
@[simp] theorem State.setf_delivered (F : Fld) (x : Nat) : (s.setf F x).delivered = s.delivered := rfl
@[simp] theorem State.setf_snaps (F : Fld) (x : Nat) : (s.setf F x).snaps = s.snaps := rfl
@[simp] theorem State.setf_decLog (F : Fld) (x : Nat) : (s.setf F x).decLog = s.decLog := rfl
@[simp] theorem State.setf_mirUsed (F : Fld) (x : Nat) : (s.setf F x).mirUsed = s.mirUsed := rfl
@[simp] theorem State.setf_copied (F : Fld) (x : Nat) : (s.setf F x).copied = s.copied := rfl
@[simp] theorem State.setf_fill (F : Fld) (x : Nat) : (s.setf F x).fill = s.fill := rfl
@[simp] theorem State.setf_fillNext (F : Fld) (x : Nat) : (s.setf F x).fillNext = s.fillNext := rfl
@[simp] theorem State.setf_staged (F : Fld) (x : Nat) : (s.setf F x).staged = s.staged := rfl
@[simp] theorem State.setf_tx (F : Fld) (x : Nat) : (s.setf F x).tx = s.tx := rfl
@[simp] theorem State.setf_ports (F : Fld) (x : Nat) : (s.setf F x).ports = s.ports := rfl
@[simp] theorem State.setf_planAt (F : Fld) (x : Nat) : (s.setf F x).planAt = s.planAt := rfl
@[simp] theorem State.setf_plan (F : Fld) (x : Nat) : (s.setf F x).plan = s.plan := rfl
@[simp] theorem State.setf_qdr (F : Fld) (x : Nat) : (s.setf F x).qdr = s.qdr := rfl
@[simp] theorem State.setf_pool (F : Fld) (x : Nat) : (s.setf F x).pool = s.pool := rfl
@[simp] theorem State.setf_bells (F : Fld) (x : Nat) : (s.setf F x).bells = s.bells := rfl
@[simp] theorem State.setf_mgtTxn (F : Fld) (x : Nat) : (s.setf F x).mgtTxn = s.mgtTxn := rfl
@[simp] theorem State.setf_lsp (F : Fld) (x : Nat) : (s.setf F x).lsp = s.lsp := rfl
@[simp] theorem State.setf_fuses (F : Fld) (x : Nat) : (s.setf F x).fuses = s.fuses := rfl
@[simp] theorem State.setf_yar (F : Fld) (x : Nat) : (s.setf F x).yar = s.yar := rfl
@[simp] theorem State.setf_audit (F : Fld) (x : Nat) : (s.setf F x).audit = s.audit := rfl
@[simp] theorem State.setf_drain (F : Fld) (x : Nat) : (s.setf F x).drain = s.drain := rfl
@[simp] theorem State.setf_boot (F : Fld) (x : Nat) : (s.setf F x).boot = s.boot := rfl
@[simp] theorem State.setf_heat (F : Fld) (x : Nat) : (s.setf F x).heat = s.heat := rfl
@[simp] theorem State.setf_halted (F : Fld) (x : Nat) : (s.setf F x).halted = s.halted := rfl
@[simp] theorem State.setf_failSolo (F : Fld) (x : Nat) : (s.setf F x).failSolo = s.failSolo := rfl
@[simp] theorem State.setf_staging (F : Fld) (x : Nat) : (s.setf F x).staging = s.staging := rfl
@[simp] theorem State.setf_imgDigest (F : Fld) (x : Nat) : (s.setf F x).imgDigest = s.imgDigest := rfl
@[simp] theorem State.setf_topoDigest (F : Fld) (x : Nat) : (s.setf F x).topoDigest = s.topoDigest := rfl
@[simp] theorem State.setf_stageBase (F : Fld) (x : Nat) : (s.setf F x).stageBase = s.stageBase := rfl
@[simp] theorem State.setf_stageLen (F : Fld) (x : Nat) : (s.setf F x).stageLen = s.stageLen := rfl
@[simp] theorem State.setf_loadStop (F : Fld) (x : Nat) : (s.setf F x).loadStop = s.loadStop := rfl
@[simp] theorem State.setf_loadFact (F : Fld) (x : Nat) : (s.setf F x).loadFact = s.loadFact := rfl
@[simp] theorem State.setf_crossings (F : Fld) (x : Nat) : (s.setf F x).crossings = s.crossings := rfl
@[simp] theorem State.setf_pllLost (F : Fld) (x : Nat) : (s.setf F x).pllLost = s.pllLost := rfl
@[simp] theorem State.setf_errCap (F : Fld) (x : Nat) : (s.setf F x).errCap = s.errCap := rfl
@[simp] theorem State.setf_logSeen (F : Fld) (x : Nat) : (s.setf F x).logSeen = s.logSeen := rfl
@[simp] theorem State.setf_freeCount (F : Fld) (x : Nat) : (s.setf F x).freeCount = s.freeCount := rfl

@[simp] theorem State.add_pending (F : Fld) (n : Nat) : (s.add F n).pending = s.pending := rfl
@[simp] theorem State.add_now (F : Fld) (n : Nat) : (s.add F n).now = s.now := rfl
@[simp] theorem State.add_power (F : Fld) (n : Nat) : (s.add F n).power = s.power := rfl
@[simp] theorem State.add_mem (F : Fld) (n : Nat) : (s.add F n).mem = s.mem := rfl
@[simp] theorem State.add_lastRead (F : Fld) (n : Nat) : (s.add F n).lastRead = s.lastRead := rfl
@[simp] theorem State.add_out (F : Fld) (n : Nat) : (s.add F n).out = s.out := rfl
@[simp] theorem State.add_pav (F : Fld) (n : Nat) : (s.add F n).pav = s.pav := rfl
@[simp] theorem State.add_txnOpen (F : Fld) (n : Nat) : (s.add F n).txnOpen = s.txnOpen := rfl
@[simp] theorem State.add_txnPend (F : Fld) (n : Nat) : (s.add F n).txnPend = s.txnPend := rfl
@[simp] theorem State.add_ownAt (F : Fld) (n : Nat) : (s.add F n).ownAt = s.ownAt := rfl
@[simp] theorem State.add_progQ (F : Fld) (n : Nat) : (s.add F n).progQ = s.progQ := rfl
@[simp] theorem State.add_cells (F : Fld) (n : Nat) : (s.add F n).cells = s.cells := rfl
@[simp] theorem State.add_acc (F : Fld) (n : Nat) : (s.add F n).acc = s.acc := rfl
@[simp] theorem State.add_held (F : Fld) (n : Nat) : (s.add F n).held = s.held := rfl
@[simp] theorem State.add_satRec (F : Fld) (n : Nat) : (s.add F n).satRec = s.satRec := rfl
@[simp] theorem State.add_capture (F : Fld) (n : Nat) : (s.add F n).capture = s.capture := rfl
@[simp] theorem State.add_calSum (F : Fld) (n : Nat) : (s.add F n).calSum = s.calSum := rfl
@[simp] theorem State.add_calPrev (F : Fld) (n : Nat) : (s.add F n).calPrev = s.calPrev := rfl
@[simp] theorem State.add_calCycle (F : Fld) (n : Nat) : (s.add F n).calCycle = s.calCycle := rfl
@[simp] theorem State.add_trimNext (F : Fld) (n : Nat) : (s.add F n).trimNext = s.trimNext := rfl
@[simp] theorem State.add_lastPass (F : Fld) (n : Nat) : (s.add F n).lastPass = s.lastPass := rfl
@[simp] theorem State.add_poison (F : Fld) (n : Nat) : (s.add F n).poison = s.poison := rfl
@[simp] theorem State.add_scrubLog (F : Fld) (n : Nat) : (s.add F n).scrubLog = s.scrubLog := rfl
@[simp] theorem State.add_clearing (F : Fld) (n : Nat) : (s.add F n).clearing = s.clearing := rfl
@[simp] theorem State.add_wcCount (F : Fld) (n : Nat) : (s.add F n).wcCount = s.wcCount := rfl
@[simp] theorem State.add_pktCount (F : Fld) (n : Nat) : (s.add F n).pktCount = s.pktCount := rfl
@[simp] theorem State.add_ran (F : Fld) (n : Nat) : (s.add F n).ran = s.ran := rfl
@[simp] theorem State.add_fenced (F : Fld) (n : Nat) : (s.add F n).fenced = s.fenced := rfl
@[simp] theorem State.add_img (F : Fld) (n : Nat) : (s.add F n).img = s.img := rfl
@[simp] theorem State.add_arrTemp (F : Fld) (n : Nat) : (s.add F n).arrTemp = s.arrTemp := rfl
@[simp] theorem State.add_trkWin (F : Fld) (n : Nat) : (s.add F n).trkWin = s.trkWin := rfl
@[simp] theorem State.add_trkPrev (F : Fld) (n : Nat) : (s.add F n).trkPrev = s.trkPrev := rfl
@[simp] theorem State.add_trkNext (F : Fld) (n : Nat) : (s.add F n).trkNext = s.trkNext := rfl
@[simp] theorem State.add_degrade (F : Fld) (n : Nat) : (s.add F n).degrade = s.degrade := rfl
@[simp] theorem State.add_records (F : Fld) (n : Nat) : (s.add F n).records = s.records := rfl
@[simp] theorem State.add_score (F : Fld) (n : Nat) : (s.add F n).score = s.score := rfl
@[simp] theorem State.add_wideRep (F : Fld) (n : Nat) : (s.add F n).wideRep = s.wideRep := rfl
@[simp] theorem State.add_pxFails (F : Fld) (n : Nat) : (s.add F n).pxFails = s.pxFails := rfl
@[simp] theorem State.add_suspLast (F : Fld) (n : Nat) : (s.add F n).suspLast = s.suspLast := rfl
@[simp] theorem State.add_railPend (F : Fld) (n : Nat) : (s.add F n).railPend = s.railPend := rfl
@[simp] theorem State.add_lastSusp (F : Fld) (n : Nat) : (s.add F n).lastSusp = s.lastSusp := rfl
@[simp] theorem State.add_joinSeen (F : Fld) (n : Nat) : (s.add F n).joinSeen = s.joinSeen := rfl
@[simp] theorem State.add_cfgLoad (F : Fld) (n : Nat) : (s.add F n).cfgLoad = s.cfgLoad := rfl
@[simp] theorem State.add_valReq (F : Fld) (n : Nat) : (s.add F n).valReq = s.valReq := rfl
@[simp] theorem State.add_swTrim (F : Fld) (n : Nat) : (s.add F n).swTrim = s.swTrim := rfl
@[simp] theorem State.add_lastClean (F : Fld) (n : Nat) : (s.add F n).lastClean = s.lastClean := rfl
@[simp] theorem State.add_done (F : Fld) (n : Nat) : (s.add F n).done = s.done := rfl
@[simp] theorem State.add_failTile (F : Fld) (n : Nat) : (s.add F n).failTile = s.failTile := rfl
@[simp] theorem State.add_failCore (F : Fld) (n : Nat) : (s.add F n).failCore = s.failCore := rfl
@[simp] theorem State.add_loadArrs (F : Fld) (n : Nat) : (s.add F n).loadArrs = s.loadArrs := rfl
@[simp] theorem State.add_reqs (F : Fld) (n : Nat) : (s.add F n).reqs = s.reqs := rfl
@[simp] theorem State.add_posts (F : Fld) (n : Nat) : (s.add F n).posts = s.posts := rfl
@[simp] theorem State.add_heldCq (F : Fld) (n : Nat) : (s.add F n).heldCq = s.heldCq := rfl
@[simp] theorem State.add_fwd (F : Fld) (n : Nat) : (s.add F n).fwd = s.fwd := rfl
@[simp] theorem State.add_fwdIn (F : Fld) (n : Nat) : (s.add F n).fwdIn = s.fwdIn := rfl
@[simp] theorem State.add_undecided (F : Fld) (n : Nat) : (s.add F n).undecided = s.undecided := rfl
@[simp] theorem State.add_notices (F : Fld) (n : Nat) : (s.add F n).notices = s.notices := rfl
@[simp] theorem State.add_leaves (F : Fld) (n : Nat) : (s.add F n).leaves = s.leaves := rfl
@[simp] theorem State.add_lspIn (F : Fld) (n : Nat) : (s.add F n).lspIn = s.lspIn := rfl
@[simp] theorem State.add_evicts (F : Fld) (n : Nat) : (s.add F n).evicts = s.evicts := rfl
@[simp] theorem State.add_arrivals (F : Fld) (n : Nat) : (s.add F n).arrivals = s.arrivals := rfl
@[simp] theorem State.add_deferred (F : Fld) (n : Nat) : (s.add F n).deferred = s.deferred := rfl
@[simp] theorem State.add_decisions (F : Fld) (n : Nat) : (s.add F n).decisions = s.decisions := rfl
@[simp] theorem State.add_ctrlQ (F : Fld) (n : Nat) : (s.add F n).ctrlQ = s.ctrlQ := rfl
@[simp] theorem State.add_freeRep (F : Fld) (n : Nat) : (s.add F n).freeRep = s.freeRep := rfl
@[simp] theorem State.add_nextOrder (F : Fld) (n : Nat) : (s.add F n).nextOrder = s.nextOrder := rfl
@[simp] theorem State.add_prefixes (F : Fld) (n : Nat) : (s.add F n).prefixes = s.prefixes := rfl
@[simp] theorem State.add_nextHandle (F : Fld) (n : Nat) : (s.add F n).nextHandle = s.nextHandle := rfl
@[simp] theorem State.add_moving (F : Fld) (n : Nat) : (s.add F n).moving = s.moving := rfl
@[simp] theorem State.add_cow (F : Fld) (n : Nat) : (s.add F n).cow = s.cow := rfl
@[simp] theorem State.add_kvFail (F : Fld) (n : Nat) : (s.add F n).kvFail = s.kvFail := rfl
@[simp] theorem State.add_pqTag (F : Fld) (n : Nat) : (s.add F n).pqTag = s.pqTag := rfl
@[simp] theorem State.add_taint (F : Fld) (n : Nat) : (s.add F n).taint = s.taint := rfl
@[simp] theorem State.add_summaries (F : Fld) (n : Nat) : (s.add F n).summaries = s.summaries := rfl
@[simp] theorem State.add_draftTok (F : Fld) (n : Nat) : (s.add F n).draftTok = s.draftTok := rfl
@[simp] theorem State.add_chains (F : Fld) (n : Nat) : (s.add F n).chains = s.chains := rfl
@[simp] theorem State.add_delivered (F : Fld) (n : Nat) : (s.add F n).delivered = s.delivered := rfl
@[simp] theorem State.add_snaps (F : Fld) (n : Nat) : (s.add F n).snaps = s.snaps := rfl
@[simp] theorem State.add_decLog (F : Fld) (n : Nat) : (s.add F n).decLog = s.decLog := rfl
@[simp] theorem State.add_mirUsed (F : Fld) (n : Nat) : (s.add F n).mirUsed = s.mirUsed := rfl
@[simp] theorem State.add_copied (F : Fld) (n : Nat) : (s.add F n).copied = s.copied := rfl
@[simp] theorem State.add_fill (F : Fld) (n : Nat) : (s.add F n).fill = s.fill := rfl
@[simp] theorem State.add_fillNext (F : Fld) (n : Nat) : (s.add F n).fillNext = s.fillNext := rfl
@[simp] theorem State.add_staged (F : Fld) (n : Nat) : (s.add F n).staged = s.staged := rfl
@[simp] theorem State.add_tx (F : Fld) (n : Nat) : (s.add F n).tx = s.tx := rfl
@[simp] theorem State.add_ports (F : Fld) (n : Nat) : (s.add F n).ports = s.ports := rfl
@[simp] theorem State.add_planAt (F : Fld) (n : Nat) : (s.add F n).planAt = s.planAt := rfl
@[simp] theorem State.add_plan (F : Fld) (n : Nat) : (s.add F n).plan = s.plan := rfl
@[simp] theorem State.add_qdr (F : Fld) (n : Nat) : (s.add F n).qdr = s.qdr := rfl
@[simp] theorem State.add_pool (F : Fld) (n : Nat) : (s.add F n).pool = s.pool := rfl
@[simp] theorem State.add_bells (F : Fld) (n : Nat) : (s.add F n).bells = s.bells := rfl
@[simp] theorem State.add_mgtTxn (F : Fld) (n : Nat) : (s.add F n).mgtTxn = s.mgtTxn := rfl
@[simp] theorem State.add_lsp (F : Fld) (n : Nat) : (s.add F n).lsp = s.lsp := rfl
@[simp] theorem State.add_fuses (F : Fld) (n : Nat) : (s.add F n).fuses = s.fuses := rfl
@[simp] theorem State.add_yar (F : Fld) (n : Nat) : (s.add F n).yar = s.yar := rfl
@[simp] theorem State.add_audit (F : Fld) (n : Nat) : (s.add F n).audit = s.audit := rfl
@[simp] theorem State.add_drain (F : Fld) (n : Nat) : (s.add F n).drain = s.drain := rfl
@[simp] theorem State.add_boot (F : Fld) (n : Nat) : (s.add F n).boot = s.boot := rfl
@[simp] theorem State.add_heat (F : Fld) (n : Nat) : (s.add F n).heat = s.heat := rfl
@[simp] theorem State.add_halted (F : Fld) (n : Nat) : (s.add F n).halted = s.halted := rfl
@[simp] theorem State.add_failSolo (F : Fld) (n : Nat) : (s.add F n).failSolo = s.failSolo := rfl
@[simp] theorem State.add_staging (F : Fld) (n : Nat) : (s.add F n).staging = s.staging := rfl
@[simp] theorem State.add_imgDigest (F : Fld) (n : Nat) : (s.add F n).imgDigest = s.imgDigest := rfl
@[simp] theorem State.add_topoDigest (F : Fld) (n : Nat) : (s.add F n).topoDigest = s.topoDigest := rfl
@[simp] theorem State.add_stageBase (F : Fld) (n : Nat) : (s.add F n).stageBase = s.stageBase := rfl
@[simp] theorem State.add_stageLen (F : Fld) (n : Nat) : (s.add F n).stageLen = s.stageLen := rfl
@[simp] theorem State.add_loadStop (F : Fld) (n : Nat) : (s.add F n).loadStop = s.loadStop := rfl
@[simp] theorem State.add_loadFact (F : Fld) (n : Nat) : (s.add F n).loadFact = s.loadFact := rfl
@[simp] theorem State.add_crossings (F : Fld) (n : Nat) : (s.add F n).crossings = s.crossings := rfl
@[simp] theorem State.add_pllLost (F : Fld) (n : Nat) : (s.add F n).pllLost = s.pllLost := rfl
@[simp] theorem State.add_errCap (F : Fld) (n : Nat) : (s.add F n).errCap = s.errCap := rfl
@[simp] theorem State.add_logSeen (F : Fld) (n : Nat) : (s.add F n).logSeen = s.logSeen := rfl
@[simp] theorem State.add_freeCount (F : Fld) (n : Nat) : (s.add F n).freeCount = s.freeCount := rfl

@[simp] theorem State.inc_pending (F : Fld) : (s.inc F).pending = s.pending := rfl
@[simp] theorem State.inc_now (F : Fld) : (s.inc F).now = s.now := rfl
@[simp] theorem State.inc_power (F : Fld) : (s.inc F).power = s.power := rfl
@[simp] theorem State.inc_mem (F : Fld) : (s.inc F).mem = s.mem := rfl
@[simp] theorem State.inc_lastRead (F : Fld) : (s.inc F).lastRead = s.lastRead := rfl
@[simp] theorem State.inc_out (F : Fld) : (s.inc F).out = s.out := rfl
@[simp] theorem State.inc_pav (F : Fld) : (s.inc F).pav = s.pav := rfl
@[simp] theorem State.inc_txnOpen (F : Fld) : (s.inc F).txnOpen = s.txnOpen := rfl
@[simp] theorem State.inc_txnPend (F : Fld) : (s.inc F).txnPend = s.txnPend := rfl
@[simp] theorem State.inc_ownAt (F : Fld) : (s.inc F).ownAt = s.ownAt := rfl
@[simp] theorem State.inc_progQ (F : Fld) : (s.inc F).progQ = s.progQ := rfl
@[simp] theorem State.inc_cells (F : Fld) : (s.inc F).cells = s.cells := rfl
@[simp] theorem State.inc_acc (F : Fld) : (s.inc F).acc = s.acc := rfl
@[simp] theorem State.inc_held (F : Fld) : (s.inc F).held = s.held := rfl
@[simp] theorem State.inc_satRec (F : Fld) : (s.inc F).satRec = s.satRec := rfl
@[simp] theorem State.inc_capture (F : Fld) : (s.inc F).capture = s.capture := rfl
@[simp] theorem State.inc_calSum (F : Fld) : (s.inc F).calSum = s.calSum := rfl
@[simp] theorem State.inc_calPrev (F : Fld) : (s.inc F).calPrev = s.calPrev := rfl
@[simp] theorem State.inc_calCycle (F : Fld) : (s.inc F).calCycle = s.calCycle := rfl
@[simp] theorem State.inc_trimNext (F : Fld) : (s.inc F).trimNext = s.trimNext := rfl
@[simp] theorem State.inc_lastPass (F : Fld) : (s.inc F).lastPass = s.lastPass := rfl
@[simp] theorem State.inc_poison (F : Fld) : (s.inc F).poison = s.poison := rfl
@[simp] theorem State.inc_scrubLog (F : Fld) : (s.inc F).scrubLog = s.scrubLog := rfl
@[simp] theorem State.inc_clearing (F : Fld) : (s.inc F).clearing = s.clearing := rfl
@[simp] theorem State.inc_wcCount (F : Fld) : (s.inc F).wcCount = s.wcCount := rfl
@[simp] theorem State.inc_pktCount (F : Fld) : (s.inc F).pktCount = s.pktCount := rfl
@[simp] theorem State.inc_ran (F : Fld) : (s.inc F).ran = s.ran := rfl
@[simp] theorem State.inc_fenced (F : Fld) : (s.inc F).fenced = s.fenced := rfl
@[simp] theorem State.inc_img (F : Fld) : (s.inc F).img = s.img := rfl
@[simp] theorem State.inc_arrTemp (F : Fld) : (s.inc F).arrTemp = s.arrTemp := rfl
@[simp] theorem State.inc_trkWin (F : Fld) : (s.inc F).trkWin = s.trkWin := rfl
@[simp] theorem State.inc_trkPrev (F : Fld) : (s.inc F).trkPrev = s.trkPrev := rfl
@[simp] theorem State.inc_trkNext (F : Fld) : (s.inc F).trkNext = s.trkNext := rfl
@[simp] theorem State.inc_degrade (F : Fld) : (s.inc F).degrade = s.degrade := rfl
@[simp] theorem State.inc_records (F : Fld) : (s.inc F).records = s.records := rfl
@[simp] theorem State.inc_score (F : Fld) : (s.inc F).score = s.score := rfl
@[simp] theorem State.inc_wideRep (F : Fld) : (s.inc F).wideRep = s.wideRep := rfl
@[simp] theorem State.inc_pxFails (F : Fld) : (s.inc F).pxFails = s.pxFails := rfl
@[simp] theorem State.inc_suspLast (F : Fld) : (s.inc F).suspLast = s.suspLast := rfl
@[simp] theorem State.inc_railPend (F : Fld) : (s.inc F).railPend = s.railPend := rfl
@[simp] theorem State.inc_lastSusp (F : Fld) : (s.inc F).lastSusp = s.lastSusp := rfl
@[simp] theorem State.inc_joinSeen (F : Fld) : (s.inc F).joinSeen = s.joinSeen := rfl
@[simp] theorem State.inc_cfgLoad (F : Fld) : (s.inc F).cfgLoad = s.cfgLoad := rfl
@[simp] theorem State.inc_valReq (F : Fld) : (s.inc F).valReq = s.valReq := rfl
@[simp] theorem State.inc_swTrim (F : Fld) : (s.inc F).swTrim = s.swTrim := rfl
@[simp] theorem State.inc_lastClean (F : Fld) : (s.inc F).lastClean = s.lastClean := rfl
@[simp] theorem State.inc_done (F : Fld) : (s.inc F).done = s.done := rfl
@[simp] theorem State.inc_failTile (F : Fld) : (s.inc F).failTile = s.failTile := rfl
@[simp] theorem State.inc_failCore (F : Fld) : (s.inc F).failCore = s.failCore := rfl
@[simp] theorem State.inc_loadArrs (F : Fld) : (s.inc F).loadArrs = s.loadArrs := rfl
@[simp] theorem State.inc_reqs (F : Fld) : (s.inc F).reqs = s.reqs := rfl
@[simp] theorem State.inc_posts (F : Fld) : (s.inc F).posts = s.posts := rfl
@[simp] theorem State.inc_heldCq (F : Fld) : (s.inc F).heldCq = s.heldCq := rfl
@[simp] theorem State.inc_fwd (F : Fld) : (s.inc F).fwd = s.fwd := rfl
@[simp] theorem State.inc_fwdIn (F : Fld) : (s.inc F).fwdIn = s.fwdIn := rfl
@[simp] theorem State.inc_undecided (F : Fld) : (s.inc F).undecided = s.undecided := rfl
@[simp] theorem State.inc_notices (F : Fld) : (s.inc F).notices = s.notices := rfl
@[simp] theorem State.inc_leaves (F : Fld) : (s.inc F).leaves = s.leaves := rfl
@[simp] theorem State.inc_lspIn (F : Fld) : (s.inc F).lspIn = s.lspIn := rfl
@[simp] theorem State.inc_evicts (F : Fld) : (s.inc F).evicts = s.evicts := rfl
@[simp] theorem State.inc_arrivals (F : Fld) : (s.inc F).arrivals = s.arrivals := rfl
@[simp] theorem State.inc_deferred (F : Fld) : (s.inc F).deferred = s.deferred := rfl
@[simp] theorem State.inc_decisions (F : Fld) : (s.inc F).decisions = s.decisions := rfl
@[simp] theorem State.inc_ctrlQ (F : Fld) : (s.inc F).ctrlQ = s.ctrlQ := rfl
@[simp] theorem State.inc_freeRep (F : Fld) : (s.inc F).freeRep = s.freeRep := rfl
@[simp] theorem State.inc_nextOrder (F : Fld) : (s.inc F).nextOrder = s.nextOrder := rfl
@[simp] theorem State.inc_prefixes (F : Fld) : (s.inc F).prefixes = s.prefixes := rfl
@[simp] theorem State.inc_nextHandle (F : Fld) : (s.inc F).nextHandle = s.nextHandle := rfl
@[simp] theorem State.inc_moving (F : Fld) : (s.inc F).moving = s.moving := rfl
@[simp] theorem State.inc_cow (F : Fld) : (s.inc F).cow = s.cow := rfl
@[simp] theorem State.inc_kvFail (F : Fld) : (s.inc F).kvFail = s.kvFail := rfl
@[simp] theorem State.inc_pqTag (F : Fld) : (s.inc F).pqTag = s.pqTag := rfl
@[simp] theorem State.inc_taint (F : Fld) : (s.inc F).taint = s.taint := rfl
@[simp] theorem State.inc_summaries (F : Fld) : (s.inc F).summaries = s.summaries := rfl
@[simp] theorem State.inc_draftTok (F : Fld) : (s.inc F).draftTok = s.draftTok := rfl
@[simp] theorem State.inc_chains (F : Fld) : (s.inc F).chains = s.chains := rfl
@[simp] theorem State.inc_delivered (F : Fld) : (s.inc F).delivered = s.delivered := rfl
@[simp] theorem State.inc_snaps (F : Fld) : (s.inc F).snaps = s.snaps := rfl
@[simp] theorem State.inc_decLog (F : Fld) : (s.inc F).decLog = s.decLog := rfl
@[simp] theorem State.inc_mirUsed (F : Fld) : (s.inc F).mirUsed = s.mirUsed := rfl
@[simp] theorem State.inc_copied (F : Fld) : (s.inc F).copied = s.copied := rfl
@[simp] theorem State.inc_fill (F : Fld) : (s.inc F).fill = s.fill := rfl
@[simp] theorem State.inc_fillNext (F : Fld) : (s.inc F).fillNext = s.fillNext := rfl
@[simp] theorem State.inc_staged (F : Fld) : (s.inc F).staged = s.staged := rfl
@[simp] theorem State.inc_tx (F : Fld) : (s.inc F).tx = s.tx := rfl
@[simp] theorem State.inc_ports (F : Fld) : (s.inc F).ports = s.ports := rfl
@[simp] theorem State.inc_planAt (F : Fld) : (s.inc F).planAt = s.planAt := rfl
@[simp] theorem State.inc_plan (F : Fld) : (s.inc F).plan = s.plan := rfl
@[simp] theorem State.inc_qdr (F : Fld) : (s.inc F).qdr = s.qdr := rfl
@[simp] theorem State.inc_pool (F : Fld) : (s.inc F).pool = s.pool := rfl
@[simp] theorem State.inc_bells (F : Fld) : (s.inc F).bells = s.bells := rfl
@[simp] theorem State.inc_mgtTxn (F : Fld) : (s.inc F).mgtTxn = s.mgtTxn := rfl
@[simp] theorem State.inc_lsp (F : Fld) : (s.inc F).lsp = s.lsp := rfl
@[simp] theorem State.inc_fuses (F : Fld) : (s.inc F).fuses = s.fuses := rfl
@[simp] theorem State.inc_yar (F : Fld) : (s.inc F).yar = s.yar := rfl
@[simp] theorem State.inc_audit (F : Fld) : (s.inc F).audit = s.audit := rfl
@[simp] theorem State.inc_drain (F : Fld) : (s.inc F).drain = s.drain := rfl
@[simp] theorem State.inc_boot (F : Fld) : (s.inc F).boot = s.boot := rfl
@[simp] theorem State.inc_heat (F : Fld) : (s.inc F).heat = s.heat := rfl
@[simp] theorem State.inc_halted (F : Fld) : (s.inc F).halted = s.halted := rfl
@[simp] theorem State.inc_failSolo (F : Fld) : (s.inc F).failSolo = s.failSolo := rfl
@[simp] theorem State.inc_staging (F : Fld) : (s.inc F).staging = s.staging := rfl
@[simp] theorem State.inc_imgDigest (F : Fld) : (s.inc F).imgDigest = s.imgDigest := rfl
@[simp] theorem State.inc_topoDigest (F : Fld) : (s.inc F).topoDigest = s.topoDigest := rfl
@[simp] theorem State.inc_stageBase (F : Fld) : (s.inc F).stageBase = s.stageBase := rfl
@[simp] theorem State.inc_stageLen (F : Fld) : (s.inc F).stageLen = s.stageLen := rfl
@[simp] theorem State.inc_loadStop (F : Fld) : (s.inc F).loadStop = s.loadStop := rfl
@[simp] theorem State.inc_loadFact (F : Fld) : (s.inc F).loadFact = s.loadFact := rfl
@[simp] theorem State.inc_crossings (F : Fld) : (s.inc F).crossings = s.crossings := rfl
@[simp] theorem State.inc_pllLost (F : Fld) : (s.inc F).pllLost = s.pllLost := rfl
@[simp] theorem State.inc_errCap (F : Fld) : (s.inc F).errCap = s.errCap := rfl
@[simp] theorem State.inc_logSeen (F : Fld) : (s.inc F).logSeen = s.logSeen := rfl
@[simp] theorem State.inc_freeCount (F : Fld) : (s.inc F).freeCount = s.freeCount := rfl

@[simp] theorem State.write_pending (k : Nat) (bs : List Nat) : (s.write k bs).pending = s.pending := rfl
@[simp] theorem State.write_now (k : Nat) (bs : List Nat) : (s.write k bs).now = s.now := rfl
@[simp] theorem State.write_power (k : Nat) (bs : List Nat) : (s.write k bs).power = s.power := rfl
@[simp] theorem State.write_regs (k : Nat) (bs : List Nat) : (s.write k bs).regs = s.regs := rfl
@[simp] theorem State.write_lastRead (k : Nat) (bs : List Nat) : (s.write k bs).lastRead = s.lastRead := rfl
@[simp] theorem State.write_out (k : Nat) (bs : List Nat) : (s.write k bs).out = s.out := rfl
@[simp] theorem State.write_pav (k : Nat) (bs : List Nat) : (s.write k bs).pav = s.pav := rfl
@[simp] theorem State.write_txnOpen (k : Nat) (bs : List Nat) : (s.write k bs).txnOpen = s.txnOpen := rfl
@[simp] theorem State.write_txnPend (k : Nat) (bs : List Nat) : (s.write k bs).txnPend = s.txnPend := rfl
@[simp] theorem State.write_ownAt (k : Nat) (bs : List Nat) : (s.write k bs).ownAt = s.ownAt := rfl
@[simp] theorem State.write_progQ (k : Nat) (bs : List Nat) : (s.write k bs).progQ = s.progQ := rfl
@[simp] theorem State.write_cells (k : Nat) (bs : List Nat) : (s.write k bs).cells = s.cells := rfl
@[simp] theorem State.write_acc (k : Nat) (bs : List Nat) : (s.write k bs).acc = s.acc := rfl
@[simp] theorem State.write_held (k : Nat) (bs : List Nat) : (s.write k bs).held = s.held := rfl
@[simp] theorem State.write_satRec (k : Nat) (bs : List Nat) : (s.write k bs).satRec = s.satRec := rfl
@[simp] theorem State.write_capture (k : Nat) (bs : List Nat) : (s.write k bs).capture = s.capture := rfl
@[simp] theorem State.write_calSum (k : Nat) (bs : List Nat) : (s.write k bs).calSum = s.calSum := rfl
@[simp] theorem State.write_calPrev (k : Nat) (bs : List Nat) : (s.write k bs).calPrev = s.calPrev := rfl
@[simp] theorem State.write_calCycle (k : Nat) (bs : List Nat) : (s.write k bs).calCycle = s.calCycle := rfl
@[simp] theorem State.write_trimNext (k : Nat) (bs : List Nat) : (s.write k bs).trimNext = s.trimNext := rfl
@[simp] theorem State.write_lastPass (k : Nat) (bs : List Nat) : (s.write k bs).lastPass = s.lastPass := rfl
@[simp] theorem State.write_poison (k : Nat) (bs : List Nat) : (s.write k bs).poison = s.poison := rfl
@[simp] theorem State.write_scrubLog (k : Nat) (bs : List Nat) : (s.write k bs).scrubLog = s.scrubLog := rfl
@[simp] theorem State.write_clearing (k : Nat) (bs : List Nat) : (s.write k bs).clearing = s.clearing := rfl
@[simp] theorem State.write_wcCount (k : Nat) (bs : List Nat) : (s.write k bs).wcCount = s.wcCount := rfl
@[simp] theorem State.write_pktCount (k : Nat) (bs : List Nat) : (s.write k bs).pktCount = s.pktCount := rfl
@[simp] theorem State.write_ran (k : Nat) (bs : List Nat) : (s.write k bs).ran = s.ran := rfl
@[simp] theorem State.write_fenced (k : Nat) (bs : List Nat) : (s.write k bs).fenced = s.fenced := rfl
@[simp] theorem State.write_img (k : Nat) (bs : List Nat) : (s.write k bs).img = s.img := rfl
@[simp] theorem State.write_arrTemp (k : Nat) (bs : List Nat) : (s.write k bs).arrTemp = s.arrTemp := rfl
@[simp] theorem State.write_trkWin (k : Nat) (bs : List Nat) : (s.write k bs).trkWin = s.trkWin := rfl
@[simp] theorem State.write_trkPrev (k : Nat) (bs : List Nat) : (s.write k bs).trkPrev = s.trkPrev := rfl
@[simp] theorem State.write_trkNext (k : Nat) (bs : List Nat) : (s.write k bs).trkNext = s.trkNext := rfl
@[simp] theorem State.write_degrade (k : Nat) (bs : List Nat) : (s.write k bs).degrade = s.degrade := rfl
@[simp] theorem State.write_records (k : Nat) (bs : List Nat) : (s.write k bs).records = s.records := rfl
@[simp] theorem State.write_score (k : Nat) (bs : List Nat) : (s.write k bs).score = s.score := rfl
@[simp] theorem State.write_wideRep (k : Nat) (bs : List Nat) : (s.write k bs).wideRep = s.wideRep := rfl
@[simp] theorem State.write_pxFails (k : Nat) (bs : List Nat) : (s.write k bs).pxFails = s.pxFails := rfl
@[simp] theorem State.write_suspLast (k : Nat) (bs : List Nat) : (s.write k bs).suspLast = s.suspLast := rfl
@[simp] theorem State.write_railPend (k : Nat) (bs : List Nat) : (s.write k bs).railPend = s.railPend := rfl
@[simp] theorem State.write_lastSusp (k : Nat) (bs : List Nat) : (s.write k bs).lastSusp = s.lastSusp := rfl
@[simp] theorem State.write_joinSeen (k : Nat) (bs : List Nat) : (s.write k bs).joinSeen = s.joinSeen := rfl
@[simp] theorem State.write_cfgLoad (k : Nat) (bs : List Nat) : (s.write k bs).cfgLoad = s.cfgLoad := rfl
@[simp] theorem State.write_valReq (k : Nat) (bs : List Nat) : (s.write k bs).valReq = s.valReq := rfl
@[simp] theorem State.write_swTrim (k : Nat) (bs : List Nat) : (s.write k bs).swTrim = s.swTrim := rfl
@[simp] theorem State.write_lastClean (k : Nat) (bs : List Nat) : (s.write k bs).lastClean = s.lastClean := rfl
@[simp] theorem State.write_done (k : Nat) (bs : List Nat) : (s.write k bs).done = s.done := rfl
@[simp] theorem State.write_failTile (k : Nat) (bs : List Nat) : (s.write k bs).failTile = s.failTile := rfl
@[simp] theorem State.write_failCore (k : Nat) (bs : List Nat) : (s.write k bs).failCore = s.failCore := rfl
@[simp] theorem State.write_loadArrs (k : Nat) (bs : List Nat) : (s.write k bs).loadArrs = s.loadArrs := rfl
@[simp] theorem State.write_reqs (k : Nat) (bs : List Nat) : (s.write k bs).reqs = s.reqs := rfl
@[simp] theorem State.write_posts (k : Nat) (bs : List Nat) : (s.write k bs).posts = s.posts := rfl
@[simp] theorem State.write_heldCq (k : Nat) (bs : List Nat) : (s.write k bs).heldCq = s.heldCq := rfl
@[simp] theorem State.write_fwd (k : Nat) (bs : List Nat) : (s.write k bs).fwd = s.fwd := rfl
@[simp] theorem State.write_fwdIn (k : Nat) (bs : List Nat) : (s.write k bs).fwdIn = s.fwdIn := rfl
@[simp] theorem State.write_undecided (k : Nat) (bs : List Nat) : (s.write k bs).undecided = s.undecided := rfl
@[simp] theorem State.write_notices (k : Nat) (bs : List Nat) : (s.write k bs).notices = s.notices := rfl
@[simp] theorem State.write_leaves (k : Nat) (bs : List Nat) : (s.write k bs).leaves = s.leaves := rfl
@[simp] theorem State.write_lspIn (k : Nat) (bs : List Nat) : (s.write k bs).lspIn = s.lspIn := rfl
@[simp] theorem State.write_evicts (k : Nat) (bs : List Nat) : (s.write k bs).evicts = s.evicts := rfl
@[simp] theorem State.write_arrivals (k : Nat) (bs : List Nat) : (s.write k bs).arrivals = s.arrivals := rfl
@[simp] theorem State.write_deferred (k : Nat) (bs : List Nat) : (s.write k bs).deferred = s.deferred := rfl
@[simp] theorem State.write_decisions (k : Nat) (bs : List Nat) : (s.write k bs).decisions = s.decisions := rfl
@[simp] theorem State.write_ctrlQ (k : Nat) (bs : List Nat) : (s.write k bs).ctrlQ = s.ctrlQ := rfl
@[simp] theorem State.write_freeRep (k : Nat) (bs : List Nat) : (s.write k bs).freeRep = s.freeRep := rfl
@[simp] theorem State.write_nextOrder (k : Nat) (bs : List Nat) : (s.write k bs).nextOrder = s.nextOrder := rfl
@[simp] theorem State.write_prefixes (k : Nat) (bs : List Nat) : (s.write k bs).prefixes = s.prefixes := rfl
@[simp] theorem State.write_nextHandle (k : Nat) (bs : List Nat) : (s.write k bs).nextHandle = s.nextHandle := rfl
@[simp] theorem State.write_moving (k : Nat) (bs : List Nat) : (s.write k bs).moving = s.moving := rfl
@[simp] theorem State.write_cow (k : Nat) (bs : List Nat) : (s.write k bs).cow = s.cow := rfl
@[simp] theorem State.write_kvFail (k : Nat) (bs : List Nat) : (s.write k bs).kvFail = s.kvFail := rfl
@[simp] theorem State.write_pqTag (k : Nat) (bs : List Nat) : (s.write k bs).pqTag = s.pqTag := rfl
@[simp] theorem State.write_taint (k : Nat) (bs : List Nat) : (s.write k bs).taint = s.taint := rfl
@[simp] theorem State.write_summaries (k : Nat) (bs : List Nat) : (s.write k bs).summaries = s.summaries := rfl
@[simp] theorem State.write_draftTok (k : Nat) (bs : List Nat) : (s.write k bs).draftTok = s.draftTok := rfl
@[simp] theorem State.write_chains (k : Nat) (bs : List Nat) : (s.write k bs).chains = s.chains := rfl
@[simp] theorem State.write_delivered (k : Nat) (bs : List Nat) : (s.write k bs).delivered = s.delivered := rfl
@[simp] theorem State.write_snaps (k : Nat) (bs : List Nat) : (s.write k bs).snaps = s.snaps := rfl
@[simp] theorem State.write_decLog (k : Nat) (bs : List Nat) : (s.write k bs).decLog = s.decLog := rfl
@[simp] theorem State.write_mirUsed (k : Nat) (bs : List Nat) : (s.write k bs).mirUsed = s.mirUsed := rfl
@[simp] theorem State.write_copied (k : Nat) (bs : List Nat) : (s.write k bs).copied = s.copied := rfl
@[simp] theorem State.write_fill (k : Nat) (bs : List Nat) : (s.write k bs).fill = s.fill := rfl
@[simp] theorem State.write_fillNext (k : Nat) (bs : List Nat) : (s.write k bs).fillNext = s.fillNext := rfl
@[simp] theorem State.write_staged (k : Nat) (bs : List Nat) : (s.write k bs).staged = s.staged := rfl
@[simp] theorem State.write_tx (k : Nat) (bs : List Nat) : (s.write k bs).tx = s.tx := rfl
@[simp] theorem State.write_ports (k : Nat) (bs : List Nat) : (s.write k bs).ports = s.ports := rfl
@[simp] theorem State.write_planAt (k : Nat) (bs : List Nat) : (s.write k bs).planAt = s.planAt := rfl
@[simp] theorem State.write_plan (k : Nat) (bs : List Nat) : (s.write k bs).plan = s.plan := rfl
@[simp] theorem State.write_qdr (k : Nat) (bs : List Nat) : (s.write k bs).qdr = s.qdr := rfl
@[simp] theorem State.write_pool (k : Nat) (bs : List Nat) : (s.write k bs).pool = s.pool := rfl
@[simp] theorem State.write_bells (k : Nat) (bs : List Nat) : (s.write k bs).bells = s.bells := rfl
@[simp] theorem State.write_mgtTxn (k : Nat) (bs : List Nat) : (s.write k bs).mgtTxn = s.mgtTxn := rfl
@[simp] theorem State.write_lsp (k : Nat) (bs : List Nat) : (s.write k bs).lsp = s.lsp := rfl
@[simp] theorem State.write_fuses (k : Nat) (bs : List Nat) : (s.write k bs).fuses = s.fuses := rfl
@[simp] theorem State.write_yar (k : Nat) (bs : List Nat) : (s.write k bs).yar = s.yar := rfl
@[simp] theorem State.write_audit (k : Nat) (bs : List Nat) : (s.write k bs).audit = s.audit := rfl
@[simp] theorem State.write_drain (k : Nat) (bs : List Nat) : (s.write k bs).drain = s.drain := rfl
@[simp] theorem State.write_boot (k : Nat) (bs : List Nat) : (s.write k bs).boot = s.boot := rfl
@[simp] theorem State.write_heat (k : Nat) (bs : List Nat) : (s.write k bs).heat = s.heat := rfl
@[simp] theorem State.write_halted (k : Nat) (bs : List Nat) : (s.write k bs).halted = s.halted := rfl
@[simp] theorem State.write_failSolo (k : Nat) (bs : List Nat) : (s.write k bs).failSolo = s.failSolo := rfl
@[simp] theorem State.write_staging (k : Nat) (bs : List Nat) : (s.write k bs).staging = s.staging := rfl
@[simp] theorem State.write_imgDigest (k : Nat) (bs : List Nat) : (s.write k bs).imgDigest = s.imgDigest := rfl
@[simp] theorem State.write_topoDigest (k : Nat) (bs : List Nat) : (s.write k bs).topoDigest = s.topoDigest := rfl
@[simp] theorem State.write_stageBase (k : Nat) (bs : List Nat) : (s.write k bs).stageBase = s.stageBase := rfl
@[simp] theorem State.write_stageLen (k : Nat) (bs : List Nat) : (s.write k bs).stageLen = s.stageLen := rfl
@[simp] theorem State.write_loadStop (k : Nat) (bs : List Nat) : (s.write k bs).loadStop = s.loadStop := rfl
@[simp] theorem State.write_loadFact (k : Nat) (bs : List Nat) : (s.write k bs).loadFact = s.loadFact := rfl
@[simp] theorem State.write_crossings (k : Nat) (bs : List Nat) : (s.write k bs).crossings = s.crossings := rfl
@[simp] theorem State.write_pllLost (k : Nat) (bs : List Nat) : (s.write k bs).pllLost = s.pllLost := rfl
@[simp] theorem State.write_errCap (k : Nat) (bs : List Nat) : (s.write k bs).errCap = s.errCap := rfl
@[simp] theorem State.write_logSeen (k : Nat) (bs : List Nat) : (s.write k bs).logSeen = s.logSeen := rfl
@[simp] theorem State.write_freeCount (k : Nat) (bs : List Nat) : (s.write k bs).freeCount = s.freeCount := rfl

@[simp] theorem State.used_pending : s.used.pending = s.pending := rfl
@[simp] theorem State.used_now : s.used.now = s.now := rfl
@[simp] theorem State.used_power : s.used.power = s.power := rfl
@[simp] theorem State.used_regs : s.used.regs = s.regs := rfl
@[simp] theorem State.used_mem : s.used.mem = s.mem := rfl
@[simp] theorem State.used_lastRead : s.used.lastRead = s.lastRead := rfl
@[simp] theorem State.used_out : s.used.out = s.out := rfl
@[simp] theorem State.used_pav : s.used.pav = s.pav := rfl
@[simp] theorem State.used_txnOpen : s.used.txnOpen = s.txnOpen := rfl
@[simp] theorem State.used_txnPend : s.used.txnPend = s.txnPend := rfl
@[simp] theorem State.used_ownAt : s.used.ownAt = s.ownAt := rfl
@[simp] theorem State.used_progQ : s.used.progQ = s.progQ := rfl
@[simp] theorem State.used_cells : s.used.cells = s.cells := rfl
@[simp] theorem State.used_acc : s.used.acc = s.acc := rfl
@[simp] theorem State.used_held : s.used.held = s.held := rfl
@[simp] theorem State.used_satRec : s.used.satRec = s.satRec := rfl
@[simp] theorem State.used_capture : s.used.capture = s.capture := rfl
@[simp] theorem State.used_calSum : s.used.calSum = s.calSum := rfl
@[simp] theorem State.used_calPrev : s.used.calPrev = s.calPrev := rfl
@[simp] theorem State.used_calCycle : s.used.calCycle = s.calCycle := rfl
@[simp] theorem State.used_trimNext : s.used.trimNext = s.trimNext := rfl
@[simp] theorem State.used_lastPass : s.used.lastPass = s.lastPass := rfl
@[simp] theorem State.used_poison : s.used.poison = s.poison := rfl
@[simp] theorem State.used_scrubLog : s.used.scrubLog = s.scrubLog := rfl
@[simp] theorem State.used_clearing : s.used.clearing = s.clearing := rfl
@[simp] theorem State.used_wcCount : s.used.wcCount = s.wcCount := rfl
@[simp] theorem State.used_pktCount : s.used.pktCount = s.pktCount := rfl
@[simp] theorem State.used_ran : s.used.ran = s.ran := rfl
@[simp] theorem State.used_fenced : s.used.fenced = s.fenced := rfl
@[simp] theorem State.used_img : s.used.img = s.img := rfl
@[simp] theorem State.used_arrTemp : s.used.arrTemp = s.arrTemp := rfl
@[simp] theorem State.used_trkWin : s.used.trkWin = s.trkWin := rfl
@[simp] theorem State.used_trkPrev : s.used.trkPrev = s.trkPrev := rfl
@[simp] theorem State.used_trkNext : s.used.trkNext = s.trkNext := rfl
@[simp] theorem State.used_degrade : s.used.degrade = s.degrade := rfl
@[simp] theorem State.used_records : s.used.records = s.records := rfl
@[simp] theorem State.used_score : s.used.score = s.score := rfl
@[simp] theorem State.used_wideRep : s.used.wideRep = s.wideRep := rfl
@[simp] theorem State.used_pxFails : s.used.pxFails = s.pxFails := rfl
@[simp] theorem State.used_suspLast : s.used.suspLast = s.suspLast := rfl
@[simp] theorem State.used_railPend : s.used.railPend = s.railPend := rfl
@[simp] theorem State.used_lastSusp : s.used.lastSusp = s.lastSusp := rfl
@[simp] theorem State.used_joinSeen : s.used.joinSeen = s.joinSeen := rfl
@[simp] theorem State.used_cfgLoad : s.used.cfgLoad = s.cfgLoad := rfl
@[simp] theorem State.used_valReq : s.used.valReq = s.valReq := rfl
@[simp] theorem State.used_swTrim : s.used.swTrim = s.swTrim := rfl
@[simp] theorem State.used_lastClean : s.used.lastClean = s.lastClean := rfl
@[simp] theorem State.used_done : s.used.done = s.done := rfl
@[simp] theorem State.used_failTile : s.used.failTile = s.failTile := rfl
@[simp] theorem State.used_failCore : s.used.failCore = s.failCore := rfl
@[simp] theorem State.used_loadArrs : s.used.loadArrs = s.loadArrs := rfl
@[simp] theorem State.used_reqs : s.used.reqs = s.reqs := rfl
@[simp] theorem State.used_posts : s.used.posts = s.posts := rfl
@[simp] theorem State.used_heldCq : s.used.heldCq = s.heldCq := rfl
@[simp] theorem State.used_fwd : s.used.fwd = s.fwd := rfl
@[simp] theorem State.used_fwdIn : s.used.fwdIn = s.fwdIn := rfl
@[simp] theorem State.used_undecided : s.used.undecided = s.undecided := rfl
@[simp] theorem State.used_notices : s.used.notices = s.notices := rfl
@[simp] theorem State.used_leaves : s.used.leaves = s.leaves := rfl
@[simp] theorem State.used_lspIn : s.used.lspIn = s.lspIn := rfl
@[simp] theorem State.used_evicts : s.used.evicts = s.evicts := rfl
@[simp] theorem State.used_arrivals : s.used.arrivals = s.arrivals := rfl
@[simp] theorem State.used_deferred : s.used.deferred = s.deferred := rfl
@[simp] theorem State.used_decisions : s.used.decisions = s.decisions := rfl
@[simp] theorem State.used_ctrlQ : s.used.ctrlQ = s.ctrlQ := rfl
@[simp] theorem State.used_freeRep : s.used.freeRep = s.freeRep := rfl
@[simp] theorem State.used_nextOrder : s.used.nextOrder = s.nextOrder := rfl
@[simp] theorem State.used_prefixes : s.used.prefixes = s.prefixes := rfl
@[simp] theorem State.used_nextHandle : s.used.nextHandle = s.nextHandle := rfl
@[simp] theorem State.used_moving : s.used.moving = s.moving := rfl
@[simp] theorem State.used_cow : s.used.cow = s.cow := rfl
@[simp] theorem State.used_kvFail : s.used.kvFail = s.kvFail := rfl
@[simp] theorem State.used_pqTag : s.used.pqTag = s.pqTag := rfl
@[simp] theorem State.used_taint : s.used.taint = s.taint := rfl
@[simp] theorem State.used_summaries : s.used.summaries = s.summaries := rfl
@[simp] theorem State.used_draftTok : s.used.draftTok = s.draftTok := rfl
@[simp] theorem State.used_chains : s.used.chains = s.chains := rfl
@[simp] theorem State.used_delivered : s.used.delivered = s.delivered := rfl
@[simp] theorem State.used_snaps : s.used.snaps = s.snaps := rfl
@[simp] theorem State.used_decLog : s.used.decLog = s.decLog := rfl
@[simp] theorem State.used_mirUsed : s.used.mirUsed = s.mirUsed := rfl
@[simp] theorem State.used_copied : s.used.copied = s.copied := rfl
@[simp] theorem State.used_fill : s.used.fill = s.fill := rfl
@[simp] theorem State.used_fillNext : s.used.fillNext = s.fillNext := rfl
@[simp] theorem State.used_staged : s.used.staged = s.staged := rfl
@[simp] theorem State.used_tx : s.used.tx = s.tx := rfl
@[simp] theorem State.used_ports : s.used.ports = s.ports := rfl
@[simp] theorem State.used_planAt : s.used.planAt = s.planAt := rfl
@[simp] theorem State.used_plan : s.used.plan = s.plan := rfl
@[simp] theorem State.used_qdr : s.used.qdr = s.qdr := rfl
@[simp] theorem State.used_pool : s.used.pool = s.pool := rfl
@[simp] theorem State.used_bells : s.used.bells = s.bells := rfl
@[simp] theorem State.used_mgtTxn : s.used.mgtTxn = s.mgtTxn := rfl
@[simp] theorem State.used_lsp : s.used.lsp = s.lsp := rfl
@[simp] theorem State.used_fuses : s.used.fuses = s.fuses := rfl
@[simp] theorem State.used_yar : s.used.yar = s.yar := rfl
@[simp] theorem State.used_audit : s.used.audit = s.audit := rfl
@[simp] theorem State.used_drain : s.used.drain = s.drain := rfl
@[simp] theorem State.used_boot : s.used.boot = s.boot := rfl
@[simp] theorem State.used_heat : s.used.heat = s.heat := rfl
@[simp] theorem State.used_halted : s.used.halted = s.halted := rfl
@[simp] theorem State.used_failSolo : s.used.failSolo = s.failSolo := rfl
@[simp] theorem State.used_staging : s.used.staging = s.staging := rfl
@[simp] theorem State.used_imgDigest : s.used.imgDigest = s.imgDigest := rfl
@[simp] theorem State.used_topoDigest : s.used.topoDigest = s.topoDigest := rfl
@[simp] theorem State.used_stageBase : s.used.stageBase = s.stageBase := rfl
@[simp] theorem State.used_stageLen : s.used.stageLen = s.stageLen := rfl
@[simp] theorem State.used_loadStop : s.used.loadStop = s.loadStop := rfl
@[simp] theorem State.used_loadFact : s.used.loadFact = s.loadFact := rfl
@[simp] theorem State.used_crossings : s.used.crossings = s.crossings := rfl
@[simp] theorem State.used_pllLost : s.used.pllLost = s.pllLost := rfl
@[simp] theorem State.used_errCap : s.used.errCap = s.errCap := rfl
@[simp] theorem State.used_logSeen : s.used.logSeen = s.logSeen := rfl

end Sys2Proof.Machine
end

