-- ==== Sys2Proof/Laws/Regs.lean ====
section
/-! SUPPORT. Laws of register fields and of bytes: what a read gives after a write, of the same place and of another. -/

namespace Sys2Proof.Machine

/-! ### Numbers -/

/-- A number as what lies above, in and below a field. -/
theorem bits_split (v lo w : Nat) : v = v / 2 ^ (lo + w) * 2 ^ (lo + w) + bits v lo w * 2 ^ lo + v % 2 ^ lo := by
  have h1 := Nat.div_add_mod v (2 ^ lo)
  have h2 := Nat.div_add_mod (v / 2 ^ lo) (2 ^ w)
  rw [Nat.div_div_eq_div_mul, ← Nat.pow_add] at h2
  have h3 : 2 ^ lo * (2 ^ w * (v / 2 ^ (lo + w))) = v / 2 ^ (lo + w) * 2 ^ (lo + w) := by
    rw [← Nat.mul_assoc, ← Nat.pow_add, Nat.mul_comm]
  have h4 : 2 ^ lo * (v / 2 ^ lo) = v / 2 ^ (lo + w) * 2 ^ (lo + w) + bits v lo w * 2 ^ lo := by
    rw [← h3, bits, Nat.mul_comm (_ % _), ← Nat.mul_add, h2]
  omega

/-- The value with a field replaced, in the same parts. -/
theorem setBits_split (v lo w x : Nat) :
    setBits v lo w x = v / 2 ^ (lo + w) * 2 ^ (lo + w) + x % 2 ^ w * 2 ^ lo + v % 2 ^ lo := by
  have h := bits_split v lo w
  unfold setBits
  omega

theorem bits_lt (v lo w : Nat) : bits v lo w < 2 ^ w := Nat.mod_lt _ (Nat.two_pow_pos w)

/-- Below the field stands less than the field's place. -/
theorem setBits_low (v lo w x : Nat) : x % 2 ^ w * 2 ^ lo + v % 2 ^ lo < 2 ^ (lo + w) := by
  have h1 : x % 2 ^ w < 2 ^ w := Nat.mod_lt _ (Nat.two_pow_pos w)
  have h2 : v % 2 ^ lo < 2 ^ lo := Nat.mod_lt _ (Nat.two_pow_pos lo)
  rw [Nat.add_comm lo w, Nat.pow_add]
  calc x % 2 ^ w * 2 ^ lo + v % 2 ^ lo < x % 2 ^ w * 2 ^ lo + 2 ^ lo := by omega
    _ = (x % 2 ^ w + 1) * 2 ^ lo := by rw [Nat.add_mul, Nat.one_mul]
    _ ≤ 2 ^ w * 2 ^ lo := Nat.mul_le_mul_right _ h1

theorem setBits_div (v lo w x : Nat) : setBits v lo w x / 2 ^ (lo + w) = v / 2 ^ (lo + w) := by
  have h := setBits_low v lo w x
  rw [setBits_split, Nat.add_assoc, Nat.mul_comm, Nat.mul_add_div (Nat.two_pow_pos _), Nat.div_eq_of_lt h, Nat.add_zero]

theorem setBits_mod (v lo w x : Nat) : setBits v lo w x % 2 ^ lo = v % 2 ^ lo := by
  have h : v / 2 ^ (lo + w) * 2 ^ (lo + w) = 2 ^ lo * (v / 2 ^ (lo + w) * 2 ^ w) := by
    generalize v / 2 ^ (lo + w) = q
    rw [Nat.pow_add, Nat.mul_left_comm]
  rw [setBits_split, h, Nat.mul_comm (x % 2 ^ w), ← Nat.mul_add, Nat.mul_add_mod, Nat.mod_mod]

/-- A field just written. -/
theorem bits_setBits_same (v lo w x : Nat) : bits (setBits v lo w x) lo w = x % 2 ^ w := by
  have h1 := setBits_mod v lo w x
  have h2 := setBits_div v lo w x
  have h3 := bits_split (setBits v lo w x) lo w
  rw [h1, h2] at h3
  have h4 := setBits_split v lo w x
  have h5 : bits (setBits v lo w x) lo w * 2 ^ lo = x % 2 ^ w * 2 ^ lo := by omega
  exact Nat.eq_of_mul_eq_mul_right (Nat.two_pow_pos lo) h5

/-- A field above the one written. -/
theorem bits_setBits_above (v lo w x l n : Nat) (h : lo + w ≤ l) : bits (setBits v lo w x) l n = bits v l n := by
  obtain ⟨k, rfl⟩ := Nat.exists_eq_add_of_le h
  simp only [bits]
  rw [Nat.pow_add 2 (lo + w) k, ← Nat.div_div_eq_div_mul, ← Nat.div_div_eq_div_mul, setBits_div]

/-- A field below the one written. -/
theorem bits_setBits_below (v lo w x l n : Nat) (h : l + n ≤ lo) : bits (setBits v lo w x) l n = bits v l n := by
  have key (u : Nat) : bits u l n = u % 2 ^ lo / 2 ^ l % 2 ^ n := by
    obtain ⟨k, rfl⟩ := Nat.exists_eq_add_of_le h
    have e1 : u % 2 ^ (l + n) / 2 ^ l = u / 2 ^ l % 2 ^ n := by rw [Nat.pow_add, Nat.mod_mul_right_div_self]
    have e2 : u % 2 ^ (l + n + k) % 2 ^ (l + n) = u % 2 ^ (l + n) :=
      Nat.mod_mod_of_dvd _ (Nat.pow_dvd_pow 2 (Nat.le_add_right _ _))
    have e3 : u % 2 ^ (l + n + k) / 2 ^ l % 2 ^ n = u % 2 ^ (l + n + k) % 2 ^ (l + n) / 2 ^ l := by
      rw [Nat.pow_add 2 l n, Nat.mod_mul_right_div_self]
    simp only [bits]
    rw [e3, e2, e1]
  rw [key, key, setBits_mod]

/-- A field of 64 bits at most stays within its register. -/
theorem setBits_lt (v lo w x : Nat) (hv : v < 2 ^ 64) (h : lo + w ≤ 64) : setBits v lo w x < 2 ^ 64 := by
  obtain ⟨k, hk⟩ := Nat.exists_eq_add_of_le h
  have h1 := setBits_low v lo w x
  have h2 : v / 2 ^ (lo + w) < 2 ^ k := by
    rw [Nat.div_lt_iff_lt_mul (Nat.two_pow_pos _), ← Nat.pow_add, Nat.add_comm k, ← hk]; exact hv
  rw [setBits_split, Nat.add_assoc]
  calc _ < v / 2 ^ (lo + w) * 2 ^ (lo + w) + 2 ^ (lo + w) := by omega
    _ = (v / 2 ^ (lo + w) + 1) * 2 ^ (lo + w) := by rw [Nat.add_mul, Nat.one_mul]
    _ ≤ 2 ^ k * 2 ^ (lo + w) := Nat.mul_le_mul_right _ h2
    _ = 2 ^ 64 := by rw [← Nat.pow_add, Nat.add_comm k, ← hk]

/-! ### Registers and fields -/

/-- Two fields that share no bit. -/
def Fld.apart (F G : Fld) : Bool :=
  decide (F.a ≠ G.a) || decide (F.lo + F.w ≤ G.lo) || decide (G.lo + G.w ≤ F.lo)

variable (s : State)

@[simp] theorem State.at_reg (t k : Nat) : (s.at t).reg k = s.reg k := rfl
@[simp] theorem State.at_f (t : Nat) (F : Fld) : (s.at t).f F = s.f F := rfl
@[simp] theorem State.at_b (t : Nat) (F : Fld) : (s.at t).b F = s.b F := rfl
@[simp] theorem State.at_byte (t k : Nat) : (s.at t).byte k = s.byte k := rfl
@[simp] theorem State.write_f (k : Nat) (bs : List Nat) (F : Fld) : (s.write k bs).f F = s.f F := rfl
@[simp] theorem State.setf_byte (F : Fld) (x k : Nat) : (s.setf F x).byte k = s.byte k := rfl

@[simp] theorem State.reg_setReg_same (k : Nat) (v : Word) : (s.setReg k v).reg k = v := by
  simp [State.reg]

theorem State.reg_setReg_ne {k j : Nat} (v : Word) (h : j ≠ k) : (s.setReg k v).reg j = s.reg j := by
  simp only [State.reg, State.setReg_regs]
  exact sget_sset_ne _ _ _ h

/-- A field just written reads as written, cut to its width. -/
@[simp] theorem State.f_setf_same (F : Fld) (x : Nat) (h : F.lo + F.w ≤ 64) : (s.setf F x).f F = x % 2 ^ F.w := by
  have hl := setBits_lt (s.reg F.a).toNat F.lo F.w x (s.reg F.a).isLt h
  simp only [State.f, State.setf, State.reg_setReg_same, BitVec.toNat_ofNat, Nat.mod_eq_of_lt hl, bits_setBits_same]

/-- A field that shares no bit with the one written reads as before. -/
theorem State.f_setf_apart (F G : Fld) (x : Nat) (hF : F.lo + F.w ≤ 64) (h : F.apart G = true) : (s.setf F x).f G = s.f G := by
  have hl := setBits_lt (s.reg F.a).toNat F.lo F.w x (s.reg F.a).isLt hF
  by_cases e : F.a = G.a
  · simp only [State.f, State.setf, ← e, State.reg_setReg_same, BitVec.toNat_ofNat, Nat.mod_eq_of_lt hl]
    simp only [Fld.apart, e, ne_eq, not_true_eq_false, decide_false, Bool.false_or, Bool.or_eq_true, decide_eq_true_eq] at h
    rcases h with h | h
    · exact bits_setBits_above _ _ _ _ _ _ h
    · exact bits_setBits_below _ _ _ _ _ _ h
  · simp only [State.f, State.setf, State.reg_setReg_ne s _ (Ne.symm e)]

/-- A field of another register reads as before. -/
theorem State.f_setf_key (F G : Fld) (x : Nat) (h : G.a ≠ F.a) : (s.setf F x).f G = s.f G := by
  simp only [State.f, State.setf, State.reg_setReg_ne s _ h]

/-- Another register reads as before. -/
theorem State.reg_setf_key (F : Fld) (x : Nat) {k : Nat} (h : k ≠ F.a) : (s.setf F x).reg k = s.reg k := State.reg_setReg_ne s _ h

/-! ### Bytes -/

/-- Bytes outside those stored read as before. -/
theorem sget_setBytes_out (m : List Host.Cell) (k : Nat) (bs : List Nat) {j : Nat} (h : j < k ∨ k + bs.length ≤ j) :
    sget memDefault (setBytes m k bs) j = sget memDefault m j := by
  induction bs generalizing m k with
  | nil => rfl
  | cons b bs ih =>
    simp only [List.length_cons] at h
    rw [setBytes, ih _ _ (by omega), setByte, sget_sset_ne _ _ _ (by omega)]

/-- Byte `i` of those stored reads as stored. -/
theorem sget_setBytes_in (m : List Host.Cell) (k : Nat) (bs : List Nat) {i : Nat} (h : i < bs.length) :
    sget memDefault (setBytes m k bs) (k + i) = BitVec.ofNat 8 bs[i] := by
  induction bs generalizing m k i with
  | nil => simp at h
  | cons b bs ih =>
    cases i with
    | zero => rw [setBytes, sget_setBytes_out _ _ _ (by omega)]; simp [setByte]
    | succ i => rw [setBytes, show k + (i + 1) = (k + 1) + i by omega]; exact ih _ _ (by simpa using h)

/-- A byte outside those stored reads as before. -/
theorem State.byte_write_out (k : Nat) (bs : List Nat) {j : Nat} (h : j < k ∨ k + bs.length ≤ j) :
    (s.write k bs).byte j = s.byte j := by simp only [State.byte, State.write_mem, sget_setBytes_out _ _ _ h]

/-- Byte `i` of those stored. -/
theorem State.byte_write_in (k : Nat) (bs : List Nat) {i : Nat} (h : i < bs.length) : (s.write k bs).byte (k + i) = bs[i] % 256 := by
  simp only [State.byte, State.write_mem, sget_setBytes_in _ _ _ h, BitVec.toNat_ofNat]

end Sys2Proof.Machine
end

