-- ==== Sys2Proof/Laws/Digest.lean ====
section
/-! SUPPORT. Lengths of what digests and reports are made of, and records read back from where they were written. -/

namespace Sys2Proof.Machine

@[simp] theorem leBytes_length (n v : Nat) : (leBytes n v).length = n := by
  induction n generalizing v with
  | zero => rfl
  | succ n ih => simp [leBytes, ih]

theorem leBytes_lt (n v : Nat) : ∀ x ∈ leBytes n v, x < 256 := by
  induction n generalizing v with
  | zero => intro x h; cases h
  | succ n ih =>
    intro x h
    rcases List.mem_cons.mp h with rfl | h
    · exact Nat.mod_lt _ (by decide)
    · exact ih _ _ h

@[simp] theorem sha256_length (bs : List Nat) : (sha256 bs).length = 32 := by simp [sha256]

theorem sha256_lt (bs : List Nat) : ∀ x ∈ sha256 bs, x < 256 := by
  intro x h
  simp only [sha256, List.mem_flatten, List.mem_map] at h
  obtain ⟨l, ⟨w, -, rfl⟩, h⟩ := h
  exact leBytes_lt _ _ _ (List.mem_reverse.mp h)

@[simp] theorem deviceId_length : deviceId.length = 16 := by simp [deviceId]

theorem deviceId_lt : ∀ x ∈ deviceId, x < 256 := fun x h => sha256_lt _ x (List.mem_of_mem_take h)

@[simp] theorem State.mr_length (s : State) (i : Nat) : (s.mr i).length = 32 := by
  have h : ∀ l : List Nat, ((l.map (fun w => leBytes 8 (s.f (SEC_MR_VALUE i w)))).flatten).length = 8 * l.length := by
    intro l; induction l with
    | nil => rfl
    | cons a l ih => simp only [List.map_cons, List.flatten_cons, List.length_append, leBytes_length, ih, List.length_cons]; omega
  simp [State.mr, h]

/-- The start-up report is 4 KiB (R474). -/
@[simp] theorem State.startReport_length (s : State) : s.startReport.length = 4096 := by
  have h : ∀ l : List Nat, ((l.map (leBytes 4)).flatten).length = 4 * l.length := by
    intro l; induction l with
    | nil => rfl
    | cons a l ih => simp only [List.map_cons, List.flatten_cons, List.length_append, leBytes_length, ih, List.length_cons]; omega
  have hu : (s.failedUnits.take 1008).length ≤ 1008 := by simp only [List.length_take]; omega
  simp only [State.startReport, List.length_append, leBytes_length, h, List.length_cons, List.length_nil, List.length_replicate]
  omega

/-- Bytes written read back. -/
theorem State.bytes_write (s : State) (k : Nat) (bs : List Nat) (h : ∀ x ∈ bs, x < 256) : (s.write k bs).bytes k bs.length = bs := by
  apply List.ext_getElem
  · simp [State.bytes]
  · intro i h1 h2
    simp only [State.bytes, List.getElem_map, List.getElem_range]
    rw [State.byte_write_in s k bs h2, Nat.mod_eq_of_lt (h _ (List.getElem_mem h2))]

/-- The parts of a record that begins with the device's ID. -/
theorem part_id (bs : List Nat) : part (deviceId ++ bs) 0 16 = deviceId := by simp [part]

theorem part_after (bs : List Nat) (k n : Nat) : part (deviceId ++ bs) (16 + k) n = part bs k n := by
  have h : List.drop (16 + k) deviceId = [] := List.drop_eq_nil_of_le (by simp)
  simp [part, List.drop_append, h]

end Sys2Proof.Machine
end

