-- ==== Sys2Proof/Laws/Frame.lean ====
section
/-! SUPPORT. What `Touch` gives: one lemma per field of State (and per group of fields updated together), and one per way meanings are
put together. Later lemmas cite these and never unfold an update of the state. -/

namespace Sys2Proof.Machine

variable {W L : List Part} {a b s : State}

/-- The one part a list names stands in the other. -/
theorem Part.mem_of_sub {p : Part} (h : Part.sub [p] W = true) : p ∈ W := by simpa [Part.sub] using h

/-- Nothing changed. -/
theorem Touch.refl : Touch W a a := ⟨fun p _ => by cases p <;> simp [Part.same], id⟩

/-- Parts of a longer list. -/
theorem Part.sub_mem {p : Part} (hw : Part.sub L W = true) (hp : p ∈ L) : p ∈ W := by
  have := List.all_eq_true.1 hw p hp
  simpa using this

/-- One change after another. -/
theorem Touch.trans (h : Touch W a b) (h' : Touch W b s) : Touch W a s := by
  refine ⟨fun p hp => ?_, fun c => h'.canon (h.canon c)⟩
  have h1 := h.same p hp
  have h2 := h'.same p hp
  cases p <;> simp_all [Part.same]

/-- A change within `L` is a change within any list that holds `L`. -/
theorem Touch.step (h : Touch W a b) (hw : Part.sub L W = true) (h' : Touch L b s) : Touch W a s :=
  h.trans ⟨fun p hp => h'.same p (fun hl => hp (Part.sub_mem hw hl)), h'.canon⟩

theorem Part.sub_trans {K : List Part} (h : Part.sub K L = true) (hw : Part.sub L W = true) : Part.sub K W = true :=
  List.all_eq_true.2 (fun p hp => by simpa using Part.sub_mem hw (Part.sub_mem h hp))

theorem touch_ite {c : Prop} [Decidable c] {x y : State} (hx : Touch W a x) (hy : Touch W a y) :
    Touch W a (if c then x else y) := by split <;> assumption

theorem touch_ite_by {β : Type} (g : β → State) {c : Prop} [Decidable c] {x y : β} (hx : Touch W a (g x)) (hy : Touch W a (g y)) :
    Touch W a (g (if c then x else y)) := by split <;> assumption

theorem outTouch_next {x : State} (h : Touch W a x) : ∀ u, (.next x : Host.Outcome State Fault Refusal) = .next u → Touch W a u :=
  fun _ e => Host.Outcome.next.inj e ▸ h

theorem outTouch_step {o : Host.Outcome State Fault Refusal} (h : Touch W a s) (hw : Part.sub L W = true)
    (h' : ∀ u, o = .next u → Touch L s u) : ∀ u, o = .next u → Touch W a u := fun u e => h.step hw (h' u e)

theorem outTouch_fault {r : Fault} : ∀ u, (.fault r : Host.Outcome State Fault Refusal) = .next u → Touch W a u := fun _ e => nomatch e

theorem outTouch_ite {c : Prop} [Decidable c] {x y : Host.Outcome State Fault Refusal} (hx : ∀ u, x = .next u → Touch W a u)
    (hy : ∀ u, y = .next u → Touch W a u) : ∀ u, (if c then x else y) = .next u → Touch W a u := by split <;> assumption

theorem touch_foldl {α : Type} {f : State → α → State} (l : List α) (h : Touch W a s)
    (hf : ∀ u x, Touch W a u → Touch W a (f u x)) : Touch W a (l.foldl f s) := by
  induction l generalizing s with
  | nil => exact h
  | cons x l ih => exact ih (hf s x h)

theorem touch_foldr {α : Type} {f : α → State → State} (l : List α) (h : Touch W a s)
    (hf : ∀ u x, Touch W a u → Touch W a (f x u)) : Touch W a (l.foldr f s) := by
  induction l with
  | nil => exact h
  | cons x l ih => exact hf _ x ih

theorem touch_foldl_by {α β : Type} (g : β → State) {f : β → α → β} (l : List α) {p : β} (h : Touch W a (g p))
    (hf : ∀ u x, Touch W a (g u) → Touch W a (g (f u x))) : Touch W a (g (l.foldl f p)) := by
  induction l generalizing p with
  | nil => exact h
  | cons x l ih => exact ih (hf p x h)

/-- Storing bytes keeps the canonical form. -/
theorem scanon_setBytes {m : List Host.Cell} {k : Nat} (bs : List Nat) (h : scanon memDefault m = true) :
    scanon memDefault (setBytes m k bs) = true := by
  induction bs generalizing m k with
  | nil => exact h
  | cons b bs ih => exact ih (scanon_sset k _ h)

/-- Storing one byte, storing bytes, storing a number, and a state's reset all leave memory in its canonical form. -/
theorem Memory.wf_setByte {m : List Host.Cell} {k : Nat} (v : Nat) (h : Memory.wf m = true) : Memory.wf (setByte m k v) = true :=
  scanon_sset k _ h

theorem Memory.wf_setBytes {m : List Host.Cell} {k : Nat} (bs : List Nat) (h : Memory.wf m = true) :
    Memory.wf (setBytes m k bs) = true := scanon_setBytes bs h

theorem Memory.wf_write {s : State} (k : Nat) (bs : List Nat) (h : Memory.wf s.mem = true) : Memory.wf (s.write k bs).mem = true :=
  scanon_setBytes bs h

theorem Memory.wf_writeNum {s : State} (k n v : Nat) (h : Memory.wf s.mem = true) : Memory.wf (s.writeNum k n v).mem = true :=
  scanon_setBytes _ h

theorem Memory.wf_reset : Memory.wf State.reset.mem = true := rfl

theorem touch_acc (h : Touch W a s) (hw : Part.sub [.lanes] W = true) (x : List (Nat × Int)) (hc : scanon (fun _ => 0) s.acc = true → scanon (fun _ => 0) x = true) :
    Touch W a { s with acc := x } :=
  ⟨fun p hp => by cases p <;> first | exact h.same _ hp | exact absurd (Part.mem_of_sub hw) hp, fun c => by
    have c := h.canon c
    simp only [State.canon, Bool.and_eq_true] at c ⊢
    exact ⟨⟨c.1.1, hc c.1.2⟩, c.2⟩⟩

theorem touch_arrTemp (h : Touch W a s) (hw : Part.sub [.temperature] W = true) (x : List (Nat × Int × Nat)) :
    Touch W a { s with arrTemp := x } :=
  ⟨fun p hp => by cases p <;> first | exact h.same _ hp | exact absurd (Part.mem_of_sub hw) hp, h.canon⟩

theorem touch_arrivals (h : Touch W a s) (hw : Part.sub [.admission] W = true) (x : List Arrival) :
    Touch W a { s with arrivals := x } :=
  ⟨fun p hp => by cases p <;> first | exact h.same _ hp | exact absurd (Part.mem_of_sub hw) hp, h.canon⟩

theorem touch_audit (h : Touch W a s) (hw : Part.sub [.audit] W = true) (x : AuditSt) :
    Touch W a { s with audit := x } :=
  ⟨fun p hp => by cases p <;> first | exact h.same _ hp | exact absurd (Part.mem_of_sub hw) hp, h.canon⟩

theorem touch_bells (h : Touch W a s) (hw : Part.sub [.doors] W = true) (x : List Bell) :
    Touch W a { s with bells := x } :=
  ⟨fun p hp => by cases p <;> first | exact h.same _ hp | exact absurd (Part.mem_of_sub hw) hp, h.canon⟩

theorem touch_boot (h : Touch W a s) (hw : Part.sub [.boot] W = true) (x : BootSt) :
    Touch W a { s with boot := x } :=
  ⟨fun p hp => by cases p <;> first | exact h.same _ hp | exact absurd (Part.mem_of_sub hw) hp, h.canon⟩

theorem touch_calCycle (h : Touch W a s) (hw : Part.sub [.calibration] W = true) (x : List (Nat × CalMeas)) :
    Touch W a { s with calCycle := x } :=
  ⟨fun p hp => by cases p <;> first | exact h.same _ hp | exact absurd (Part.mem_of_sub hw) hp, h.canon⟩

theorem touch_calPrev (h : Touch W a s) (hw : Part.sub [.calibration] W = true) (x : List (Nat × CalMeas)) :
    Touch W a { s with calPrev := x } :=
  ⟨fun p hp => by cases p <;> first | exact h.same _ hp | exact absurd (Part.mem_of_sub hw) hp, h.canon⟩

theorem touch_calSum (h : Touch W a s) (hw : Part.sub [.calibration] W = true) (x : List (Nat × CalSum)) :
    Touch W a { s with calSum := x } :=
  ⟨fun p hp => by cases p <;> first | exact h.same _ hp | exact absurd (Part.mem_of_sub hw) hp, h.canon⟩

theorem touch_capture (h : Touch W a s) (hw : Part.sub [.results] W = true) (x : List Capture) :
    Touch W a { s with capture := x } :=
  ⟨fun p hp => by cases p <;> first | exact h.same _ hp | exact absurd (Part.mem_of_sub hw) hp, h.canon⟩

theorem touch_cells (h : Touch W a s) (hw : Part.sub [.analog] W = true) (x : List (Nat × List Int)) :
    Touch W a { s with cells := x } :=
  ⟨fun p hp => by cases p <;> first | exact h.same _ hp | exact absurd (Part.mem_of_sub hw) hp, h.canon⟩

theorem touch_cfgLoad (h : Touch W a s) (hw : Part.sub [.configuration] W = true) (x : List (Nat × Nat × Nat)) :
    Touch W a { s with cfgLoad := x } :=
  ⟨fun p hp => by cases p <;> first | exact h.same _ hp | exact absurd (Part.mem_of_sub hw) hp, h.canon⟩

theorem touch_chains (h : Touch W a s) (hw : Part.sub [.journal] W = true) (x : List Chain) :
    Touch W a { s with chains := x } :=
  ⟨fun p hp => by cases p <;> first | exact h.same _ hp | exact absurd (Part.mem_of_sub hw) hp, h.canon⟩

theorem touch_clearing (h : Touch W a s) (hw : Part.sub [.scrub] W = true) (x : List (Nat × Nat)) :
    Touch W a { s with clearing := x } :=
  ⟨fun p hp => by cases p <;> first | exact h.same _ hp | exact absurd (Part.mem_of_sub hw) hp, h.canon⟩

theorem touch_copied (h : Touch W a s) (hw : Part.sub [.journal] W = true) (x : Nat) :
    Touch W a { s with copied := x } :=
  ⟨fun p hp => by cases p <;> first | exact h.same _ hp | exact absurd (Part.mem_of_sub hw) hp, h.canon⟩

theorem touch_cow (h : Touch W a s) (hw : Part.sub [.pages] W = true) (x : List CowCopy) :
    Touch W a { s with cow := x } :=
  ⟨fun p hp => by cases p <;> first | exact h.same _ hp | exact absurd (Part.mem_of_sub hw) hp, h.canon⟩

theorem touch_crossings (h : Touch W a s) (hw : Part.sub [.links] W = true) (x : Bool) :
    Touch W a { s with crossings := x } :=
  ⟨fun p hp => by cases p <;> first | exact h.same _ hp | exact absurd (Part.mem_of_sub hw) hp, h.canon⟩

theorem touch_ctrlQ (h : Touch W a s) (hw : Part.sub [.links] W = true) (x : List (Nat × CtrlMsg)) :
    Touch W a { s with ctrlQ := x } :=
  ⟨fun p hp => by cases p <;> first | exact h.same _ hp | exact absurd (Part.mem_of_sub hw) hp, h.canon⟩

theorem touch_decLog (h : Touch W a s) (hw : Part.sub [.journal] W = true) (x : List (Nat × Decision × Bool)) :
    Touch W a { s with decLog := x } :=
  ⟨fun p hp => by cases p <;> first | exact h.same _ hp | exact absurd (Part.mem_of_sub hw) hp, h.canon⟩

theorem touch_decisions (h : Touch W a s) (hw : Part.sub [.admission] W = true) (x : List (Nat × Decision)) :
    Touch W a { s with decisions := x } :=
  ⟨fun p hp => by cases p <;> first | exact h.same _ hp | exact absurd (Part.mem_of_sub hw) hp, h.canon⟩

theorem touch_deferred (h : Touch W a s) (hw : Part.sub [.admission] W = true) (x : List Deferred) :
    Touch W a { s with deferred := x } :=
  ⟨fun p hp => by cases p <;> first | exact h.same _ hp | exact absurd (Part.mem_of_sub hw) hp, h.canon⟩

theorem touch_degrade (h : Touch W a s) (hw : Part.sub [.degraded] W = true) (x : List (Nat × Nat × Nat)) :
    Touch W a { s with degrade := x } :=
  ⟨fun p hp => by cases p <;> first | exact h.same _ hp | exact absurd (Part.mem_of_sub hw) hp, h.canon⟩

theorem touch_delivered (h : Touch W a s) (hw : Part.sub [.journal] W = true) (x : List (Nat × Nat)) :
    Touch W a { s with delivered := x } :=
  ⟨fun p hp => by cases p <;> first | exact h.same _ hp | exact absurd (Part.mem_of_sub hw) hp, h.canon⟩

theorem touch_done (h : Touch W a s) (hw : Part.sub [.slots] W = true) (x : List Nat) :
    Touch W a { s with done := x } :=
  ⟨fun p hp => by cases p <;> first | exact h.same _ hp | exact absurd (Part.mem_of_sub hw) hp, h.canon⟩

theorem touch_draftTok (h : Touch W a s) (hw : Part.sub [.sampling] W = true) (x : List (Nat × Nat × Nat)) :
    Touch W a { s with draftTok := x } :=
  ⟨fun p hp => by cases p <;> first | exact h.same _ hp | exact absurd (Part.mem_of_sub hw) hp, h.canon⟩

theorem touch_drain (h : Touch W a s) (hw : Part.sub [.service] W = true) (x : DrainSt) :
    Touch W a { s with drain := x } :=
  ⟨fun p hp => by cases p <;> first | exact h.same _ hp | exact absurd (Part.mem_of_sub hw) hp, h.canon⟩

theorem touch_errCap (h : Touch W a s) (hw : Part.sub [.readback] W = true) (x : List Nat) :
    Touch W a { s with errCap := x } :=
  ⟨fun p hp => by cases p <;> first | exact h.same _ hp | exact absurd (Part.mem_of_sub hw) hp, h.canon⟩

theorem touch_evicts (h : Touch W a s) (hw : Part.sub [.requests] W = true) (x : List (Nat × List Nat)) :
    Touch W a { s with evicts := x } :=
  ⟨fun p hp => by cases p <;> first | exact h.same _ hp | exact absurd (Part.mem_of_sub hw) hp, h.canon⟩

theorem touch_failCore (h : Touch W a s) (hw : Part.sub [.failures] W = true) (x : List Nat) :
    Touch W a { s with failCore := x } :=
  ⟨fun p hp => by cases p <;> first | exact h.same _ hp | exact absurd (Part.mem_of_sub hw) hp, h.canon⟩

theorem touch_failSolo (h : Touch W a s) (hw : Part.sub [.membership] W = true) (x : Bool) :
    Touch W a { s with failSolo := x } :=
  ⟨fun p hp => by cases p <;> first | exact h.same _ hp | exact absurd (Part.mem_of_sub hw) hp, h.canon⟩

theorem touch_failTile (h : Touch W a s) (hw : Part.sub [.failures] W = true) (x : List Nat) :
    Touch W a { s with failTile := x } :=
  ⟨fun p hp => by cases p <;> first | exact h.same _ hp | exact absurd (Part.mem_of_sub hw) hp, h.canon⟩

theorem touch_fenced (h : Touch W a s) (hw : Part.sub [.fences] W = true) (x : List Nat) :
    Touch W a { s with fenced := x } :=
  ⟨fun p hp => by cases p <;> first | exact h.same _ hp | exact absurd (Part.mem_of_sub hw) hp, h.canon⟩

theorem touch_fill (h : Touch W a s) (hw : Part.sub [.staged] W = true) (x : List (Nat × Nat)) :
    Touch W a { s with fill := x } :=
  ⟨fun p hp => by cases p <;> first | exact h.same _ hp | exact absurd (Part.mem_of_sub hw) hp, h.canon⟩

theorem touch_fillNext (h : Touch W a s) (hw : Part.sub [.staged] W = true) (x : List (Nat × Nat)) :
    Touch W a { s with fillNext := x } :=
  ⟨fun p hp => by cases p <;> first | exact h.same _ hp | exact absurd (Part.mem_of_sub hw) hp, h.canon⟩

theorem touch_freeCount (h : Touch W a s) (hw : Part.sub [.free] W = true) (x : Nat) :
    Touch W a { s with freeCount := x } :=
  ⟨fun p hp => by cases p <;> first | exact h.same _ hp | exact absurd (Part.mem_of_sub hw) hp, h.canon⟩

theorem touch_freeRep (h : Touch W a s) (hw : Part.sub [.admission] W = true) (x : List (Nat × Nat)) :
    Touch W a { s with freeRep := x } :=
  ⟨fun p hp => by cases p <;> first | exact h.same _ hp | exact absurd (Part.mem_of_sub hw) hp, h.canon⟩

theorem touch_fuses (h : Touch W a s) (hw : Part.sub [.fuses] W = true) (x : Fuses) :
    Touch W a { s with fuses := x } :=
  ⟨fun p hp => by cases p <;> first | exact h.same _ hp | exact absurd (Part.mem_of_sub hw) hp, h.canon⟩

theorem touch_fwd (h : Touch W a s) (hw : Part.sub [.admission] W = true) (x : List Cmd) :
    Touch W a { s with fwd := x } :=
  ⟨fun p hp => by cases p <;> first | exact h.same _ hp | exact absurd (Part.mem_of_sub hw) hp, h.canon⟩

theorem touch_fwdIn (h : Touch W a s) (hw : Part.sub [.admission] W = true) (x : List Cmd) :
    Touch W a { s with fwdIn := x } :=
  ⟨fun p hp => by cases p <;> first | exact h.same _ hp | exact absurd (Part.mem_of_sub hw) hp, h.canon⟩

theorem touch_halted (h : Touch W a s) (hw : Part.sub [.membership] W = true) (x : Bool) :
    Touch W a { s with halted := x } :=
  ⟨fun p hp => by cases p <;> first | exact h.same _ hp | exact absurd (Part.mem_of_sub hw) hp, h.canon⟩

theorem touch_heat (h : Touch W a s) (hw : Part.sub [.heat] W = true) (x : HeatSt) :
    Touch W a { s with heat := x } :=
  ⟨fun p hp => by cases p <;> first | exact h.same _ hp | exact absurd (Part.mem_of_sub hw) hp, h.canon⟩

theorem touch_held (h : Touch W a s) (hw : Part.sub [.results] W = true) (x : List Held) :
    Touch W a { s with held := x } :=
  ⟨fun p hp => by cases p <;> first | exact h.same _ hp | exact absurd (Part.mem_of_sub hw) hp, h.canon⟩

theorem touch_heldCq (h : Touch W a s) (hw : Part.sub [.completions] W = true) (x : List (Nat × Post)) :
    Touch W a { s with heldCq := x } :=
  ⟨fun p hp => by cases p <;> first | exact h.same _ hp | exact absurd (Part.mem_of_sub hw) hp, h.canon⟩

theorem touch_img (h : Touch W a s) (hw : Part.sub [.image] W = true) (x : Option Image) :
    Touch W a { s with img := x } :=
  ⟨fun p hp => by cases p <;> first | exact h.same _ hp | exact absurd (Part.mem_of_sub hw) hp, h.canon⟩

theorem touch_imgDigest (h : Touch W a s) (hw : Part.sub [.image] W = true) (x : List Nat) :
    Touch W a { s with imgDigest := x } :=
  ⟨fun p hp => by cases p <;> first | exact h.same _ hp | exact absurd (Part.mem_of_sub hw) hp, h.canon⟩

theorem touch_joinSeen (h : Touch W a s) (hw : Part.sub [.membership] W = true) (x : Option Nat) :
    Touch W a { s with joinSeen := x } :=
  ⟨fun p hp => by cases p <;> first | exact h.same _ hp | exact absurd (Part.mem_of_sub hw) hp, h.canon⟩

theorem touch_kvFail (h : Touch W a s) (hw : Part.sub [.pages] W = true) (x : List (Nat × Nat)) :
    Touch W a { s with kvFail := x } :=
  ⟨fun p hp => by cases p <;> first | exact h.same _ hp | exact absurd (Part.mem_of_sub hw) hp, h.canon⟩

theorem touch_lastClean (h : Touch W a s) (hw : Part.sub [.tracking] W = true) (x : List (Nat × Nat)) :
    Touch W a { s with lastClean := x } :=
  ⟨fun p hp => by cases p <;> first | exact h.same _ hp | exact absurd (Part.mem_of_sub hw) hp, h.canon⟩

theorem touch_lastPass (h : Touch W a s) (hw : Part.sub [.slots] W = true) (x : List (Nat × Nat)) :
    Touch W a { s with lastPass := x } :=
  ⟨fun p hp => by cases p <;> first | exact h.same _ hp | exact absurd (Part.mem_of_sub hw) hp, h.canon⟩

theorem touch_lastRead (h : Touch W a s) (hw : Part.sub [.readback] W = true) (x : Word) :
    Touch W a { s with lastRead := x } :=
  ⟨fun p hp => by cases p <;> first | exact h.same _ hp | exact absurd (Part.mem_of_sub hw) hp, h.canon⟩

theorem touch_lastSusp (h : Touch W a s) (hw : Part.sub [.suspects] W = true) (x : List (Nat × Nat)) :
    Touch W a { s with lastSusp := x } :=
  ⟨fun p hp => by cases p <;> first | exact h.same _ hp | exact absurd (Part.mem_of_sub hw) hp, h.canon⟩

theorem touch_leaves (h : Touch W a s) (hw : Part.sub [.leaves] W = true) (x : List (Nat × Nat)) :
    Touch W a { s with leaves := x } :=
  ⟨fun p hp => by cases p <;> first | exact h.same _ hp | exact absurd (Part.mem_of_sub hw) hp, h.canon⟩

theorem touch_loadArrs (h : Touch W a s) (hw : Part.sub [.load] W = true) (x : List Nat) :
    Touch W a { s with loadArrs := x } :=
  ⟨fun p hp => by cases p <;> first | exact h.same _ hp | exact absurd (Part.mem_of_sub hw) hp, h.canon⟩

theorem touch_loadFact (h : Touch W a s) (hw : Part.sub [.load] W = true) (x : Bool) :
    Touch W a { s with loadFact := x } :=
  ⟨fun p hp => by cases p <;> first | exact h.same _ hp | exact absurd (Part.mem_of_sub hw) hp, h.canon⟩

theorem touch_loadStop (h : Touch W a s) (hw : Part.sub [.load] W = true) (x : Bool) :
    Touch W a { s with loadStop := x } :=
  ⟨fun p hp => by cases p <;> first | exact h.same _ hp | exact absurd (Part.mem_of_sub hw) hp, h.canon⟩

theorem touch_logSeen (h : Touch W a s) (hw : Part.sub [.records] W = true) (x : List (Nat × Nat × Nat)) :
    Touch W a { s with logSeen := x } :=
  ⟨fun p hp => by cases p <;> first | exact h.same _ hp | exact absurd (Part.mem_of_sub hw) hp, h.canon⟩

theorem touch_lsp (h : Touch W a s) (hw : Part.sub [.larkspur] W = true) (x : LspSt) :
    Touch W a { s with lsp := x } :=
  ⟨fun p hp => by cases p <;> first | exact h.same _ hp | exact absurd (Part.mem_of_sub hw) hp, h.canon⟩

theorem touch_lspIn (h : Touch W a s) (hw : Part.sub [.mail] W = true) (x : List (List Nat)) :
    Touch W a { s with lspIn := x } :=
  ⟨fun p hp => by cases p <;> first | exact h.same _ hp | exact absurd (Part.mem_of_sub hw) hp, h.canon⟩

theorem touch_mem (h : Touch W a s) (hw : Part.sub [.memory] W = true) (x : List Host.Cell) (hc : scanon memDefault s.mem = true → scanon memDefault x = true) :
    Touch W a { s with mem := x } :=
  ⟨fun p hp => by cases p <;> first | exact h.same _ hp | exact absurd (Part.mem_of_sub hw) hp, fun c => by
    have c := h.canon c
    simp only [State.canon, Bool.and_eq_true] at c ⊢
    exact ⟨⟨⟨c.1.1.1, hc c.1.1.2⟩, c.1.2⟩, c.2⟩⟩

theorem touch_mgtTxn (h : Touch W a s) (hw : Part.sub [.transactions] W = true) (x : Option Nat) :
    Touch W a { s with mgtTxn := x } :=
  ⟨fun p hp => by cases p <;> first | exact h.same _ hp | exact absurd (Part.mem_of_sub hw) hp, h.canon⟩

theorem touch_mirUsed (h : Touch W a s) (hw : Part.sub [.journal] W = true) (x : List Nat) :
    Touch W a { s with mirUsed := x } :=
  ⟨fun p hp => by cases p <;> first | exact h.same _ hp | exact absurd (Part.mem_of_sub hw) hp, h.canon⟩

theorem touch_moving (h : Touch W a s) (hw : Part.sub [.pages] W = true) (x : List Moving) :
    Touch W a { s with moving := x } :=
  ⟨fun p hp => by cases p <;> first | exact h.same _ hp | exact absurd (Part.mem_of_sub hw) hp, h.canon⟩

theorem touch_nextHandle (h : Touch W a s) (hw : Part.sub [.prefixes] W = true) (x : Nat) :
    Touch W a { s with nextHandle := x } :=
  ⟨fun p hp => by cases p <;> first | exact h.same _ hp | exact absurd (Part.mem_of_sub hw) hp, h.canon⟩

theorem touch_nextOrder (h : Touch W a s) (hw : Part.sub [.requests] W = true) (x : Nat) :
    Touch W a { s with nextOrder := x } :=
  ⟨fun p hp => by cases p <;> first | exact h.same _ hp | exact absurd (Part.mem_of_sub hw) hp, h.canon⟩

theorem touch_notices (h : Touch W a s) (hw : Part.sub [.completions] W = true) (x : List (Nat × Nat)) :
    Touch W a { s with notices := x } :=
  ⟨fun p hp => by cases p <;> first | exact h.same _ hp | exact absurd (Part.mem_of_sub hw) hp, h.canon⟩

theorem touch_now (h : Touch W a s) (hw : Part.sub [.clock] W = true) (x : Nat) :
    Touch W a { s with now := x } :=
  ⟨fun p hp => by cases p <;> first | exact h.same _ hp | exact absurd (Part.mem_of_sub hw) hp, h.canon⟩

theorem touch_out (h : Touch W a s) (hw : Part.sub [.sent] W = true) (x : List Out) :
    Touch W a { s with out := x } :=
  ⟨fun p hp => by cases p <;> first | exact h.same _ hp | exact absurd (Part.mem_of_sub hw) hp, h.canon⟩

theorem touch_ownAt (h : Touch W a s) (hw : Part.sub [.transactions] W = true) (x : List (Nat × Nat)) :
    Touch W a { s with ownAt := x } :=
  ⟨fun p hp => by cases p <;> first | exact h.same _ hp | exact absurd (Part.mem_of_sub hw) hp, h.canon⟩

theorem touch_pav (h : Touch W a s) (hw : Part.sub [.frame] W = true) (x : Pav) :
    Touch W a { s with pav := x } :=
  ⟨fun p hp => by cases p <;> first | exact h.same _ hp | exact absurd (Part.mem_of_sub hw) hp, h.canon⟩

theorem touch_pending (h : Touch W a s) (hw : Part.sub [.queue] W = true) (x : List Instr) :
    Touch W a { s with pending := x } :=
  ⟨fun p hp => by cases p <;> first | exact h.same _ hp | exact absurd (Part.mem_of_sub hw) hp, h.canon⟩

theorem touch_pktCount (h : Touch W a s) (hw : Part.sub [.packets] W = true) (x : List (Nat × Nat)) :
    Touch W a { s with pktCount := x } :=
  ⟨fun p hp => by cases p <;> first | exact h.same _ hp | exact absurd (Part.mem_of_sub hw) hp, h.canon⟩

theorem touch_plan (h : Touch W a s) (hw : Part.sub [.plan] W = true) (x : List Nat) :
    Touch W a { s with plan := x } :=
  ⟨fun p hp => by cases p <;> first | exact h.same _ hp | exact absurd (Part.mem_of_sub hw) hp, h.canon⟩

theorem touch_planAt (h : Touch W a s) (hw : Part.sub [.plan] W = true) (x : Option Nat) :
    Touch W a { s with planAt := x } :=
  ⟨fun p hp => by cases p <;> first | exact h.same _ hp | exact absurd (Part.mem_of_sub hw) hp, h.canon⟩

theorem touch_pllLost (h : Touch W a s) (hw : Part.sub [.clocks] W = true) (x : List Nat) :
    Touch W a { s with pllLost := x } :=
  ⟨fun p hp => by cases p <;> first | exact h.same _ hp | exact absurd (Part.mem_of_sub hw) hp, h.canon⟩

theorem touch_poison (h : Touch W a s) (hw : Part.sub [.scrub] W = true) (x : List Poison) :
    Touch W a { s with poison := x } :=
  ⟨fun p hp => by cases p <;> first | exact h.same _ hp | exact absurd (Part.mem_of_sub hw) hp, h.canon⟩

theorem touch_pool (h : Touch W a s) (hw : Part.sub [.pool] W = true) (x : List (Nat × PoolRun)) :
    Touch W a { s with pool := x } :=
  ⟨fun p hp => by cases p <;> first | exact h.same _ hp | exact absurd (Part.mem_of_sub hw) hp, h.canon⟩

theorem touch_ports (h : Touch W a s) (hw : Part.sub [.links] W = true) (x : List (Nat × PortSt)) :
    Touch W a { s with ports := x } :=
  ⟨fun p hp => by cases p <;> first | exact h.same _ hp | exact absurd (Part.mem_of_sub hw) hp, h.canon⟩

theorem touch_posts (h : Touch W a s) (hw : Part.sub [.completions] W = true) (x : List Post) :
    Touch W a { s with posts := x } :=
  ⟨fun p hp => by cases p <;> first | exact h.same _ hp | exact absurd (Part.mem_of_sub hw) hp, h.canon⟩

theorem touch_power (h : Touch W a s) (hw : Part.sub [.supply] W = true) (x : Power) :
    Touch W a { s with power := x } :=
  ⟨fun p hp => by cases p <;> first | exact h.same _ hp | exact absurd (Part.mem_of_sub hw) hp, h.canon⟩

theorem touch_pqTag (h : Touch W a s) (hw : Part.sub [.pool] W = true) (x : Nat) :
    Touch W a { s with pqTag := x } :=
  ⟨fun p hp => by cases p <;> first | exact h.same _ hp | exact absurd (Part.mem_of_sub hw) hp, h.canon⟩

theorem touch_prefixes (h : Touch W a s) (hw : Part.sub [.prefixes] W = true) (x : List Prefix) :
    Touch W a { s with prefixes := x } :=
  ⟨fun p hp => by cases p <;> first | exact h.same _ hp | exact absurd (Part.mem_of_sub hw) hp, h.canon⟩

theorem touch_progQ (h : Touch W a s) (hw : Part.sub [.programming] W = true) (x : List ProgCmd) :
    Touch W a { s with progQ := x } :=
  ⟨fun p hp => by cases p <;> first | exact h.same _ hp | exact absurd (Part.mem_of_sub hw) hp, h.canon⟩

theorem touch_pxFails (h : Touch W a s) (hw : Part.sub [.proxies] W = true) (x : List (Nat × Nat)) :
    Touch W a { s with pxFails := x } :=
  ⟨fun p hp => by cases p <;> first | exact h.same _ hp | exact absurd (Part.mem_of_sub hw) hp, h.canon⟩

theorem touch_qdr (h : Touch W a s) (hw : Part.sub [.quadrille] W = true) (x : QdrSt) :
    Touch W a { s with qdr := x } :=
  ⟨fun p hp => by cases p <;> first | exact h.same _ hp | exact absurd (Part.mem_of_sub hw) hp, h.canon⟩

theorem touch_railPend (h : Touch W a s) (hw : Part.sub [.suspects] W = true) (x : List Nat) :
    Touch W a { s with railPend := x } :=
  ⟨fun p hp => by cases p <;> first | exact h.same _ hp | exact absurd (Part.mem_of_sub hw) hp, h.canon⟩

theorem touch_ran (h : Touch W a s) (hw : Part.sub [.slots] W = true) (x : List (Nat × Nat)) :
    Touch W a { s with ran := x } :=
  ⟨fun p hp => by cases p <;> first | exact h.same _ hp | exact absurd (Part.mem_of_sub hw) hp, h.canon⟩

theorem touch_records (h : Touch W a s) (hw : Part.sub [.records] W = true) (x : List ErrRec) :
    Touch W a { s with records := x } :=
  ⟨fun p hp => by cases p <;> first | exact h.same _ hp | exact absurd (Part.mem_of_sub hw) hp, h.canon⟩

theorem touch_regs (h : Touch W a s) (hw : Part.sub [.registers] W = true) (x : List (Nat × Word)) (hc : scanon resetVal s.regs = true → scanon resetVal x = true) :
    Touch W a { s with regs := x } :=
  ⟨fun p hp => by cases p <;> first | exact h.same _ hp | exact absurd (Part.mem_of_sub hw) hp, fun c => by
    have c := h.canon c
    simp only [State.canon, Bool.and_eq_true] at c ⊢
    exact ⟨⟨⟨hc c.1.1.1, c.1.1.2⟩, c.1.2⟩, c.2⟩⟩

theorem touch_reqs (h : Touch W a s) (hw : Part.sub [.requests] W = true) (x : List Req) :
    Touch W a { s with reqs := x } :=
  ⟨fun p hp => by cases p <;> first | exact h.same _ hp | exact absurd (Part.mem_of_sub hw) hp, h.canon⟩

theorem touch_satRec (h : Touch W a s) (hw : Part.sub [.results] W = true) (x : List SatRec) :
    Touch W a { s with satRec := x } :=
  ⟨fun p hp => by cases p <;> first | exact h.same _ hp | exact absurd (Part.mem_of_sub hw) hp, h.canon⟩

theorem touch_score (h : Touch W a s) (hw : Part.sub [.suspects] W = true) (x : List (Nat × Nat)) (hc : scanon (fun _ => 0) s.score = true → scanon (fun _ => 0) x = true) :
    Touch W a { s with score := x } :=
  ⟨fun p hp => by cases p <;> first | exact h.same _ hp | exact absurd (Part.mem_of_sub hw) hp, fun c => by
    have c := h.canon c
    simp only [State.canon, Bool.and_eq_true] at c ⊢
    exact ⟨c.1, hc c.2⟩⟩

theorem touch_scrubLog (h : Touch W a s) (hw : Part.sub [.scrub] W = true) (x : List (Nat × List Nat)) :
    Touch W a { s with scrubLog := x } :=
  ⟨fun p hp => by cases p <;> first | exact h.same _ hp | exact absurd (Part.mem_of_sub hw) hp, h.canon⟩

theorem touch_snaps (h : Touch W a s) (hw : Part.sub [.snapshots] W = true) (x : List (Nat × List Req × List Prefix)) :
    Touch W a { s with snaps := x } :=
  ⟨fun p hp => by cases p <;> first | exact h.same _ hp | exact absurd (Part.mem_of_sub hw) hp, h.canon⟩

theorem touch_stageBase (h : Touch W a s) (hw : Part.sub [.load] W = true) (x : Nat) :
    Touch W a { s with stageBase := x } :=
  ⟨fun p hp => by cases p <;> first | exact h.same _ hp | exact absurd (Part.mem_of_sub hw) hp, h.canon⟩

theorem touch_stageLen (h : Touch W a s) (hw : Part.sub [.load] W = true) (x : Nat) :
    Touch W a { s with stageLen := x } :=
  ⟨fun p hp => by cases p <;> first | exact h.same _ hp | exact absurd (Part.mem_of_sub hw) hp, h.canon⟩

theorem touch_staged (h : Touch W a s) (hw : Part.sub [.staged] W = true) (x : List (Nat × Flit)) :
    Touch W a { s with staged := x } :=
  ⟨fun p hp => by cases p <;> first | exact h.same _ hp | exact absurd (Part.mem_of_sub hw) hp, h.canon⟩

theorem touch_staging (h : Touch W a s) (hw : Part.sub [.load] W = true) (x : Option Image) :
    Touch W a { s with staging := x } :=
  ⟨fun p hp => by cases p <;> first | exact h.same _ hp | exact absurd (Part.mem_of_sub hw) hp, h.canon⟩

theorem touch_summaries (h : Touch W a s) (hw : Part.sub [.sampling] W = true) (x : List (Nat × Nat × Shard × List Nat)) :
    Touch W a { s with summaries := x } :=
  ⟨fun p hp => by cases p <;> first | exact h.same _ hp | exact absurd (Part.mem_of_sub hw) hp, h.canon⟩

theorem touch_suspLast (h : Touch W a s) (hw : Part.sub [.suspects] W = true) (x : List (Nat × Nat)) :
    Touch W a { s with suspLast := x } :=
  ⟨fun p hp => by cases p <;> first | exact h.same _ hp | exact absurd (Part.mem_of_sub hw) hp, h.canon⟩

theorem touch_swTrim (h : Touch W a s) (hw : Part.sub [.calibration] W = true) (x : List (Nat × Nat)) :
    Touch W a { s with swTrim := x } :=
  ⟨fun p hp => by cases p <;> first | exact h.same _ hp | exact absurd (Part.mem_of_sub hw) hp, h.canon⟩

theorem touch_taint (h : Touch W a s) (hw : Part.sub [.taint] W = true) (x : List Taint) :
    Touch W a { s with taint := x } :=
  ⟨fun p hp => by cases p <;> first | exact h.same _ hp | exact absurd (Part.mem_of_sub hw) hp, h.canon⟩

theorem touch_topoDigest (h : Touch W a s) (hw : Part.sub [.image] W = true) (x : Nat) :
    Touch W a { s with topoDigest := x } :=
  ⟨fun p hp => by cases p <;> first | exact h.same _ hp | exact absurd (Part.mem_of_sub hw) hp, h.canon⟩

theorem touch_trimNext (h : Touch W a s) (hw : Part.sub [.calibration] W = true) (x : List (Nat × Int × Int)) :
    Touch W a { s with trimNext := x } :=
  ⟨fun p hp => by cases p <;> first | exact h.same _ hp | exact absurd (Part.mem_of_sub hw) hp, h.canon⟩

theorem touch_trkNext (h : Touch W a s) (hw : Part.sub [.tracking] W = true) (x : List (Nat × Nat)) :
    Touch W a { s with trkNext := x } :=
  ⟨fun p hp => by cases p <;> first | exact h.same _ hp | exact absurd (Part.mem_of_sub hw) hp, h.canon⟩

theorem touch_trkPrev (h : Touch W a s) (hw : Part.sub [.tracking] W = true) (x : List (Nat × Int × Int)) :
    Touch W a { s with trkPrev := x } :=
  ⟨fun p hp => by cases p <;> first | exact h.same _ hp | exact absurd (Part.mem_of_sub hw) hp, h.canon⟩

theorem touch_trkWin (h : Touch W a s) (hw : Part.sub [.tracking] W = true) (x : List (Nat × TrkWin)) :
    Touch W a { s with trkWin := x } :=
  ⟨fun p hp => by cases p <;> first | exact h.same _ hp | exact absurd (Part.mem_of_sub hw) hp, h.canon⟩

theorem touch_tx (h : Touch W a s) (hw : Part.sub [.links] W = true) (x : List TxFlit) :
    Touch W a { s with tx := x } :=
  ⟨fun p hp => by cases p <;> first | exact h.same _ hp | exact absurd (Part.mem_of_sub hw) hp, h.canon⟩

theorem touch_txnOpen (h : Touch W a s) (hw : Part.sub [.transactions] W = true) (x : List TxnOpen) :
    Touch W a { s with txnOpen := x } :=
  ⟨fun p hp => by cases p <;> first | exact h.same _ hp | exact absurd (Part.mem_of_sub hw) hp, h.canon⟩

theorem touch_txnPend (h : Touch W a s) (hw : Part.sub [.transactions] W = true) (x : List TxnPend) :
    Touch W a { s with txnPend := x } :=
  ⟨fun p hp => by cases p <;> first | exact h.same _ hp | exact absurd (Part.mem_of_sub hw) hp, h.canon⟩

theorem touch_undecided (h : Touch W a s) (hw : Part.sub [.admission] W = true) (x : List Cmd) :
    Touch W a { s with undecided := x } :=
  ⟨fun p hp => by cases p <;> first | exact h.same _ hp | exact absurd (Part.mem_of_sub hw) hp, h.canon⟩

theorem touch_valReq (h : Touch W a s) (hw : Part.sub [.configuration] W = true) (x : List (Nat × Nat)) :
    Touch W a { s with valReq := x } :=
  ⟨fun p hp => by cases p <;> first | exact h.same _ hp | exact absurd (Part.mem_of_sub hw) hp, h.canon⟩

theorem touch_wcCount (h : Touch W a s) (hw : Part.sub [.packets] W = true) (x : List (Nat × Nat)) :
    Touch W a { s with wcCount := x } :=
  ⟨fun p hp => by cases p <;> first | exact h.same _ hp | exact absurd (Part.mem_of_sub hw) hp, h.canon⟩

theorem touch_wideRep (h : Touch W a s) (hw : Part.sub [.repeats] W = true) (x : List (Nat × Nat)) :
    Touch W a { s with wideRep := x } :=
  ⟨fun p hp => by cases p <;> first | exact h.same _ hp | exact absurd (Part.mem_of_sub hw) hp, h.canon⟩

theorem touch_yar (h : Touch W a s) (hw : Part.sub [.yarrow] W = true) (x : YarSt) :
    Touch W a { s with yar := x } :=
  ⟨fun p hp => by cases p <;> first | exact h.same _ hp | exact absurd (Part.mem_of_sub hw) hp, h.canon⟩

theorem touch_calPrev_swTrim (h : Touch W a s) (hw : Part.sub [.calibration] W = true) (x0 : List (Nat × CalMeas)) (x1 : List (Nat × Nat)) :
    Touch W a { s with calPrev := x0, swTrim := x1 } :=
  touch_swTrim (touch_calPrev h (Part.sub_trans (by decide) hw) x0) (Part.sub_trans (by decide) hw) x1

theorem touch_calPrev_trimNext (h : Touch W a s) (hw : Part.sub [.calibration] W = true) (x0 : List (Nat × CalMeas)) (x1 : List (Nat × Int × Int)) :
    Touch W a { s with calPrev := x0, trimNext := x1 } :=
  touch_trimNext (touch_calPrev h (Part.sub_trans (by decide) hw) x0) (Part.sub_trans (by decide) hw) x1

theorem touch_calSum_calCycle (h : Touch W a s) (hw : Part.sub [.calibration] W = true) (x0 : List (Nat × CalSum)) (x1 : List (Nat × CalMeas)) :
    Touch W a { s with calSum := x0, calCycle := x1 } :=
  touch_calCycle (touch_calSum h (Part.sub_trans (by decide) hw) x0) (Part.sub_trans (by decide) hw) x1

theorem touch_chains_delivered (h : Touch W a s) (hw : Part.sub [.journal] W = true) (x0 : List Chain) (x1 : List (Nat × Nat)) :
    Touch W a { s with chains := x0, delivered := x1 } :=
  touch_delivered (touch_chains h (Part.sub_trans (by decide) hw) x0) (Part.sub_trans (by decide) hw) x1

theorem touch_ctrlQ_chains (h : Touch W a s) (hw : Part.sub [.journal, .links] W = true) (x0 : List (Nat × CtrlMsg)) (x1 : List Chain) :
    Touch W a { s with ctrlQ := x0, chains := x1 } :=
  touch_chains (touch_ctrlQ h (Part.sub_trans (by decide) hw) x0) (Part.sub_trans (by decide) hw) x1

theorem touch_ctrlQ_copied (h : Touch W a s) (hw : Part.sub [.journal, .links] W = true) (x0 : List (Nat × CtrlMsg)) (x1 : Nat) :
    Touch W a { s with ctrlQ := x0, copied := x1 } :=
  touch_copied (touch_ctrlQ h (Part.sub_trans (by decide) hw) x0) (Part.sub_trans (by decide) hw) x1

theorem touch_decisions_decLog (h : Touch W a s) (hw : Part.sub [.admission, .journal] W = true) (x0 : List (Nat × Decision)) (x1 : List (Nat × Decision × Bool)) :
    Touch W a { s with decisions := x0, decLog := x1 } :=
  touch_decLog (touch_decisions h (Part.sub_trans (by decide) hw) x0) (Part.sub_trans (by decide) hw) x1

theorem touch_fwd_fwdIn (h : Touch W a s) (hw : Part.sub [.admission] W = true) (x0 : List Cmd) (x1 : List Cmd) :
    Touch W a { s with fwd := x0, fwdIn := x1 } :=
  touch_fwdIn (touch_fwd h (Part.sub_trans (by decide) hw) x0) (Part.sub_trans (by decide) hw) x1

theorem touch_fwd_undecided (h : Touch W a s) (hw : Part.sub [.admission] W = true) (x0 : List Cmd) (x1 : List Cmd) :
    Touch W a { s with fwd := x0, undecided := x1 } :=
  touch_undecided (touch_fwd h (Part.sub_trans (by decide) hw) x0) (Part.sub_trans (by decide) hw) x1

theorem touch_fwdIn_arrivals (h : Touch W a s) (hw : Part.sub [.admission] W = true) (x0 : List Cmd) (x1 : List Arrival) :
    Touch W a { s with fwdIn := x0, arrivals := x1 } :=
  touch_arrivals (touch_fwdIn h (Part.sub_trans (by decide) hw) x0) (Part.sub_trans (by decide) hw) x1

theorem touch_joinSeen_qdr (h : Touch W a s) (hw : Part.sub [.quadrille, .membership] W = true) (x0 : Option Nat) (x1 : QdrSt) :
    Touch W a { s with joinSeen := x0, qdr := x1 } :=
  touch_qdr (touch_joinSeen h (Part.sub_trans (by decide) hw) x0) (Part.sub_trans (by decide) hw) x1

theorem touch_lastRead_errCap (h : Touch W a s) (hw : Part.sub [.readback] W = true) (x0 : Word) (x1 : List Nat) :
    Touch W a { s with lastRead := x0, errCap := x1 } :=
  touch_errCap (touch_lastRead h (Part.sub_trans (by decide) hw) x0) (Part.sub_trans (by decide) hw) x1

theorem touch_loadArrs_loadFact (h : Touch W a s) (hw : Part.sub [.load] W = true) (x0 : List Nat) (x1 : Bool) :
    Touch W a { s with loadArrs := x0, loadFact := x1 } :=
  touch_loadFact (touch_loadArrs h (Part.sub_trans (by decide) hw) x0) (Part.sub_trans (by decide) hw) x1

theorem touch_lsp_fuses (h : Touch W a s) (hw : Part.sub [.fuses, .larkspur] W = true) (x0 : LspSt) (x1 : Fuses) :
    Touch W a { s with lsp := x0, fuses := x1 } :=
  touch_fuses (touch_lsp h (Part.sub_trans (by decide) hw) x0) (Part.sub_trans (by decide) hw) x1

theorem touch_lsp_yar (h : Touch W a s) (hw : Part.sub [.yarrow, .larkspur] W = true) (x0 : LspSt) (x1 : YarSt) :
    Touch W a { s with lsp := x0, yar := x1 } :=
  touch_yar (touch_lsp h (Part.sub_trans (by decide) hw) x0) (Part.sub_trans (by decide) hw) x1

theorem touch_out_tx (h : Touch W a s) (hw : Part.sub [.sent, .links] W = true) (x0 : List Out) (x1 : List TxFlit) :
    Touch W a { s with out := x0, tx := x1 } :=
  touch_tx (touch_out h (Part.sub_trans (by decide) hw) x0) (Part.sub_trans (by decide) hw) x1

theorem touch_pav_arrTemp (h : Touch W a s) (hw : Part.sub [.frame, .temperature] W = true) (x0 : Pav) (x1 : List (Nat × Int × Nat)) :
    Touch W a { s with pav := x0, arrTemp := x1 } :=
  touch_arrTemp (touch_pav h (Part.sub_trans (by decide) hw) x0) (Part.sub_trans (by decide) hw) x1

theorem touch_pav_qdr (h : Touch W a s) (hw : Part.sub [.frame, .quadrille] W = true) (x0 : Pav) (x1 : QdrSt) :
    Touch W a { s with pav := x0, qdr := x1 } :=
  touch_qdr (touch_pav h (Part.sub_trans (by decide) hw) x0) (Part.sub_trans (by decide) hw) x1

theorem touch_pav_records (h : Touch W a s) (hw : Part.sub [.frame, .records] W = true) (x0 : Pav) (x1 : List ErrRec) :
    Touch W a { s with pav := x0, records := x1 } :=
  touch_records (touch_pav h (Part.sub_trans (by decide) hw) x0) (Part.sub_trans (by decide) hw) x1

theorem touch_prefixes_nextHandle (h : Touch W a s) (hw : Part.sub [.prefixes] W = true) (x0 : List Prefix) (x1 : Nat) :
    Touch W a { s with prefixes := x0, nextHandle := x1 } :=
  touch_nextHandle (touch_prefixes h (Part.sub_trans (by decide) hw) x0) (Part.sub_trans (by decide) hw) x1

theorem touch_reqs_nextOrder (h : Touch W a s) (hw : Part.sub [.requests] W = true) (x0 : List Req) (x1 : Nat) :
    Touch W a { s with reqs := x0, nextOrder := x1 } :=
  touch_nextOrder (touch_reqs h (Part.sub_trans (by decide) hw) x0) (Part.sub_trans (by decide) hw) x1

theorem touch_snaps_decLog (h : Touch W a s) (hw : Part.sub [.journal, .snapshots] W = true) (x0 : List (Nat × List Req × List Prefix)) (x1 : List (Nat × Decision × Bool)) :
    Touch W a { s with snaps := x0, decLog := x1 } :=
  touch_decLog (touch_snaps h (Part.sub_trans (by decide) hw) x0) (Part.sub_trans (by decide) hw) x1

theorem touch_staged_qdr (h : Touch W a s) (hw : Part.sub [.staged, .quadrille] W = true) (x0 : List (Nat × Flit)) (x1 : QdrSt) :
    Touch W a { s with staged := x0, qdr := x1 } :=
  touch_qdr (touch_staged h (Part.sub_trans (by decide) hw) x0) (Part.sub_trans (by decide) hw) x1

theorem touch_trimNext_swTrim (h : Touch W a s) (hw : Part.sub [.calibration] W = true) (x0 : List (Nat × Int × Int)) (x1 : List (Nat × Nat)) :
    Touch W a { s with trimNext := x0, swTrim := x1 } :=
  touch_swTrim (touch_trimNext h (Part.sub_trans (by decide) hw) x0) (Part.sub_trans (by decide) hw) x1

theorem touch_trkPrev_trkNext (h : Touch W a s) (hw : Part.sub [.tracking] W = true) (x0 : List (Nat × Int × Int)) (x1 : List (Nat × Nat)) :
    Touch W a { s with trkPrev := x0, trkNext := x1 } :=
  touch_trkNext (touch_trkPrev h (Part.sub_trans (by decide) hw) x0) (Part.sub_trans (by decide) hw) x1

theorem touch_txnOpen_txnPend (h : Touch W a s) (hw : Part.sub [.transactions] W = true) (x0 : List TxnOpen) (x1 : List TxnPend) :
    Touch W a { s with txnOpen := x0, txnPend := x1 } :=
  touch_txnPend (touch_txnOpen h (Part.sub_trans (by decide) hw) x0) (Part.sub_trans (by decide) hw) x1

theorem touch_failTile_failCore_boot (h : Touch W a s) (hw : Part.sub [.failures, .boot] W = true) (x0 : List Nat) (x1 : List Nat) (x2 : BootSt) :
    Touch W a { s with failTile := x0, failCore := x1, boot := x2 } :=
  touch_boot (touch_failCore (touch_failTile h (Part.sub_trans (by decide) hw) x0) (Part.sub_trans (by decide) hw) x1) (Part.sub_trans (by decide) hw) x2

theorem touch_fwd_undecided_ctrlQ (h : Touch W a s) (hw : Part.sub [.admission, .links] W = true) (x0 : List Cmd) (x1 : List Cmd) (x2 : List (Nat × CtrlMsg)) :
    Touch W a { s with fwd := x0, undecided := x1, ctrlQ := x2 } :=
  touch_ctrlQ (touch_undecided (touch_fwd h (Part.sub_trans (by decide) hw) x0) (Part.sub_trans (by decide) hw) x1) (Part.sub_trans (by decide) hw) x2

theorem touch_held_satRec_wideRep (h : Touch W a s) (hw : Part.sub [.results, .repeats] W = true) (x0 : List Held) (x1 : List SatRec) (x2 : List (Nat × Nat)) :
    Touch W a { s with held := x0, satRec := x1, wideRep := x2 } :=
  touch_wideRep (touch_satRec (touch_held h (Part.sub_trans (by decide) hw) x0) (Part.sub_trans (by decide) hw) x1) (Part.sub_trans (by decide) hw) x2

theorem touch_moving_cow_taint (h : Touch W a s) (hw : Part.sub [.pages, .taint] W = true) (x0 : List Moving) (x1 : List CowCopy) (x2 : List Taint) :
    Touch W a { s with moving := x0, cow := x1, taint := x2 } :=
  touch_taint (touch_cow (touch_moving h (Part.sub_trans (by decide) hw) x0) (Part.sub_trans (by decide) hw) x1) (Part.sub_trans (by decide) hw) x2

theorem touch_pav_qdr_failSolo (h : Touch W a s) (hw : Part.sub [.frame, .quadrille, .membership] W = true) (x0 : Pav) (x1 : QdrSt) (x2 : Bool) :
    Touch W a { s with pav := x0, qdr := x1, failSolo := x2 } :=
  touch_failSolo (touch_qdr (touch_pav h (Part.sub_trans (by decide) hw) x0) (Part.sub_trans (by decide) hw) x1) (Part.sub_trans (by decide) hw) x2

theorem touch_planAt_plan_freeCount (h : Touch W a s) (hw : Part.sub [.plan, .free] W = true) (x0 : Option Nat) (x1 : List Nat) (x2 : Nat) :
    Touch W a { s with planAt := x0, plan := x1, freeCount := x2 } :=
  touch_freeCount (touch_plan (touch_planAt h (Part.sub_trans (by decide) hw) x0) (Part.sub_trans (by decide) hw) x1) (Part.sub_trans (by decide) hw) x2

theorem touch_reqs_prefixes_snaps (h : Touch W a s) (hw : Part.sub [.requests, .prefixes, .snapshots] W = true) (x0 : List Req) (x1 : List Prefix) (x2 : List (Nat × List Req × List Prefix)) :
    Touch W a { s with reqs := x0, prefixes := x1, snaps := x2 } :=
  touch_snaps (touch_prefixes (touch_reqs h (Part.sub_trans (by decide) hw) x0) (Part.sub_trans (by decide) hw) x1) (Part.sub_trans (by decide) hw) x2

theorem touch_suspLast_railPend_lastSusp (h : Touch W a s) (hw : Part.sub [.suspects] W = true) (x0 : List (Nat × Nat)) (x1 : List Nat) (x2 : List (Nat × Nat)) :
    Touch W a { s with suspLast := x0, railPend := x1, lastSusp := x2 } :=
  touch_lastSusp (touch_railPend (touch_suspLast h (Part.sub_trans (by decide) hw) x0) (Part.sub_trans (by decide) hw) x1) (Part.sub_trans (by decide) hw) x2

theorem touch_cells_trkWin_trkPrev_cfgLoad (h : Touch W a s) (hw : Part.sub [.configuration, .analog, .tracking] W = true) (x0 : List (Nat × List Int)) (x1 : List (Nat × TrkWin)) (x2 : List (Nat × Int × Int)) (x3 : List (Nat × Nat × Nat)) :
    Touch W a { s with cells := x0, trkWin := x1, trkPrev := x2, cfgLoad := x3 } :=
  touch_cfgLoad (touch_trkPrev (touch_trkWin (touch_cells h (Part.sub_trans (by decide) hw) x0) (Part.sub_trans (by decide) hw) x1) (Part.sub_trans (by decide) hw) x2) (Part.sub_trans (by decide) hw) x3

theorem touch_img_qdr_failSolo_staging (h : Touch W a s) (hw : Part.sub [.image, .load, .quadrille, .membership] W = true) (x0 : Option Image) (x1 : QdrSt) (x2 : Bool) (x3 : Option Image) :
    Touch W a { s with img := x0, qdr := x1, failSolo := x2, staging := x3 } :=
  touch_staging (touch_failSolo (touch_qdr (touch_img h (Part.sub_trans (by decide) hw) x0) (Part.sub_trans (by decide) hw) x1) (Part.sub_trans (by decide) hw) x2) (Part.sub_trans (by decide) hw) x3

theorem touch_reqs_posts_decisions_chains_decLog (h : Touch W a s) (hw : Part.sub [.requests, .completions, .admission, .journal] W = true) (x0 : List Req) (x1 : List Post) (x2 : List (Nat × Decision)) (x3 : List Chain) (x4 : List (Nat × Decision × Bool)) :
    Touch W a { s with reqs := x0, posts := x1, decisions := x2, chains := x3, decLog := x4 } :=
  touch_decLog (touch_chains (touch_decisions (touch_posts (touch_reqs h (Part.sub_trans (by decide) hw) x0) (Part.sub_trans (by decide) hw) x1) (Part.sub_trans (by decide) hw) x2) (Part.sub_trans (by decide) hw) x3) (Part.sub_trans (by decide) hw) x4

theorem touch_loadArrs_staging_stageBase_stageLen_loadStop_loadFact (h : Touch W a s) (hw : Part.sub [.load] W = true) (x0 : List Nat) (x1 : Option Image) (x2 : Nat) (x3 : Nat) (x4 : Bool) (x5 : Bool) :
    Touch W a { s with loadArrs := x0, staging := x1, stageBase := x2, stageLen := x3, loadStop := x4, loadFact := x5 } :=
  touch_loadFact (touch_loadStop (touch_stageLen (touch_stageBase (touch_staging (touch_loadArrs h (Part.sub_trans (by decide) hw) x0) (Part.sub_trans (by decide) hw) x1) (Part.sub_trans (by decide) hw) x2) (Part.sub_trans (by decide) hw) x3) (Part.sub_trans (by decide) hw) x4) (Part.sub_trans (by decide) hw) x5

theorem touch_pav_fenced_img_qdr_failSolo_staging_stageBase_stageLen (h : Touch W a s) (hw : Part.sub [.frame, .fences, .image, .load, .quadrille, .membership] W = true) (x0 : Pav) (x1 : List Nat) (x2 : Option Image) (x3 : QdrSt) (x4 : Bool) (x5 : Option Image) (x6 : Nat) (x7 : Nat) :
    Touch W a { s with pav := x0, fenced := x1, img := x2, qdr := x3, failSolo := x4, staging := x5, stageBase := x6, stageLen := x7 } :=
  touch_stageLen (touch_stageBase (touch_staging (touch_failSolo (touch_qdr (touch_img (touch_fenced (touch_pav h (Part.sub_trans (by decide) hw) x0) (Part.sub_trans (by decide) hw) x1) (Part.sub_trans (by decide) hw) x2) (Part.sub_trans (by decide) hw) x3) (Part.sub_trans (by decide) hw) x4) (Part.sub_trans (by decide) hw) x5) (Part.sub_trans (by decide) hw) x6) (Part.sub_trans (by decide) hw) x7

theorem touch_held_satRec_capture_degrade_evicts_summaries_draftTok_fill_fillNext_staged (h : Touch W a s) (hw : Part.sub [.results, .degraded, .requests, .sampling, .staged] W = true) (x0 : List Held) (x1 : List SatRec) (x2 : List Capture) (x3 : List (Nat × Nat × Nat)) (x4 : List (Nat × List Nat)) (x5 : List (Nat × Nat × Shard × List Nat)) (x6 : List (Nat × Nat × Nat)) (x7 : List (Nat × Nat)) (x8 : List (Nat × Nat)) (x9 : List (Nat × Flit)) :
    Touch W a { s with held := x0, satRec := x1, capture := x2, degrade := x3, evicts := x4, summaries := x5, draftTok := x6, fill := x7, fillNext := x8, staged := x9 } :=
  touch_staged (touch_fillNext (touch_fill (touch_draftTok (touch_summaries (touch_evicts (touch_degrade (touch_capture (touch_satRec (touch_held h (Part.sub_trans (by decide) hw) x0) (Part.sub_trans (by decide) hw) x1) (Part.sub_trans (by decide) hw) x2) (Part.sub_trans (by decide) hw) x3) (Part.sub_trans (by decide) hw) x4) (Part.sub_trans (by decide) hw) x5) (Part.sub_trans (by decide) hw) x6) (Part.sub_trans (by decide) hw) x7) (Part.sub_trans (by decide) hw) x8) (Part.sub_trans (by decide) hw) x9

theorem touch_reqs_posts_fwd_fwdIn_undecided_notices_leaves_evicts_arrivals_decisions_ctrlQ_freeRep_nextOrder (h : Touch W a s) (hw : Part.sub [.requests, .completions, .admission, .leaves, .links] W = true) (x0 : List Req) (x1 : List Post) (x2 : List Cmd) (x3 : List Cmd) (x4 : List Cmd) (x5 : List (Nat × Nat)) (x6 : List (Nat × Nat)) (x7 : List (Nat × List Nat)) (x8 : List Arrival) (x9 : List (Nat × Decision)) (x10 : List (Nat × CtrlMsg)) (x11 : List (Nat × Nat)) (x12 : Nat) :
    Touch W a { s with reqs := x0, posts := x1, fwd := x2, fwdIn := x3, undecided := x4, notices := x5, leaves := x6, evicts := x7, arrivals := x8, decisions := x9, ctrlQ := x10, freeRep := x11, nextOrder := x12 } :=
  touch_nextOrder (touch_freeRep (touch_ctrlQ (touch_decisions (touch_arrivals (touch_evicts (touch_leaves (touch_notices (touch_undecided (touch_fwdIn (touch_fwd (touch_posts (touch_reqs h (Part.sub_trans (by decide) hw) x0) (Part.sub_trans (by decide) hw) x1) (Part.sub_trans (by decide) hw) x2) (Part.sub_trans (by decide) hw) x3) (Part.sub_trans (by decide) hw) x4) (Part.sub_trans (by decide) hw) x5) (Part.sub_trans (by decide) hw) x6) (Part.sub_trans (by decide) hw) x7) (Part.sub_trans (by decide) hw) x8) (Part.sub_trans (by decide) hw) x9) (Part.sub_trans (by decide) hw) x10) (Part.sub_trans (by decide) hw) x11) (Part.sub_trans (by decide) hw) x12

theorem touch_pav_held_satRec_capture_lastPass_clearing_wcCount_pktCount_ran_degrade_wideRep_done_summaries_fill_fillNext_ports (h : Touch W a s) (hw : Part.sub [.frame, .slots, .packets, .results, .scrub, .degraded, .repeats, .sampling, .staged, .links] W = true) (x0 : Pav) (x1 : List Held) (x2 : List SatRec) (x3 : List Capture) (x4 : List (Nat × Nat)) (x5 : List (Nat × Nat)) (x6 : List (Nat × Nat)) (x7 : List (Nat × Nat)) (x8 : List (Nat × Nat)) (x9 : List (Nat × Nat × Nat)) (x10 : List (Nat × Nat)) (x11 : List Nat) (x12 : List (Nat × Nat × Shard × List Nat)) (x13 : List (Nat × Nat)) (x14 : List (Nat × Nat)) (x15 : List (Nat × PortSt)) :
    Touch W a { s with pav := x0, held := x1, satRec := x2, capture := x3, lastPass := x4, clearing := x5, wcCount := x6, pktCount := x7, ran := x8, degrade := x9, wideRep := x10, done := x11, summaries := x12, fill := x13, fillNext := x14, ports := x15 } :=
  touch_ports (touch_fillNext (touch_fill (touch_summaries (touch_done (touch_wideRep (touch_degrade (touch_ran (touch_pktCount (touch_wcCount (touch_clearing (touch_lastPass (touch_capture (touch_satRec (touch_held (touch_pav h (Part.sub_trans (by decide) hw) x0) (Part.sub_trans (by decide) hw) x1) (Part.sub_trans (by decide) hw) x2) (Part.sub_trans (by decide) hw) x3) (Part.sub_trans (by decide) hw) x4) (Part.sub_trans (by decide) hw) x5) (Part.sub_trans (by decide) hw) x6) (Part.sub_trans (by decide) hw) x7) (Part.sub_trans (by decide) hw) x8) (Part.sub_trans (by decide) hw) x9) (Part.sub_trans (by decide) hw) x10) (Part.sub_trans (by decide) hw) x11) (Part.sub_trans (by decide) hw) x12) (Part.sub_trans (by decide) hw) x13) (Part.sub_trans (by decide) hw) x14) (Part.sub_trans (by decide) hw) x15

theorem touch_joinSeen_lspIn_prefixes_nextHandle_moving_cow_kvFail_taint_summaries_draftTok_chains_delivered_snaps_decLog_mirUsed_copied_fill_fillNext_staged (h : Touch W a s) (hw : Part.sub [.prefixes, .sampling, .pages, .taint, .journal, .snapshots, .staged, .membership, .mail] W = true) (x0 : Option Nat) (x1 : List (List Nat)) (x2 : List Prefix) (x3 : Nat) (x4 : List Moving) (x5 : List CowCopy) (x6 : List (Nat × Nat)) (x7 : List Taint) (x8 : List (Nat × Nat × Shard × List Nat)) (x9 : List (Nat × Nat × Nat)) (x10 : List Chain) (x11 : List (Nat × Nat)) (x12 : List (Nat × List Req × List Prefix)) (x13 : List (Nat × Decision × Bool)) (x14 : List Nat) (x15 : Nat) (x16 : List (Nat × Nat)) (x17 : List (Nat × Nat)) (x18 : List (Nat × Flit)) :
    Touch W a { s with joinSeen := x0, lspIn := x1, prefixes := x2, nextHandle := x3, moving := x4, cow := x5, kvFail := x6, taint := x7, summaries := x8, draftTok := x9, chains := x10, delivered := x11, snaps := x12, decLog := x13, mirUsed := x14, copied := x15, fill := x16, fillNext := x17, staged := x18 } :=
  touch_staged (touch_fillNext (touch_fill (touch_copied (touch_mirUsed (touch_decLog (touch_snaps (touch_delivered (touch_chains (touch_draftTok (touch_summaries (touch_taint (touch_kvFail (touch_cow (touch_moving (touch_nextHandle (touch_prefixes (touch_lspIn (touch_joinSeen h (Part.sub_trans (by decide) hw) x0) (Part.sub_trans (by decide) hw) x1) (Part.sub_trans (by decide) hw) x2) (Part.sub_trans (by decide) hw) x3) (Part.sub_trans (by decide) hw) x4) (Part.sub_trans (by decide) hw) x5) (Part.sub_trans (by decide) hw) x6) (Part.sub_trans (by decide) hw) x7) (Part.sub_trans (by decide) hw) x8) (Part.sub_trans (by decide) hw) x9) (Part.sub_trans (by decide) hw) x10) (Part.sub_trans (by decide) hw) x11) (Part.sub_trans (by decide) hw) x12) (Part.sub_trans (by decide) hw) x13) (Part.sub_trans (by decide) hw) x14) (Part.sub_trans (by decide) hw) x15) (Part.sub_trans (by decide) hw) x16) (Part.sub_trans (by decide) hw) x17) (Part.sub_trans (by decide) hw) x18

end Sys2Proof.Machine
end

