-- ==== Sys2Proof/Laws/FrameOps.lean ====
section
/-! SUPPORT. What each operation and each meaning of Machine/Ops.lean may change. -/

namespace Sys2Proof.Machine

variable {W : List Part} {a s : State}

theorem State.at_touch (h : Touch W a s) (hw : Part.sub [.clock] W = true) (t : Nat) :
    Touch W a (State.at s t) := by
  refine h.step hw ?_
  unfold State.at
  exact touch_now .refl (by decide) _

theorem State.setReg_touch (h : Touch W a s) (hw : Part.sub [.registers] W = true) (k : Nat) (v : Word) :
    Touch W a (State.setReg s k v) := touch_regs h hw _ (scanon_sset k v)

theorem State.setf_touch (h : Touch W a s) (hw : Part.sub [.registers] W = true) (F : Fld) (x : Nat) :
    Touch W a (State.setf s F x) := by
  refine h.step hw ?_
  unfold State.setf
  exact State.setReg_touch .refl (by decide) _ _

theorem State.setfi_touch (h : Touch W a s) (hw : Part.sub [.registers] W = true) (F : Fld) (x : Int) :
    Touch W a (State.setfi s F x) := by
  refine h.step hw ?_
  unfold State.setfi
  exact State.setf_touch .refl (by decide) _ _

theorem State.add_touch (h : Touch W a s) (hw : Part.sub [.registers] W = true) (F : Fld) (n : Nat) :
    Touch W a (State.add s F n) := by
  refine h.step hw ?_
  unfold State.add
  exact State.setf_touch .refl (by decide) _ _

theorem State.inc_touch (h : Touch W a s) (hw : Part.sub [.registers] W = true) (F : Fld) :
    Touch W a (State.inc s F) := by
  refine h.step hw ?_
  unfold State.inc
  exact State.add_touch .refl (by decide) _ _

theorem State.when_touch (h : Touch W a s) (c : Bool) (f : State → State) (hf : ∀ u, Touch W a u → Touch W a (f u)) :
    Touch W a (State.when s c f) := by
  unfold State.when
  exact touch_ite (hf _ h) h

theorem State.used_touch (h : Touch W a s) (hw : Part.sub [.free] W = true) :
    Touch W a (State.used s) := by
  refine h.step hw ?_
  unfold State.used
  exact touch_freeCount .refl (by decide) _

theorem State.write_touch (h : Touch W a s) (hw : Part.sub [.memory] W = true) (k : Nat) (bs : List Nat) :
    Touch W a (State.write s k bs) := touch_mem h hw _ (scanon_setBytes bs)

theorem State.writeNum_touch (h : Touch W a s) (hw : Part.sub [.memory] W = true) (a0 n v : Nat) :
    Touch W a (State.writeNum s a0 n v) := by
  refine h.step hw ?_
  unfold State.writeNum
  exact State.write_touch .refl (by decide) _ _

theorem State.msix_touch (h : Touch W a s) (hw : Part.sub [.registers, .sent] W = true) (v : Nat) :
    Touch W a (State.msix s v) := by
  refine h.step hw ?_
  unfold State.msix
  exact touch_ite (State.setf_touch .refl (by decide) _ _) (touch_out (State.setf_touch .refl (by decide) _ _) (by decide) _)

theorem State.latch_touch (h : Touch W a s) (hw : Part.sub [.registers, .sent] W = true) (b0 : Nat) :
    Touch W a (State.latch s b0) := by
  refine h.step hw ?_
  unfold State.latch
  exact State.when_touch (State.setf_touch .refl (by decide) _ _) _ _ (fun u hu => (State.msix_touch hu (by decide) _))

theorem State.evt_touch (h : Touch W a s) (hw : Part.sub [.registers, .sent] W = true) (F : Fld) :
    Touch W a (State.evt s F) := by
  refine h.step hw ?_
  unfold State.evt
  exact touch_ite .refl (State.when_touch (State.latch_touch (State.setf_touch .refl (by decide) _ _) (by decide) _) _ _ (fun u hu
    => (State.msix_touch hu (by decide) _)))

theorem State.hostErr_touch (h : Touch W a s) (hw : Part.sub [.registers, .sent] W = true) (F : Fld) :
    Touch W a (State.hostErr s F) := by
  refine h.step hw ?_
  unfold State.hostErr
  exact State.evt_touch (State.inc_touch .refl (by decide) _) (by decide) _

theorem State.raiseFrom_touch (h : Touch W a s) (hw : Part.sub [.frame, .records] W = true) (sev cause kind unit detail flags sfrom
    : Nat) :
    Touch W a (State.raiseFrom s sev cause kind unit detail flags sfrom) := by
  refine h.step hw ?_
  unfold State.raiseFrom
  exact touch_pav_records .refl (by decide) _ _

theorem State.raise_touch (h : Touch W a s) (hw : Part.sub [.frame, .records] W = true) (sev cause kind unit detail : Nat) :
    Touch W a (State.raise s sev cause kind unit detail) := by
  refine h.step hw ?_
  unfold State.raise
  exact State.raiseFrom_touch .refl (by decide) _ _ _ _ _ _ _

theorem State.flag_touch (h : Touch W a s) (hw : Part.sub [.registers, .sent] W = true) (A cause group reason : Nat) :
    Touch W a (State.flag s A cause group reason) := by
  refine h.step hw ?_
  unfold State.flag
  exact touch_ite (State.when_touch (State.when_touch (State.evt_touch (State.setf_touch (State.setf_touch .refl (by decide) _ _)
    (by decide) _ _) (by decide) _) _ _ (fun u hu => (State.setf_touch hu (by decide) _ _))) _ _ (fun u1 hu1 => (State.evt_touch
    (State.setf_touch (State.setf_touch hu1 (by decide) _ _) (by decide) _ _) (by decide) _))) .refl

theorem State.suspFence_touch (h : Touch W a s) (hw : Part.sub [.registers, .sent, .frame, .records] W = true) (kind unit since :
    Nat) :
    Touch W a (State.suspFence s kind unit since) := by
  refine h.step hw ?_
  unfold State.suspFence
  exact State.when_touch (State.raiseFrom_touch .refl (by decide) _ _ _ _ _ _ _) _ _ (fun u hu => (State.flag_touch hu (by decide) _
    _ _ _))

theorem State.suspect_touch (h : Touch W a s) (hw : Part.sub [.registers, .sent, .frame, .records, .suspects] W = true) (kind unit
    : Nat) :
    Touch W a (State.suspect s kind unit) := by
  refine h.step hw ?_
  unfold State.suspect
  exact touch_ite .refl (by
      try dsimp -proj only
      split
      · exact touch_ite (State.suspFence_touch (State.evt_touch (State.setf_touch (touch_suspLast_railPend_lastSusp .refl
          (by decide) _ _ _) (by decide) _ _) (by decide) _) (by decide) _ _ _) (touch_suspLast_railPend_lastSusp .refl (by decide)
          _ _ _)
      · exact (by
            try dsimp -proj only
            split
            · exact touch_ite (State.evt_touch (State.suspFence_touch (touch_suspLast_railPend_lastSusp .refl (by decide) _ _ _)
                (by decide) _ _ _) (by decide) _) (State.evt_touch (State.setf_touch (State.setf_touch (State.setf_touch
                (State.setf_touch (touch_suspLast_railPend_lastSusp .refl (by decide) _ _ _) (by decide) _ _) (by decide) _ _)
                (by decide) _ _) (by decide) _ _) (by decide) _)
            · exact State.evt_touch (State.suspFence_touch (touch_suspLast_railPend_lastSusp .refl (by decide) _ _ _) (by decide) _
                _ _) (by decide) _))

theorem State.addScore_touch (h : Touch W a s) (hw : Part.sub [.registers, .sent, .frame, .records, .suspects] W = true) (kind : Nat)
    (unit : Nat) (n : Nat) : Touch W a (State.addScore s kind unit n) := by
  refine h.step hw ?_
  unfold State.addScore
  have hc (v : Nat) : Touch [.registers, .sent, .frame, .records, .suspects] s
      { s with score := sset (fun _ => 0) s.score (kind * 2 ^ 32 + unit) v } :=
    touch_score .refl (by decide) _ (scanon_sset _ v)
  dsimp only
  split
  · exact State.suspect_touch (State.raiseFrom_touch (hc 0) (by decide) ..) (by decide) ..
  · exact hc _

end Sys2Proof.Machine
end

