-- ==== Sys2Proof/Laws/FrameSlots.lean ====
section
/-! SUPPORT. What each operation and each meaning of Machine/Slots.lean may change. -/

namespace Sys2Proof.Machine

variable {W : List Part} {a s : State}

theorem State.mark_touch (h : Touch W a s) (hw : Part.sub [.slots] W = true) (c i : Nat) :
    Touch W a (State.mark s c i) := by
  refine h.step hw ?_
  unfold State.mark
  exact touch_ran .refl (by decide) _

theorem State.spdCorrected_touch (h : Touch W a s) (hw : Part.sub [.registers, .sent, .frame, .scrub, .records] W = true) (c off :
    Nat) :
    Touch W a (State.spdCorrected s c off) := by
  refine h.step hw ?_
  unfold State.spdCorrected
  exact touch_ite (State.raise_touch (State.evt_touch (State.setf_touch (State.setf_touch (State.inc_touch .refl (by decide) _)
    (by decide) _ _) (by decide) _ _) (by decide) _) (by decide) _ _ _ _ _) (State.setf_touch (touch_scrubLog (State.raise_touch
    (State.evt_touch (State.setf_touch (State.setf_touch (State.inc_touch .refl (by decide) _) (by decide) _ _) (by decide) _ _)
    (by decide) _) (by decide) _ _ _ _ _) (by decide) _) (by decide) _ _)

theorem State.spdParity_touch (h : Touch W a s) (hw : Part.sub [.registers, .sent, .frame, .scrub, .records, .suspects] W = true)
    (c off : Nat) (tell : Bool) :
    Touch W a (State.spdParity s c off tell) := by
  refine h.step hw ?_
  unfold State.spdParity
  exact State.when_touch (touch_poison (State.evt_touch (State.setf_touch (State.setf_touch (State.inc_touch .refl (by decide) _)
    (by decide) _ _) (by decide) _ _) (by decide) _) (by decide) _) _ _ (fun u hu => (State.addScore_touch (State.raise_touch hu
    (by decide) _ _ _ _ _) (by decide) _ _ _))

theorem State.spdUncorr_touch (h : Touch W a s) (hw : Part.sub [.registers, .sent, .frame, .records, .suspects] W = true) (c off :
    Nat) (tell : Bool) :
    Touch W a (State.spdUncorr s c off tell) := by
  refine h.step hw ?_
  unfold State.spdUncorr
  exact State.when_touch (State.evt_touch (State.setf_touch (State.setf_touch (State.inc_touch .refl (by decide) _) (by decide) _ _)
    (by decide) _ _) (by decide) _) _ _ (fun u hu => (State.addScore_touch (State.raise_touch hu (by decide) _ _ _ _ _) (by decide)
    _ _ _))

theorem State.nocCrc_touch (h : Touch W a s) (hw : Part.sub [.registers, .sent, .frame, .scrub, .records, .suspects] W = true)
    (c off link : Nat) (tell : Bool) : Touch W a (State.nocCrc s c off link tell) := by
  refine h.step hw ?_
  unfold State.nocCrc
  exact State.when_touch (touch_ite (touch_poison (State.inc_touch .refl (by decide) _) (by decide) _) (State.inc_touch .refl
    (by decide) _)) _ _ (fun u hu => (State.addScore_touch (State.raise_touch hu (by decide) _ _ _ _ _) (by decide) _ _ _))

theorem meetErrs_touch {r : Rd} (h : Touch W a r.s) (hw : Part.sub [.registers, .sent, .frame, .scrub, .records, .suspects] W = true)
    (es : List WordErr) : Touch W a (meetErrs es r).s := by
  induction es generalizing r with
  | nil => exact h
  | cons e es ih =>
    unfold meetErrs
    split
    · exact ih (State.nocCrc_touch h hw ..)
    split
    · split
      · exact ih (State.spdUncorr_touch h (Part.sub_trans (by decide) hw) ..)
      · exact ih (State.spdCorrected_touch h (Part.sub_trans (by decide) hw) ..)
    · exact ih (State.spdParity_touch h (Part.sub_trans (by decide) hw) ..)

theorem State.tellPoison_touch (h : Touch W a s) (hw : Part.sub [.registers, .sent, .frame, .records, .suspects] W = true) (reader
    : Nat) (p : Poison) :
    Touch W a (State.tellPoison s reader p) := by
  refine h.step hw ?_
  unfold State.tellPoison
  exact touch_ite (State.addScore_touch (State.raise_touch .refl (by decide) _ _ _ _ _) (by decide) _ _ _) (touch_ite
    (State.addScore_touch (State.raise_touch .refl (by decide) _ _ _ _ _) (by decide) _ _ _) (State.raise_touch .refl (by decide) _
    _ _ _ _))

theorem State.readSpd_touch (h : Touch W a s) (hw : Part.sub [.registers, .sent, .frame, .scrub, .records, .suspects, .free] W = true)
    (reader sel off n : Nat) (errs : List WordErr) : Touch W a (State.readSpd s reader sel off n errs).s := by
  refine h.step hw ?_
  unfold State.readSpd
  repeat' first
    | (intro _; intros)
    | with_reducible first | assumption | exact .refl | apply State.tellPoison_touch | apply State.evt_touch
        | apply State.inc_touch | apply State.raise_touch | apply State.used_touch | apply meetErrs_touch
    | decide | split | dsimp only

theorem State.writeSpd_touch (h : Touch W a s) (hw : Part.sub [.registers, .memory, .sent, .scrub] W = true) (w sel off : Nat) (bs
    : List Nat) :
    Touch W a (State.writeSpd s w sel off bs) := by
  refine h.step hw ?_
  unfold State.writeSpd
  exact (by
      try dsimp -proj only
      split
      · exact .refl
      · exact touch_ite .refl (touch_ite (State.evt_touch .refl (by decide) _) (State.write_touch (touch_poison .refl (by decide) _)
          (by decide) _ _)))

end Sys2Proof.Machine
end

