-- ==== Sys2Proof/Laws/FramePackets.lean ====
section
/-! SUPPORT. What each operation and each meaning of Machine/Packets.lean may change. -/

namespace Sys2Proof.Machine

variable {W : List Part} {a s : State}

theorem State.takePkt_touch (h : Touch W a s) (hw : Part.sub [.registers, .sent, .frame, .scrub, .records, .suspects, .free] W =
    true) (c sel off : Nat) (a8 : Bool) (errs : List WordErr) :
    Touch W a (State.takePkt s c sel off a8 errs).1 := by
  refine h.step hw ?_
  unfold State.takePkt
  try dsimp only
  exact touch_ite_by Prod.fst (State.readSpd_touch .refl (by decide) _ _ _ _ _) (touch_ite_by Prod.fst (touch_ite_by Prod.fst
    (State.inc_touch (State.raise_touch (State.readSpd_touch .refl (by decide) _ _ _ _ _) (by decide) _ _ _ _ _) (by decide) _)
    (State.readSpd_touch .refl (by decide) _ _ _ _ _)) (State.inc_touch (State.raise_touch (State.readSpd_touch .refl (by decide) _
    _ _ _ _) (by decide) _ _ _ _ _) (by decide) _))

theorem State.takePkt_pair (h : Touch W a s) (hw : Part.sub [.registers, .sent, .frame, .scrub, .records, .suspects, .free] W =
    true) (c sel off : Nat) (a8 : Bool) (errs : List WordErr) {u y} (e : State.takePkt s c sel off a8 errs = (u, y)) :
    Touch W a u := by
  have := State.takePkt_touch h hw c sel off a8 errs
  rwa [e] at this

theorem State.takePkts_touch (h : Touch W a s) (hw : Part.sub [.registers, .sent, .frame, .scrub, .records, .suspects, .free] W = true)
    (c sel : Nat) (a8 : Bool) (errs : List WordErr) (n off : Nat) : Touch W a (State.takePkts s c sel a8 errs n off).1 := by
  induction n generalizing s off with
  | zero => exact h
  | succ n ih => exact ih (State.takePkt_touch h hw ..) _

theorem State.wideCopy_touch (h : Touch W a s) (hw : Part.sub [.registers, .memory, .sent, .packets, .scrub] W = true) (c : Nat)
    (st : Stream) (a8 : Bool) (v : List Num) (primary blk pkt : Nat) :
    Touch W a (State.wideCopy s c st a8 v primary blk pkt) := by
  refine h.step hw ?_
  unfold State.wideCopy
  exact touch_ite (State.inc_touch (State.writeSpd_touch (touch_wcCount .refl (by decide) _) (by decide) _ _ _ _) (by decide) _)
    (State.inc_touch .refl (by decide) _)

theorem State.tallyBlk_touch (h : Touch W a s) (hw : Part.sub [.registers, .memory, .sent, .packets, .scrub] W = true) (c : Nat)
    (st : Stream) (a8 : Bool) (v : List Num) (b0 : Blk) (blk pkt : Nat) :
    Touch W a (State.tallyBlk s c st a8 v b0 blk pkt) := by
  refine h.step hw ?_
  unfold State.tallyBlk
  exact State.when_touch (State.when_touch (State.when_touch .refl _ _ (fun u hu => (State.inc_touch hu (by decide) _))) _ _ (fun u1
    hu1 => (State.wideCopy_touch (State.inc_touch hu1 (by decide) _) (by decide) _ _ _ _ _ _ _))) _ _ (fun u2 hu2 =>
    (State.wideCopy_touch (State.inc_touch hu2 (by decide) _) (by decide) _ _ _ _ _ _ _))

theorem State.encLanes_touch (h : Touch W a s)
    (hw : Part.sub [.registers, .memory, .sent, .frame, .packets, .scrub, .records] W = true) (c : Nat) (st : Stream) (a8 : Bool)
    (pkt0 n i : Nat) (v : List Num) : Touch W a (State.encLanes s c st a8 pkt0 n i v).1 := by
  induction n generalizing s i v with
  | zero => exact h
  | succ n ih =>
    refine ih ?_ _ _
    refine State.when_touch (State.tallyBlk_touch h (Part.sub_trans (by decide) hw) ..) _ _ (fun u hu => ?_)
    exact State.inc_touch (State.raise_touch hu (Part.sub_trans (by decide) hw) ..) (Part.sub_trans (by decide) hw) ..

theorem State.putPkts_touch (h : Touch W a s) (hw : Part.sub [.registers, .memory, .sent, .frame, .packets, .scrub, .records] W =
    true) (c sel off id : Nat) (a8 : Bool) (v : List Num) :
    Touch W a (State.putPkts s c sel off id a8 v) := by
  refine h.step hw ?_
  unfold State.putPkts
  exact State.writeSpd_touch (touch_pktCount (State.encLanes_touch .refl (by decide) _ _ _ _ _ _ _) (by decide) _) (by decide) _ _ _
    _

end Sys2Proof.Machine
end

