-- ==== Sys2Proof/Laws/FrameAcc.lean ====
section
/-! SUPPORT. What each operation and each meaning of Machine/Acc.lean may change. -/

namespace Sys2Proof.Machine

variable {W : List Part} {a s : State}

/-- Storing lanes keeps the canonical form. -/
theorem scanon_putLanes {m : List (Nat × Int)} {k : Nat} (v : List Int) (h : scanon (fun _ => 0) m = true) :
    scanon (fun _ => 0) (putLanes m k v) = true := by
  induction v generalizing m k with
  | nil => exact h
  | cons b bs ih => exact ih (scanon_sset k _ h)

theorem State.setLanes_touch (h : Touch W a s) (hw : Part.sub [.lanes] W = true) (T g : Nat) (v : List Int) :
    Touch W a (State.setLanes s T g v) := touch_acc h hw _ (scanon_putLanes v)

theorem State.accOvf_touch (h : Touch W a s) (hw : Part.sub [.registers, .sent, .frame, .records] W = true) (T g : Nat) :
    Touch W a (State.accOvf s T g) := by
  refine h.step hw ?_
  unfold State.accOvf
  exact State.raise_touch (State.inc_touch (State.evt_touch (State.setf_touch (State.setf_touch .refl (by decide) _ _) (by decide) _
    _) (by decide) _) (by decide) _) (by decide) _ _ _ _ _

theorem State.merge_touch (h : Touch W a s) (hw : Part.sub [.registers, .sent, .frame, .lanes, .records] W = true) (T g : Nat) (y :
    List Int) (e : Int) :
    Touch W a (State.merge s T g y e) := by
  refine h.step hw ?_
  unfold State.merge
  exact touch_ite (State.when_touch (State.setfi_touch (State.setLanes_touch .refl (by decide) _ _ _) (by decide) _ _) _ _ (fun u hu
    => (State.accOvf_touch hu (by decide) _ _))) (State.when_touch (State.setf_touch (State.setfi_touch (State.setLanes_touch .refl
    (by decide) _ _ _) (by decide) _ _) (by decide) _ _) _ _ (fun u1 hu1 => (State.accOvf_touch hu1 (by decide) _ _)))

theorem State.clearGroup_touch (h : Touch W a s) (hw : Part.sub [.registers, .lanes] W = true) (T g : Nat) :
    Touch W a (State.clearGroup s T g) := by
  refine h.step hw ?_
  unfold State.clearGroup
  exact State.setf_touch (State.setf_touch (State.setLanes_touch .refl (by decide) _ _ _) (by decide) _ _) (by decide) _ _

theorem State.clearGroups_touch (h : Touch W a s) (hw : Part.sub [.registers, .lanes] W = true) (T mask : Nat) :
    Touch W a (State.clearGroups s T mask) := by
  refine h.step hw ?_
  unfold State.clearGroups
  exact touch_foldl _ .refl (fun u _ hu => (State.when_touch hu _ _ (fun u1 hu1 => (State.clearGroup_touch hu1 (by decide) _ _))))

theorem State.fillGroup_touch (h : Touch W a s) (hw : Part.sub [.registers, .frame, .lanes, .records] W = true) (T g : Nat) (bs :
    List Nat) (ga : Nat) :
    Touch W a (State.fillGroup s T g bs ga) := by
  refine h.step hw ?_
  unfold State.fillGroup
  exact touch_ite (State.inc_touch (State.raise_touch (State.setf_touch .refl (by decide) _ _) (by decide) _ _ _ _ _) (by decide) _)
    (State.setf_touch (State.setf_touch (State.setfi_touch (State.setLanes_touch .refl (by decide) _ _ _) (by decide) _ _)
    (by decide) _ _) (by decide) _ _)

end Sys2Proof.Machine
end

