-- ==== Sys2Proof/Laws/FrameArrays.lean ====
section
/-! SUPPORT. What each operation and each meaning of Machine/Arrays.lean may change. -/

namespace Sys2Proof.Machine

variable {W : List Part} {a s : State}

theorem State.degradeMark_touch (h : Touch W a s) (hw : Part.sub [.registers, .sent, .degraded] W = true) (c cause : Nat) (batch :
    List Nat) :
    Touch W a (State.degradeMark s c cause batch) := by
  refine h.step hw ?_
  unfold State.degradeMark
  exact State.when_touch (touch_degrade .refl (by decide) _) _ _ (fun u hu => (State.evt_touch (State.setf_touch (State.inc_touch hu
    (by decide) _) (by decide) _ _) (by decide) _))

theorem State.setTrk_touch (h : Touch W a s) (hw : Part.sub [.tracking] W = true) (A : Nat) (w : TrkWin) :
    Touch W a (State.setTrk s A w) := by
  refine h.step hw ?_
  unfold State.setTrk
  exact touch_trkWin .refl (by decide) _

theorem State.chkGroup_touch (h : Touch W a s) (hw : Part.sub [.registers, .sent, .frame, .tracking, .records, .suspects] W = true)
    (A : Nat) (o : PassOut) (g : Nat) :
    Touch W a (State.chkGroup s A o g) := by
  refine h.step hw ?_
  unfold State.chkGroup
  exact touch_ite .refl (touch_ite (State.when_touch (State.when_touch (State.inc_touch (State.inc_touch (State.setTrk_touch
    (State.setTrk_touch .refl (by decide) _ _) (by decide) _ _) (by decide) _) (by decide) _) _ _ (fun u hu => (State.suspect_touch
    (State.raiseFrom_touch (State.flag_touch hu (by decide) _ _ _ _) (by decide) _ _ _ _ _ _ _) (by decide) _ _))) _ _ (fun u1 hu1
    => (State.suspect_touch (State.raiseFrom_touch hu1 (by decide) _ _ _ _ _ _ _) (by decide) _ _))) (State.setTrk_touch .refl
    (by decide) _ _))

theorem State.calSample_touch (h : Touch W a s) (hw : Part.sub [.calibration] W = true) (T A : Nat) (drive dev : List (Nat × Int)) :
    Touch W a (State.calSample s T A drive dev) := by
  refine h.step hw ?_
  unfold State.calSample
  exact touch_foldl _ .refl (fun u _ hu => (touch_ite (touch_calSum hu (by decide) _) hu))

theorem State.passMarks_touch (h : Touch W a s) (hw : Part.sub [.registers, .sent, .degraded] W = true) (c A : Nat) (batch : List
    Nat) :
    Touch W a (State.passMarks s c A batch) := by
  refine h.step hw ?_
  unfold State.passMarks
  exact State.when_touch (State.when_touch .refl _ _ (fun u hu => (State.evt_touch (State.setf_touch (State.degradeMark_touch hu
    (by decide) _ _ _) (by decide) _ _) (by decide) _))) _ _ (fun u1 hu1 => (State.evt_touch (State.setf_touch
    (State.degradeMark_touch hu1 (by decide) _ _ _) (by decide) _ _) (by decide) _))

theorem State.passBody_touch (h : Touch W a s) (hw : Part.sub [.registers, .sent, .frame, .lanes, .results, .calibration,
    .tracking, .degraded, .records, .suspects] W = true) (p : PassIn) :
    Touch W a (State.passBody s p) := by
  refine h.step hw ?_
  unfold State.passBody
  exact touch_ite (State.when_touch .refl _ _ (fun u hu => (State.setf_touch hu (by decide) _ _))) (touch_ite (touch_held
    (State.inc_touch (State.when_touch (State.when_touch (State.when_touch .refl _ _ (fun u hu => (State.setf_touch hu (by decide) _
    _))) _ _ (fun u1 hu1 => (touch_capture hu1 (by decide) _))) _ _ (fun u2 hu2 => (State.evt_touch hu2 (by decide) _))) (by decide)
    _) (by decide) _) (State.passMarks_touch (State.merge_touch (State.when_touch (State.when_touch (State.when_touch
    (State.when_touch (State.when_touch .refl _ _ (fun u hu => (State.setf_touch hu (by decide) _ _))) _ _ (fun u1 hu1 =>
    (touch_capture hu1 (by decide) _))) _ _ (fun u3 hu3 => (touch_foldl _ hu3 (fun u4 _ hu4 => (State.chkGroup_touch hu4 (by decide)
    _ _ _))))) _ _ (fun u5 hu5 => (State.calSample_touch hu5 (by decide) _ _ _ _))) _ _ (fun u6 hu6 => (touch_satRec hu6 (by decide)
    _))) (by decide) _ _ _ _) (by decide) _ _ _))

theorem State.bankAfter_touch (h : Touch W a s) (hw : Part.sub [.registers] W = true) (core tile last : Nat) :
    Touch W a (State.bankAfter s core tile last) := by
  refine h.step hw ?_
  unfold State.bankAfter
  exact State.setf_touch .refl (by decide) _ _

theorem State.passHead_touch (h : Touch W a s) (hw : Part.sub [.registers, .slots] W = true) (core slot : Nat) :
    Touch W a (State.passHead s core slot) := by
  refine h.step hw ?_
  unfold State.passHead
  exact State.bankAfter_touch (touch_lastPass (State.mark_touch .refl (by decide) _ _) (by decide) _) (by decide) _ _ _

theorem State.passPkts_touch (h : Touch W a s) (hw : Part.sub [.registers, .sent, .frame, .scrub, .records, .suspects, .free] W =
    true) (core A desc : Nat) (errs : List WordErr) :
    Touch W a (State.passPkts s core A desc errs).1 := by
  refine h.step hw ?_
  unfold State.passPkts
  try dsimp only
  exact State.takePkts_touch .refl (by decide) _ _ _ _ _ _

theorem State.passPkts_pair (h : Touch W a s) (hw : Part.sub [.registers, .sent, .frame, .scrub, .records, .suspects, .free] W =
    true) (core A desc : Nat) (errs : List WordErr) {u y} (e : State.passPkts s core A desc errs = (u, y)) :
    Touch W a u := by
  have := State.passPkts_touch h hw core A desc errs
  rwa [e] at this

theorem execTilePass_touch (h : Touch W a s) (hw : Part.sub [.clock, .registers, .sent, .frame, .slots, .lanes, .results,
    .calibration, .scrub, .tracking, .degraded, .records, .suspects, .free] W = true) (t core slot : Nat) (dev : List (Nat × Int))
      (errs : List WordErr) :
    ∀ u, execTilePass t core slot dev errs s = .next u → Touch W a u := by
  refine outTouch_step h hw ?_
  unfold execTilePass
  exact outTouch_ite (outTouch_ite (outTouch_next (State.raise_touch (State.evt_touch (State.when_touch (State.passHead_touch
    (State.at_touch .refl (by decide) _) (by decide) _ _) _ _ (fun u hu => (State.setf_touch hu (by decide) _ _))) (by decide) _)
    (by decide) _ _ _ _ _)) (outTouch_next (State.passBody_touch (State.passPkts_touch (State.passHead_touch (State.at_touch .refl
    (by decide) _) (by decide) _ _) (by decide) _ _ _ _) (by decide) _))) (outTouch_next (State.at_touch .refl (by decide) _))

end Sys2Proof.Machine
end

