-- ==== Sys2Proof/Laws/FrameLink.lean ====
section
/-! SUPPORT. What each operation and each meaning of Machine/Link.lean may change. -/

namespace Sys2Proof.Machine

variable {W : List Part} {a s : State}

theorem State.setPrt_touch (h : Touch W a s) (hw : Part.sub [.links] W = true) (p : Nat) (x : PortSt) :
    Touch W a (State.setPrt s p x) := by
  refine h.step hw ?_
  unfold State.setPrt
  exact touch_ports .refl (by decide) _

theorem State.fabEvt_touch (h : Touch W a s) (hw : Part.sub [.registers, .sent] W = true) (F : Fld) (p : Nat) :
    Touch W a (State.fabEvt s F p) := by
  refine h.step hw ?_
  unfold State.fabEvt
  exact State.evt_touch (State.setf_touch (State.setf_touch .refl (by decide) _ _) (by decide) _ _) (by decide) _

theorem State.refreshUse_touch (h : Touch W a s) (hw : Part.sub [.registers] W = true) :
    Touch W a (State.refreshUse s) := by
  refine h.step hw ?_
  unfold State.refreshUse
  exact touch_foldl _ .refl (fun u _ hu => (State.setf_touch hu (by decide) _ _))

theorem State.rejudge_touch (h : Touch W a s) (hw : Part.sub [.registers, .sent] W = true) :
    Touch W a (State.rejudge s) := by
  refine h.step hw ?_
  unfold State.rejudge
  exact touch_ite .refl (touch_foldl _ .refl (fun u _ hu => (touch_ite hu (State.fabEvt_touch (State.setf_touch (State.setf_touch hu
    (by decide) _ _) (by decide) _ _) (by decide) _ _))))

theorem State.linkFail_touch (h : Touch W a s) (hw : Part.sub [.registers, .sent, .frame, .records] W = true) (p : Nat) :
    Touch W a (State.linkFail s p) := by
  refine h.step hw ?_
  unfold State.linkFail
  exact State.rejudge_touch (State.raise_touch (State.fabEvt_touch (State.inc_touch (State.setf_touch .refl (by decide) _ _)
    (by decide) _) (by decide) _ _) (by decide) _ _ _ _ _) (by decide)

theorem State.sendSeq_touch (h : Touch W a s) (hw : Part.sub [.registers, .sent, .frame, .records, .links] W = true) (port : Nat)
    (f : Flit) (c : Option CtrlMsg) :
    Touch W a (State.sendSeq s port f c) := by
  refine h.step hw ?_
  unfold State.sendSeq
  exact touch_ite (touch_ite (State.linkFail_touch .refl (by decide) _) (touch_out_tx (State.setPrt_touch .refl (by decide) _ _)
    (by decide) _ _)) .refl

theorem State.sendQdr_touch (h : Touch W a s) (hw : Part.sub [.registers, .sent, .frame, .records, .links] W = true) (port : Nat)
    (m : Qmsg) :
    Touch W a (State.sendQdr s port m) := by
  refine h.step hw ?_
  unfold State.sendQdr
  exact touch_ite (State.sendSeq_touch .refl (by decide) _ _ _) .refl

theorem State.again_touch (h : Touch W a s) (hw : Part.sub [.registers, .sent, .frame, .records, .links] W = true) (x : TxFlit) :
    Touch W a (State.again s x) := by
  refine h.step hw ?_
  unfold State.again
  exact touch_ite (State.linkFail_touch .refl (by decide) _) (touch_out_tx (State.inc_touch .refl (by decide) _) (by decide) _ _)

theorem State.takeAck_touch (h : Touch W a s) (hw : Part.sub [.registers, .sent, .frame, .records, .links] W = true) (p ack nak :
    Nat) :
    Touch W a (State.takeAck s p ack nak) := by
  refine h.step hw ?_
  unfold State.takeAck
  exact (by
      try dsimp -proj only
      split
      · exact State.again_touch (touch_tx .refl (by decide) _) (by decide) _
      · exact touch_tx .refl (by decide) _)

theorem State.stale_touch (h : Touch W a s) (hw : Part.sub [.registers, .sent] W = true) (p : Nat) :
    Touch W a (State.stale s p) := by
  refine h.step hw ?_
  unfold State.stale
  exact State.fabEvt_touch (State.inc_touch .refl (by decide) _) (by decide) _ _

theorem State.rx_touch (h : Touch W a s) (hw : Part.sub [.registers, .sent, .frame, .records, .links] W = true) (p : Nat) (f :
    Flit) (seqd full : Bool) :
    Touch W a (State.rx s p f seqd full).1 := by
  refine h.step hw ?_
  unfold State.rx
  try dsimp only
  exact touch_ite_by Prod.fst .refl (touch_ite_by Prod.fst (State.setPrt_touch .refl (by decide) _ _) (touch_ite_by Prod.fst
    (State.stale_touch .refl (by decide) _) (touch_ite_by Prod.fst (State.takeAck_touch .refl (by decide) _ _ _) (touch_ite_by
    Prod.fst (touch_ite_by Prod.fst (State.setPrt_touch (State.takeAck_touch .refl (by decide) _ _ _) (by decide) _ _)
    (State.setPrt_touch (State.takeAck_touch .refl (by decide) _ _ _) (by decide) _ _)) (touch_ite_by Prod.fst (State.takeAck_touch
    .refl (by decide) _ _ _) (State.setPrt_touch (State.takeAck_touch .refl (by decide) _ _ _) (by decide) _ _))))))

theorem State.rx_pair (h : Touch W a s) (hw : Part.sub [.registers, .sent, .frame, .records, .links] W = true) (p : Nat) (f : Flit)
    (seqd full : Bool) {u y} (e : State.rx s p f seqd full = (u, y)) :
    Touch W a u := by
  have := State.rx_touch h hw p f seqd full
  rwa [e] at this

theorem State.fec_touch (h : Touch W a s) (hw : Part.sub [.registers, .sent, .links] W = true) (p : Nat) (c : Option Nat) :
    Touch W a (State.fec s p c) := by
  refine h.step hw ?_
  unfold State.fec
  exact (by
      try dsimp -proj only
      split
      · exact State.setPrt_touch (State.inc_touch .refl (by decide) _) (by decide) _ _
      · exact State.when_touch (State.setPrt_touch (State.add_touch .refl (by decide) _ _) (by decide) _ _) _ _ (fun u hu =>
          (State.fabEvt_touch hu (by decide) _ _)))

theorem State.rxMsg_touch (h : Touch W a s) (hw : Part.sub [.registers, .sent, .frame, .records, .links] W = true) (p : Nat) (f :
    Flit) (typ : Nat) (k : State → State) (hf : ∀ u, Touch W a u → Touch W a (k u)) :
    Touch W a (State.rxMsg s p f typ k) := by
  unfold State.rxMsg
  exact touch_ite (touch_ite (hf _ (State.rx_touch h (Part.sub_trans (by decide) hw) _ _ _ _)) (State.rx_touch h (Part.sub_trans
    (by decide) hw) _ _ _ _)) h

theorem State.relay_touch (h : Touch W a s) (hw : Part.sub [.registers, .sent, .frame, .records, .links] W = true) (f : Flit) (c :
    Option CtrlMsg) :
    Touch W a (State.relay s f c) := by
  refine h.step hw ?_
  unfold State.relay
  exact State.sendSeq_touch .refl (by decide) _ _ _

theorem State.moveFlit_touch (h : Touch W a s) (hw : Part.sub [.registers, .memory, .sent, .scrub, .staged] W = true) (x : Nat ×
    Flit) :
    Touch W a (State.moveFlit s x) := by
  refine h.step hw ?_
  unfold State.moveFlit
  exact (by
      try dsimp -proj only
      split
      · exact touch_staged .refl (by decide) _
      · exact touch_ite (touch_fill (State.writeSpd_touch (touch_staged .refl (by decide) _) (by decide) _ _ _ _) (by decide) _)
          (touch_fillNext (State.writeSpd_touch (touch_staged .refl (by decide) _) (by decide) _ _ _ _) (by decide) _))

theorem State.moveStaged_touch (h : Touch W a s) (hw : Part.sub [.registers, .memory, .sent, .scrub, .staged] W = true) (b0 : Nat) :
    Touch W a (State.moveStaged s b0) := by
  refine h.step hw ?_
  unfold State.moveStaged
  exact touch_foldl _ .refl (fun u _ hu => (State.moveFlit_touch hu (by decide) _))

theorem execFabRecv_touch (h : Touch W a s) (hw : Part.sub [.clock, .registers, .memory, .sent, .slots, .scrub, .staged] W = true)
    (t core slot : Nat) :
    ∀ u, execFabRecv t core slot s = .next u → Touch W a u := by
  refine outTouch_step h hw ?_
  unfold execFabRecv
  exact outTouch_ite (outTouch_next (touch_ite (State.mark_touch (State.moveStaged_touch (State.at_touch .refl (by decide) _)
    (by decide) _) (by decide) _ _) (State.moveStaged_touch (State.at_touch .refl (by decide) _) (by decide) _))) (outTouch_next
    (State.at_touch .refl (by decide) _))

theorem State.sendData_touch (h : Touch W a s) (hw : Part.sub [.registers, .sent, .frame, .records, .links] W = true) (p buf dst n
    w : Nat) (bs : List Nat) :
    Touch W a (State.sendData s p buf dst n w bs) := by
  induction n generalizing s w bs with
  | zero => exact h
  | succ n ih =>
    unfold State.sendData
    split
    · exact h
    · exact ih (State.sendSeq_touch h (Part.sub_trans (by decide) hw) ..) _ _

theorem State.sendCtrl_touch (h : Touch W a s) (hw : Part.sub [.registers, .sent, .frame, .records, .links] W = true) (p dst : Nat)
    (m : CtrlMsg) :
    Touch W a (State.sendCtrl s p dst m) := by
  refine h.step hw ?_
  unfold State.sendCtrl
  exact State.sendSeq_touch .refl (by decide) _ _ _

theorem State.flush_touch (h : Touch W a s) (hw : Part.sub [.registers, .sent, .frame, .records, .links] W = true) (p : Nat) (sel :
    Nat × CtrlMsg → Bool) :
    Touch W a (State.flush s p sel) := by
  refine h.step hw ?_
  unfold State.flush
  exact touch_foldl _ (touch_ctrlQ .refl (by decide) _) (fun u _ hu => (State.sendCtrl_touch hu (by decide) _ _ _))

theorem State.toAll_touch (h : Touch W a s) (hw : Part.sub [.links] W = true) (m : CtrlMsg) :
    Touch W a (State.toAll s m) := by
  refine h.step hw ?_
  unfold State.toAll
  exact (by
      try dsimp -proj only
      split
      · exact .refl
      · exact touch_ctrlQ .refl (by decide) _)

theorem execFabSend_touch (h : Touch W a s) (hw : Part.sub [.clock, .registers, .sent, .frame, .slots, .scrub, .records, .suspects,
    .links, .free] W = true) (t core slot : Nat) (errs : List WordErr) :
    ∀ u, execFabSend t core slot errs s = .next u → Touch W a u := by
  refine outTouch_step h hw ?_
  unfold execFabSend
  exact outTouch_ite (by
      try dsimp -proj only
      split
      · exact outTouch_next (State.mark_touch (State.at_touch .refl (by decide) _) (by decide) _ _)
      · exact outTouch_next (State.flush_touch (State.sendData_touch (State.readSpd_touch (State.mark_touch (State.at_touch .refl
          (by decide) _) (by decide) _ _) (by decide) _ _ _ _ _) (by decide) _ _ _ _ _ _) (by decide) _ _))
    (outTouch_next (State.at_touch .refl (by decide) _))

theorem execDataFlit_touch (h : Touch W a s) (hw : Part.sub [.clock, .registers, .sent, .frame, .records, .staged, .links] W =
    true) (t port : Nat) (f : Flit) (fec : Option Nat) :
    ∀ u, execDataFlit t port f fec s = .next u → Touch W a u := by
  refine outTouch_step h hw ?_
  unfold execDataFlit
  exact outTouch_ite (outTouch_next (State.fec_touch (State.at_touch .refl (by decide) _) (by decide) _ _)) (outTouch_ite
    (outTouch_ite (outTouch_next (State.fabEvt_touch (State.inc_touch (State.rx_touch (State.fec_touch (State.at_touch .refl
    (by decide) _) (by decide) _ _) (by decide) _ _ _ _) (by decide) _) (by decide) _ _)) (outTouch_ite (outTouch_ite (outTouch_next
    (State.stale_touch (State.rx_touch (State.fec_touch (State.at_touch .refl (by decide) _) (by decide) _ _) (by decide) _ _ _ _)
    (by decide) _)) (outTouch_ite (outTouch_next (State.raise_touch (State.fabEvt_touch (State.rx_touch (State.fec_touch
    (State.at_touch .refl (by decide) _) (by decide) _ _) (by decide) _ _ _ _) (by decide) _ _) (by decide) _ _ _ _ _))
    (outTouch_ite (outTouch_next (State.raise_touch (State.fabEvt_touch (State.rx_touch (State.fec_touch (State.at_touch .refl
    (by decide) _) (by decide) _ _) (by decide) _ _ _ _) (by decide) _ _) (by decide) _ _ _ _ _)) (outTouch_next (touch_staged
    (State.rx_touch (State.fec_touch (State.at_touch .refl (by decide) _) (by decide) _ _) (by decide) _ _ _ _) (by decide) _)))))
    (outTouch_next (State.rx_touch (State.fec_touch (State.at_touch .refl (by decide) _) (by decide) _ _) (by decide) _ _ _ _))))
    (outTouch_ite (outTouch_next (State.rx_touch (State.fec_touch (State.at_touch .refl (by decide) _) (by decide) _ _) (by decide)
    _ _ _ _)) (outTouch_next (State.fec_touch (State.at_touch .refl (by decide) _) (by decide) _ _))))

theorem execAckFlit_touch (h : Touch W a s) (hw : Part.sub [.clock, .registers, .sent, .frame, .records, .links] W = true) (t port
    : Nat) (f : Flit) (fec : Option Nat) :
    ∀ u, execAckFlit t port f fec s = .next u → Touch W a u := by
  refine outTouch_step h hw ?_
  unfold execAckFlit
  exact outTouch_ite (outTouch_next (State.fec_touch (State.at_touch .refl (by decide) _) (by decide) _ _)) (outTouch_ite
    (outTouch_next (State.rx_touch (State.fec_touch (State.at_touch .refl (by decide) _) (by decide) _ _) (by decide) _ _ _ _))
    (outTouch_next (State.fec_touch (State.at_touch .refl (by decide) _) (by decide) _ _)))

theorem execLinkTimerExpire_touch (h : Touch W a s) (hw : Part.sub [.clock, .registers, .sent, .frame, .records, .links] W = true)
    (t port : Nat) :
    ∀ u, execLinkTimerExpire t port s = .next u → Touch W a u := by
  refine outTouch_step h hw ?_
  unfold execLinkTimerExpire
  exact outTouch_ite (by
      try dsimp -proj only
      split
      · exact outTouch_next (State.again_touch (State.at_touch .refl (by decide) _) (by decide) _)
      · exact outTouch_next (State.at_touch .refl (by decide) _)) (outTouch_next (State.at_touch .refl (by decide) _))

end Sys2Proof.Machine
end

