-- ==== Sys2Proof/Laws/FrameDoors.lean ====
section
/-! SUPPORT. What each operation and each meaning of Machine/Doors.lean may change. -/

namespace Sys2Proof.Machine

variable {W : List Part} {a s : State}

theorem State.takeBell_touch (h : Touch W a s) (hw : Part.sub [.doors] W = true) (d : Nat) :
    Touch W a (State.takeBell s d) := by
  refine h.step hw ?_
  unfold State.takeBell
  exact touch_bells .refl (by decide) _

theorem State.reply_touch (h : Touch W a s) (hw : Part.sub [.registers, .doors] W = true) (d st : Nat) (ws : List Nat) :
    Touch W a (State.reply s d st ws) := by
  refine h.step hw ?_
  unfold State.reply
  exact touch_bells (touch_foldl _ .refl (fun u _ hu => (State.setf_touch hu (by decide) _ _))) (by decide) _

theorem State.secDoor_touch (h : Touch W a s) (hw : Part.sub [.registers, .doors] W = true) (d cmd : Nat) (doors : List Nat) (f :
    State → State) (hf : ∀ u, Touch W a u → Touch W a (f u)) :
    Touch W a (State.secDoor s d cmd doors f) := by
  unfold State.secDoor
  exact touch_ite (touch_ite (State.reply_touch (State.takeBell_touch h (Part.sub_trans (by decide) hw) _) (Part.sub_trans
    (by decide) hw) _ _ _) (hf _ (State.takeBell_touch h (Part.sub_trans (by decide) hw) _))) h

theorem State.mgtDoor_touch (h : Touch W a s) (hw : Part.sub [.registers, .doors] W = true) (cmd : Nat) (f : State → State) (hf : ∀
    u, Touch W a u → Touch W a (f u)) :
    Touch W a (State.mgtDoor s cmd f) := by
  unfold State.mgtDoor
  exact touch_ite (touch_ite (State.reply_touch (State.takeBell_touch h (Part.sub_trans (by decide) hw) _) (Part.sub_trans
    (by decide) hw) _ _ _) (touch_ite (State.reply_touch (State.takeBell_touch h (Part.sub_trans (by decide) hw) _) (Part.sub_trans
    (by decide) hw) _ _ _) (hf _ (State.takeBell_touch h (Part.sub_trans (by decide) hw) _)))) h

theorem State.ring_touch (h : Touch W a s) (hw : Part.sub [.registers, .doors] W = true) (d : Nat) :
    Touch W a (State.ring s d) := by
  refine h.step hw ?_
  unfold State.ring
  exact touch_ite (State.setf_touch .refl (by decide) _ _) (touch_bells (State.setf_touch (State.setf_touch (State.setf_touch .refl
    (by decide) _ _) (by decide) _ _) (by decide) _ _) (by decide) _)

theorem State.bellDone_touch (h : Touch W a s) (hw : Part.sub [.registers, .sent, .doors] W = true) (d : Nat) :
    Touch W a (State.bellDone s d) := by
  refine h.step hw ?_
  unfold State.bellDone
  exact State.when_touch (touch_bells (State.inc_touch (State.setf_touch (State.setf_touch .refl (by decide) _ _) (by decide) _ _)
    (by decide) _) (by decide) _) _ _ (fun u hu => (State.msix_touch hu (by decide) _))

theorem State.extend_touch (h : Touch W a s) (hw : Part.sub [.registers, .yarrow] W = true) (i : Nat) (d : List Nat) :
    Touch W a (State.extend s i d) := by
  refine h.step hw ?_
  unfold State.extend
  exact touch_ite (touch_yar (touch_foldl _ .refl (fun u _ hu => (State.setf_touch hu (by decide) _ _))) (by decide) _)
    (State.inc_touch (touch_yar (touch_foldl _ .refl (fun u _ hu => (State.setf_touch hu (by decide) _ _))) (by decide) _)
    (by decide) _)

end Sys2Proof.Machine
end

