-- ==== Sys2Proof/Laws/FrameTxn.lean ====
section
/-! SUPPORT. What each operation and each meaning of Machine/Txn.lean may change. -/

namespace Sys2Proof.Machine

variable {W : List Part} {a s : State}

theorem State.setOpen_touch (h : Touch W a s) (hw : Part.sub [.registers, .transactions] W = true) (q : Requester) (x : Option
    TxnOpen) :
    Touch W a (State.setOpen s q x) := by
  refine h.step hw ?_
  unfold State.setOpen
  exact (by
      try dsimp -proj only
      split
      all_goals exact State.setf_touch (State.setf_touch (touch_txnOpen .refl (by decide) _) (by decide) _ _) (by decide) _ _)

theorem State.reject_touch (h : Touch W a s) (hw : Part.sub [.registers, .sent] W = true) (q : Requester) (a0 code : Nat) :
    Touch W a (State.reject s q a0 code) := by
  refine h.step hw ?_
  unfold State.reject
  exact State.when_touch (State.setf_touch .refl (by decide) _ _) _ _ (fun u hu => (State.evt_touch (State.setf_touch
    (State.setf_touch (State.inc_touch hu (by decide) _) (by decide) _ _) (by decide) _ _) (by decide) _))

theorem State.gate_some (h : Touch W a s) (hw : Part.sub [.registers, .sent] W = true) (q : Requester) (k : Nat) {u : State}
    (e : s.gate q k = some u) : Touch W a u := by
  unfold State.gate at e
  split at e
  · cases e; exact h
  split at e
  · cases e; exact State.hostErr_touch h hw _
  split at e
  · cases e; exact State.when_touch h _ _ (fun u hu => State.hostErr_touch hu hw _)
  · cases e

theorem State.guarded_touch (h : Touch W a s) (hw : Part.sub [.registers, .sent] W = true) (q : Requester) (a0 : Nat) (rwt ok :
    Bool) (f : State → State) (hf : ∀ u, Touch W a u → Touch W a (f u)) :
    Touch W a (State.guarded s q a0 rwt ok f) := by
  unfold State.guarded
  exact (by
      try dsimp -proj only
      split
      · exact State.gate_some h (Part.sub_trans (by decide) hw) _ _ (by assumption)
      · exact (by
            try dsimp -proj only
            split
            · exact State.reject_touch h (Part.sub_trans (by decide) hw) _ _ _
            · exact hf _ h))

theorem State.shadow_touch (h : Touch W a s) (hw : Part.sub [.registers, .sent, .transactions] W = true) (q : Requester) (a0 key
    mask v : Nat) :
    Touch W a (State.shadow s q a0 key mask v) := by
  refine h.step hw ?_
  unfold State.shadow
  exact (by
      try dsimp -proj only
      split
      · exact State.reject_touch .refl (by decide) _ _ _
      · exact touch_ite (State.reject_touch .refl (by decide) _ _ _) (State.setOpen_touch .refl (by decide) _ _))

theorem State.answer_touch (h : Touch W a s) (hw : Part.sub [.registers] W = true) (q : Requester) (code : Nat) :
    Touch W a (State.answer s q code) := by
  refine h.step hw ?_
  unfold State.answer
  exact State.setf_touch .refl (by decide) _ _

theorem State.setPend_touch (h : Touch W a s) (hw : Part.sub [.registers, .transactions] W = true) (ps : List TxnPend) :
    Touch W a (State.setPend s ps) := by
  refine h.step hw ?_
  unfold State.setPend
  exact touch_foldl _ (touch_txnPend .refl (by decide) _) (fun u _ hu => (State.setf_touch hu (by decide) _ _))

theorem State.endTxn_touch (h : Touch W a s) (hw : Part.sub [.registers, .sent, .transactions, .doors] W = true) (q : Requester)
    (id code : Nat) :
    Touch W a (State.endTxn s q id code) := by
  refine h.step hw ?_
  unfold State.endTxn
  exact touch_ite (State.reply_touch (touch_mgtTxn (State.when_touch (State.when_touch (State.when_touch (State.when_touch
    (State.when_touch (State.setf_touch (State.setf_touch (State.setf_touch .refl (by decide) _ _) (by decide) _ _) (by decide) _ _)
    _ _ (fun u hu => (State.inc_touch hu (by decide) _))) _ _ (fun u1 hu1 => (State.inc_touch hu1 (by decide) _))) _ _ (fun u2 hu2
    => (State.evt_touch hu2 (by decide) _))) _ _ (fun u3 hu3 => (State.evt_touch hu3 (by decide) _))) _ _ (fun u4 hu4 =>
    (State.evt_touch hu4 (by decide) _))) (by decide) _) (by decide) _ _ _) (State.when_touch (State.when_touch (State.when_touch
    (State.when_touch (State.when_touch (State.setf_touch (State.setf_touch (State.setf_touch .refl (by decide) _ _) (by decide) _
    _) (by decide) _ _) _ _ (fun u hu => (State.inc_touch hu (by decide) _))) _ _ (fun u1 hu1 => (State.inc_touch hu1 (by decide)
    _))) _ _ (fun u2 hu2 => (State.evt_touch hu2 (by decide) _))) _ _ (fun u3 hu3 => (State.evt_touch hu3 (by decide) _))) _ _ (fun
    u4 hu4 => (State.evt_touch hu4 (by decide) _)))

theorem State.begin_touch (h : Touch W a s) (hw : Part.sub [.registers, .transactions] W = true) (q : Requester) (id : Nat) :
    Touch W a (State.begin s q id) := by
  refine h.step hw ?_
  unfold State.begin
  exact touch_ite (State.answer_touch .refl (by decide) _ _) (touch_ite (State.answer_touch .refl (by decide) _ _)
    (State.answer_touch (State.setOpen_touch .refl (by decide) _ _) (by decide) _ _))

theorem State.commit_touch (h : Touch W a s) (hw : Part.sub [.registers, .sent, .transactions, .doors] W = true) (q : Requester)
    (mode : Nat) (job : Bool) :
    Touch W a (State.commit s q mode job) := by
  refine h.step hw ?_
  unfold State.commit
  exact (by
      try dsimp -proj only
      split
      · exact State.answer_touch .refl (by decide) _ _
      · exact touch_ite (State.answer_touch .refl (by decide) _ _) (touch_ite (State.answer_touch .refl (by decide) _ _) (touch_ite
          (State.when_touch (State.answer_touch (State.endTxn_touch (State.setOpen_touch .refl (by decide) _ _) (by decide) _ _ _)
          (by decide) _ _) _ _ (fun u hu => (State.evt_touch hu (by decide) _))) (State.answer_touch (State.setPend_touch
          (State.setOpen_touch .refl (by decide) _ _) (by decide) _) (by decide) _ _))))

theorem State.withdraw_touch (h : Touch W a s) (hw : Part.sub [.registers, .sent, .transactions, .doors] W = true) (q : Requester)
    (p : TxnPend) :
    Touch W a (State.withdraw s q p) := by
  refine h.step hw ?_
  unfold State.withdraw
  exact touch_ite (State.answer_touch .refl (by decide) _ _) (State.answer_touch (State.endTxn_touch (State.setPend_touch .refl
    (by decide) _) (by decide) _ _ _) (by decide) _ _)

theorem State.rollbackTxn_touch (h : Touch W a s) (hw : Part.sub [.registers, .sent, .transactions, .doors] W = true) (q :
    Requester) (id : Nat) :
    Touch W a (State.rollbackTxn s q id) := by
  refine h.step hw ?_
  unfold State.rollbackTxn
  exact (by
      try dsimp -proj only
      split
      · exact State.withdraw_touch .refl (by decide) _ _
      · exact touch_ite (State.answer_touch (State.setOpen_touch .refl (by decide) _ _) (by decide) _ _) (State.answer_touch .refl
          (by decide) _ _))

theorem State.port_touch (h : Touch W a s) (f : State → State) (hf : ∀ u, Touch W a u → Touch W a (f u)) :
    Touch W a (State.port s f) := by
  unfold State.port
  exact touch_ite (hf _ h) h

theorem State.wrBegin_touch (h : Touch W a s) (hw : Part.sub [.registers, .transactions] W = true) (q : Requester) (id : Nat) :
    Touch W a (State.wrBegin s q id) := by
  refine h.step hw ?_
  unfold State.wrBegin
  exact State.port_touch .refl _ (fun u hu => (State.begin_touch hu (by decide) _ _))

theorem execTxnBegin_touch (h : Touch W a s) (hw : Part.sub [.clock, .registers, .transactions] W = true) (t : Nat) (q : Requester)
    (id : Nat) :
    ∀ u, execTxnBegin t q id s = .next u → Touch W a u := by
  refine outTouch_step h hw ?_
  unfold execTxnBegin
  exact outTouch_next (State.wrBegin_touch (State.at_touch .refl (by decide) _) (by decide) _ _)

theorem State.wrRollback_touch (h : Touch W a s) (hw : Part.sub [.registers, .sent, .transactions, .doors] W = true) (q :
    Requester) (id : Nat) :
    Touch W a (State.wrRollback s q id) := by
  refine h.step hw ?_
  unfold State.wrRollback
  exact State.port_touch .refl _ (fun u hu => (State.rollbackTxn_touch hu (by decide) _ _))

theorem execTxnRollback_touch (h : Touch W a s) (hw : Part.sub [.clock, .registers, .sent, .transactions, .doors] W = true) (t :
    Nat) (q : Requester) (id : Nat) :
    ∀ u, execTxnRollback t q id s = .next u → Touch W a u := by
  refine outTouch_step h hw ?_
  unfold execTxnRollback
  exact outTouch_next (State.wrRollback_touch (State.at_touch .refl (by decide) _) (by decide) _ _)

end Sys2Proof.Machine
end

