-- ==== Sys2Proof/Laws/FrameTiers.lean ====
section
/-! SUPPORT. What each operation and each meaning of Machine/Tiers.lean may change. -/

namespace Sys2Proof.Machine

variable {W : List Part} {a s : State}

theorem State.tierUncorr_touch (h : Touch W a s) (hw : Part.sub [.registers, .sent, .frame, .records] W = true) (isF : Bool) (a0 :
    Nat) (slot : Bool) :
    Touch W a (State.tierUncorr s isF a0 slot) := by
  refine h.step hw ?_
  unfold State.tierUncorr
  exact State.when_touch (touch_ite (by
      try dsimp -proj only
      split
      · exact State.inc_touch .refl (by decide) _
      · exact .refl) (State.inc_touch .refl (by decide) _)) _ _ (fun u hu => (touch_ite (State.raise_touch (State.evt_touch
    (State.setf_touch (State.setf_touch hu (by decide) _ _) (by decide) _ _) (by decide) _) (by decide) _ _ _ _ _)
    (State.raise_touch (State.evt_touch (State.setf_touch (State.setf_touch hu (by decide) _ _) (by decide) _ _) (by decide) _)
    (by decide) _ _ _ _ _)))

theorem State.readTier_touch (h : Touch W a s) (hw : Part.sub [.registers, .sent, .frame, .records] W = true) (isF : Bool) (a0 n :
    Nat) (lines : List Nat) :
    Touch W a (State.readTier s isF a0 n lines).s := by
  refine h.step hw ?_
  unfold State.readTier
  try dsimp only
  exact (by
      try dsimp only
      split
      · try dsimp only
        exact State.tierUncorr_touch .refl (by decide) _ _ _
      · try dsimp only
        exact .refl)

theorem execHbmLost_touch (h : Touch W a s) (hw : Part.sub [.clock, .registers, .sent, .frame, .records] W = true) (t stack : Nat) :
    ∀ u, execHbmLost t stack s = .next u → Touch W a u := by
  refine outTouch_step h hw ?_
  unfold execHbmLost
  exact outTouch_ite (outTouch_next (State.raise_touch (State.evt_touch (State.setf_touch (State.setf_touch (State.at_touch .refl
    (by decide) _) (by decide) _ _) (by decide) _ _) (by decide) _) (by decide) _ _ _ _ _)) (outTouch_next (State.at_touch .refl
    (by decide) _))

theorem execPatrolScrub_touch (h : Touch W a s) (hw : Part.sub [.clock, .registers, .sent] W = true) (t stack : Nat) (corrected :
    List Nat) :
    ∀ u, execPatrolScrub t stack corrected s = .next u → Touch W a u := by
  refine outTouch_step h hw ?_
  unfold execPatrolScrub
  exact outTouch_ite (outTouch_next (touch_foldl _ (State.when_touch (State.at_touch .refl (by decide) _) _ _ (fun u hu =>
    (State.evt_touch (State.add_touch hu (by decide) _ _) (by decide) _))) (fun u1 _ hu1 => (State.evt_touch (State.inc_touch hu1
    (by decide) _) (by decide) _)))) (outTouch_next (State.at_touch .refl (by decide) _))

theorem State.chanTrain_touch (h : Touch W a s) (hw : Part.sub [.registers] W = true) (c : Nat) :
    Touch W a (State.chanTrain s c) := by
  refine h.step hw ?_
  unfold State.chanTrain
  exact State.setf_touch (State.setf_touch .refl (by decide) _ _) (by decide) _ _

theorem State.wrFchEn_touch (h : Touch W a s) (hw : Part.sub [.registers, .sent] W = true) (q : Requester) (ch : Nat) (en : Bool) :
    Touch W a (State.wrFchEn s q ch en) := by
  refine h.step hw ?_
  unfold State.wrFchEn
  exact State.guarded_touch .refl (by decide) _ _ _ _ _ (fun u hu => (touch_ite (touch_ite (State.setf_touch hu (by decide) _ _)
    (State.when_touch (State.setf_touch hu (by decide) _ _) _ _ (fun u1 hu1 => (State.chanTrain_touch hu1 (by decide) _))))
    (State.when_touch (State.setf_touch (State.setf_touch hu (by decide) _ _) (by decide) _ _) _ _ (fun u2 hu2 => (State.setf_touch
    hu2 (by decide) _ _)))))

theorem execFchEnWrite_touch (h : Touch W a s) (hw : Part.sub [.clock, .registers, .sent] W = true) (t : Nat) (q : Requester) (ch :
    Nat) (en : Bool) :
    ∀ u, execFchEnWrite t q ch en s = .next u → Touch W a u := by
  refine outTouch_step h hw ?_
  unfold execFchEnWrite
  exact outTouch_next (State.wrFchEn_touch (State.at_touch .refl (by decide) _) (by decide) _ _ _)

theorem execChannelDrainDone_touch (h : Touch W a s) (hw : Part.sub [.clock, .registers] W = true) (t ch : Nat) :
    ∀ u, execChannelDrainDone t ch s = .next u → Touch W a u := by
  refine outTouch_step h hw ?_
  unfold execChannelDrainDone
  exact outTouch_ite (outTouch_next (touch_ite (State.chanTrain_touch (State.setf_touch (State.setf_touch (State.setf_touch
    (State.setf_touch (State.at_touch .refl (by decide) _) (by decide) _ _) (by decide) _ _) (by decide) _ _) (by decide) _ _)
    (by decide) _) (State.setf_touch (State.setf_touch (State.at_touch .refl (by decide) _) (by decide) _ _) (by decide) _ _)))
    (outTouch_next (State.at_touch .refl (by decide) _))

theorem State.chanFailed_touch (h : Touch W a s) (hw : Part.sub [.registers, .sent, .frame, .records] W = true) (c : Nat) :
    Touch W a (State.chanFailed s c) := by
  refine h.step hw ?_
  unfold State.chanFailed
  exact State.raise_touch (State.evt_touch (State.setf_touch .refl (by decide) _ _) (by decide) _) (by decide) _ _ _ _ _

theorem execChannelTrainDone_touch (h : Touch W a s) (hw : Part.sub [.clock, .registers, .sent, .frame, .records] W = true) (t ch :
    Nat) (up : Option Nat) :
    ∀ u, execChannelTrainDone t ch up s = .next u → Touch W a u := by
  refine outTouch_step h hw ?_
  unfold execChannelTrainDone
  exact outTouch_ite (by
      try dsimp -proj only
      split
      · exact outTouch_next (State.setf_touch (State.setf_touch (State.at_touch .refl (by decide) _) (by decide) _ _) (by decide) _
          _)
      · exact outTouch_next (State.chanFailed_touch (State.at_touch .refl (by decide) _) (by decide) _)) (outTouch_next
    (State.at_touch .refl (by decide) _))

theorem State.serve_touch (h : Touch W a s) (hw : Part.sub [.registers, .memory, .sent, .frame, .records, .links] W = true) (p :
    Nat) (m : Pool) (lines : List Nat) :
    Touch W a (State.serve s p m lines) := by
  refine h.step hw ?_
  unfold State.serve
  exact State.sendSeq_touch (State.when_touch (State.when_touch (touch_ite (State.inc_touch .refl (by decide) _) (State.evt_touch
    (State.inc_touch .refl (by decide) _) (by decide) _)) _ _ (fun u hu => (State.write_touch hu (by decide) _ _))) _ _ (fun u1 hu1
    => (State.tierUncorr_touch hu1 (by decide) _ _ _))) (by decide) _ _ _

theorem State.poolRx_touch (h : Touch W a s) (hw : Part.sub [.registers, .sent, .frame, .records, .links] W = true) (p : Nat) (f :
    Flit) (op : Nat) (k : Pool → State → State) (hf : ∀ x u, Touch W a u → Touch W a (k x u)) :
    Touch W a (State.poolRx s p f op k) := by
  unfold State.poolRx
  exact State.rxMsg_touch h (Part.sub_trans (by decide) hw) _ _ _ _ (fun u hu => (touch_ite (State.relay_touch hu (Part.sub_trans
    (by decide) hw) _ _) (touch_ite (hf _ _ hu) (touch_ite (State.stale_touch hu (Part.sub_trans (by decide) hw) _) hu))))

theorem execRead_touch (h : Touch W a s) (hw : Part.sub [.clock, .registers, .memory, .sent, .frame, .records, .links] W = true) (t
    port : Nat) (f : Flit) (lines : List Nat) :
    ∀ u, execRead t port f lines s = .next u → Touch W a u := by
  refine outTouch_step h hw ?_
  unfold execRead
  exact outTouch_next (State.poolRx_touch (State.at_touch .refl (by decide) _) (by decide) _ _ _ _ (fun _ u hu => (State.serve_touch
    hu (by decide) _ _ _)))

theorem execWrite_touch (h : Touch W a s) (hw : Part.sub [.clock, .registers, .memory, .sent, .frame, .records, .links] W = true)
    (t port : Nat) (f : Flit) :
    ∀ u, execWrite t port f s = .next u → Touch W a u := by
  refine outTouch_step h hw ?_
  unfold execWrite
  exact outTouch_next (State.poolRx_touch (State.at_touch .refl (by decide) _) (by decide) _ _ _ _ (fun _ u hu => (State.serve_touch
    hu (by decide) _ _ _)))

theorem State.poolEnd_touch (h : Touch W a s) (hw : Part.sub [.registers, .sent, .pool] W = true) (q code : Nat) :
    Touch W a (State.poolEnd s q code) := by
  refine h.step hw ?_
  unfold State.poolEnd
  exact State.evt_touch (touch_pool (State.setf_touch .refl (by decide) _ _) (by decide) _) (by decide) _

theorem State.poolAsk_touch (h : Touch W a s) (hw : Part.sub [.registers, .sent, .frame, .records, .links, .pool] W = true) (q :
    Nat) (r : PoolRun) (port : Nat) :
    Touch W a (State.poolAsk s q r port).1 := by
  refine h.step hw ?_
  unfold State.poolAsk
  try dsimp only
  exact touch_pqTag (State.sendSeq_touch .refl (by decide) _ _ _) (by decide) _

theorem State.poolAsk_pair (h : Touch W a s) (hw : Part.sub [.registers, .sent, .frame, .records, .links, .pool] W = true) (q :
    Nat) (r : PoolRun) (port : Nat) {u y} (e : State.poolAsk s q r port = (u, y)) :
    Touch W a u := by
  have := State.poolAsk_touch h hw q r port
  rwa [e] at this

theorem State.poolPump_touch (h : Touch W a s) (hw : Part.sub [.registers, .sent, .frame, .records, .links, .pool] W = true) (q
    port n : Nat)
    (r : PoolRun) : Touch W a (State.poolPump s q port n r).1 := by
  induction n generalizing s r with
  | zero => exact h
  | succ n ih =>
    unfold State.poolPump
    split
    · exact h
    · exact ih (State.poolAsk_touch h (Part.sub_trans (by decide) hw) ..) _

theorem State.poolGo_touch (h : Touch W a s) (hw : Part.sub [.registers, .sent, .frame, .records, .links, .pool] W = true) (q :
    Nat) (r : PoolRun) :
    Touch W a (State.poolGo s q r) := by
  refine h.step hw ?_
  unfold State.poolGo
  exact touch_ite (State.poolEnd_touch .refl (by decide) _ _) (touch_ite (State.poolEnd_touch (State.poolPump_touch .refl
    (by decide) _ _ _ _) (by decide) _ _) (touch_pool (State.poolPump_touch .refl (by decide) _ _ _ _) (by decide) _))

theorem State.poolStart_touch (h : Touch W a s) (hw : Part.sub [.registers, .sent, .frame, .records, .links, .pool] W = true) (q op
    : Nat) :
    Touch W a (State.poolStart s q op) := by
  refine h.step hw ?_
  unfold State.poolStart
  exact State.poolGo_touch (State.setf_touch (State.setf_touch .refl (by decide) _ _) (by decide) _ _) (by decide) _ _

theorem State.wrPoolRead_touch (h : Touch W a s) (hw : Part.sub [.registers, .sent, .frame, .records, .links, .pool] W = true) (q :
    Requester) (slot : Nat) :
    Touch W a (State.wrPoolRead s q slot) := by
  refine h.step hw ?_
  unfold State.wrPoolRead
  exact State.guarded_touch .refl (by decide) _ _ _ _ _ (fun u hu => (State.poolStart_touch hu (by decide) _ _))

theorem execPoolCmdRead_touch (h : Touch W a s) (hw : Part.sub [.clock, .registers, .sent, .frame, .records, .links, .pool] W =
    true) (t : Nat) (q : Requester) (slot : Nat) :
    ∀ u, execPoolCmdRead t q slot s = .next u → Touch W a u := by
  refine outTouch_step h hw ?_
  unfold execPoolCmdRead
  exact outTouch_next (State.wrPoolRead_touch (State.at_touch .refl (by decide) _) (by decide) _ _)

theorem State.wrPoolWrite_touch (h : Touch W a s) (hw : Part.sub [.registers, .sent, .frame, .records, .links, .pool] W = true) (q
    : Requester) (slot : Nat) :
    Touch W a (State.wrPoolWrite s q slot) := by
  refine h.step hw ?_
  unfold State.wrPoolWrite
  exact State.guarded_touch .refl (by decide) _ _ _ _ _ (fun u hu => (State.poolStart_touch hu (by decide) _ _))

theorem execPoolCmdWrite_touch (h : Touch W a s) (hw : Part.sub [.clock, .registers, .sent, .frame, .records, .links, .pool] W =
    true) (t : Nat) (q : Requester) (slot : Nat) :
    ∀ u, execPoolCmdWrite t q slot s = .next u → Touch W a u := by
  refine outTouch_step h hw ?_
  unfold execPoolCmdWrite
  exact outTouch_next (State.wrPoolWrite_touch (State.at_touch .refl (by decide) _) (by decide) _ _)

theorem State.wrPoolAbort_touch (h : Touch W a s) (hw : Part.sub [.registers, .sent, .pool] W = true) (q : Requester) (slot : Nat) :
    Touch W a (State.wrPoolAbort s q slot) := by
  refine h.step hw ?_
  unfold State.wrPoolAbort
  exact State.guarded_touch .refl (by decide) _ _ _ _ _ (fun u hu => (by
      try dsimp -proj only
      split
      · exact hu
      · exact touch_ite (State.poolEnd_touch hu (by decide) _ _) (touch_pool hu (by decide) _)))

theorem execPoolCmdAbort_touch (h : Touch W a s) (hw : Part.sub [.clock, .registers, .sent, .pool] W = true) (t : Nat) (q :
    Requester) (slot : Nat) :
    ∀ u, execPoolCmdAbort t q slot s = .next u → Touch W a u := by
  refine outTouch_step h hw ?_
  unfold execPoolCmdAbort
  exact outTouch_next (State.wrPoolAbort_touch (State.at_touch .refl (by decide) _) (by decide) _ _)

theorem State.poolTake_touch (h : Touch W a s) (hw : Part.sub [.registers, .memory, .sent, .frame, .records, .links, .pool] W =
    true) (m : Pool) :
    Touch W a (State.poolTake s m) := by
  refine h.step hw ?_
  unfold State.poolTake
  exact (by
      try dsimp -proj only
      split
      · exact .refl
      · exact (by
            try dsimp -proj only
            split
            · exact .refl
            · exact touch_ite (State.poolGo_touch (State.setf_touch (State.when_touch .refl _ _ (fun u hu => (State.write_touch hu
                (by decide) _ _))) (by decide) _ _) (by decide) _ _) (State.poolEnd_touch .refl (by decide) _ _)))

theorem execReadRsp_touch (h : Touch W a s) (hw : Part.sub [.clock, .registers, .memory, .sent, .frame, .records, .links, .pool] W
    = true) (t port : Nat) (f : Flit) :
    ∀ u, execReadRsp t port f s = .next u → Touch W a u := by
  refine outTouch_step h hw ?_
  unfold execReadRsp
  exact outTouch_next (State.poolRx_touch (State.at_touch .refl (by decide) _) (by decide) _ _ _ _ (fun _ u hu =>
    (State.poolTake_touch hu (by decide) _)))

theorem execWriteRsp_touch (h : Touch W a s) (hw : Part.sub [.clock, .registers, .memory, .sent, .frame, .records, .links, .pool] W
    = true) (t port : Nat) (f : Flit) :
    ∀ u, execWriteRsp t port f s = .next u → Touch W a u := by
  refine outTouch_step h hw ?_
  unfold execWriteRsp
  exact outTouch_next (State.poolRx_touch (State.at_touch .refl (by decide) _) (by decide) _ _ _ _ (fun _ u hu =>
    (State.poolTake_touch hu (by decide) _)))

theorem execPoolTimeout_touch (h : Touch W a s) (hw : Part.sub [.clock, .registers, .sent, .pool] W = true) (t slot : Nat) :
    ∀ u, execPoolTimeout t slot s = .next u → Touch W a u := by
  refine outTouch_step h hw ?_
  unfold execPoolTimeout
  exact (by
      try dsimp -proj only
      split
      · exact outTouch_next (State.at_touch .refl (by decide) _)
      · exact outTouch_ite (outTouch_next (State.poolEnd_touch (State.at_touch .refl (by decide) _) (by decide) _ _)) (outTouch_next
          (State.at_touch .refl (by decide) _)))

theorem State.poolEpoch_touch (h : Touch W a s) (hw : Part.sub [.registers, .sent, .pool] W = true) (p : Nat) :
    Touch W a (State.poolEpoch s p) := by
  refine h.step hw ?_
  unfold State.poolEpoch
  exact touch_foldl _ .refl (fun u _ hu => (State.poolEnd_touch hu (by decide) _ _))

theorem execLarkspurTierWrite_touch (h : Touch W a s) (hw : Part.sub [.clock, .registers, .memory] W = true) (t off : Nat) (data :
    List Nat) :
    ∀ u, execLarkspurTierWrite t off data s = .next u → Touch W a u := by
  refine outTouch_step h hw ?_
  unfold execLarkspurTierWrite
  exact outTouch_ite (outTouch_ite (outTouch_next (State.setf_touch (State.inc_touch (State.at_touch .refl (by decide) _)
    (by decide) _) (by decide) _ _)) (outTouch_ite (outTouch_next (State.at_touch .refl (by decide) _)) (outTouch_ite outTouch_fault
    (outTouch_next (State.write_touch (State.at_touch .refl (by decide) _) (by decide) _ _))))) (outTouch_next (State.at_touch .refl
    (by decide) _))

theorem execBar4Read_touch (h : Touch W a s) (hw : Part.sub [.clock, .registers, .sent, .readback, .frame, .records] W = true) (t
    off n : Nat) (lines : List Nat) :
    ∀ u, execBar4Read t off n lines s = .next u → Touch W a u := by
  refine outTouch_step h hw ?_
  unfold execBar4Read
  exact (by
      try dsimp -proj only
      split
      · exact outTouch_next (touch_lastRead (State.gate_some (State.at_touch .refl (by decide) _) (by decide) _ _ (by assumption))
          (by decide) _)
      · exact (by
            try dsimp -proj only
            split
            · exact outTouch_next (touch_lastRead (State.hostErr_touch (State.at_touch .refl (by decide) _) (by decide) _)
                (by decide) _)
            · exact (by
                  try dsimp -proj only
                  split
                  · exact outTouch_next (touch_lastRead (State.tierUncorr_touch (State.at_touch .refl (by decide) _) (by decide) _ _
                      _) (by decide) _)
                  · exact outTouch_next (touch_lastRead (State.at_touch .refl (by decide) _) (by decide) _))))

theorem execBar4Write_touch (h : Touch W a s) (hw : Part.sub [.clock, .registers, .memory, .sent] W = true) (t off : Nat) (data :
    List Nat) :
    ∀ u, execBar4Write t off data s = .next u → Touch W a u := by
  refine outTouch_step h hw ?_
  unfold execBar4Write
  exact (by
      try dsimp -proj only
      split
      · exact outTouch_next (State.gate_some (State.at_touch .refl (by decide) _) (by decide) _ _ (by assumption))
      · exact (by
            try dsimp -proj only
            split
            · exact outTouch_next (State.hostErr_touch (State.at_touch .refl (by decide) _) (by decide) _)
            · exact outTouch_ite (outTouch_next (State.hostErr_touch (State.at_touch .refl (by decide) _) (by decide) _))
                (outTouch_next (State.write_touch (State.at_touch .refl (by decide) _) (by decide) _ _))))

end Sys2Proof.Machine
end

