-- ==== Sys2Proof/Laws/FramePages.lean ====
section
/-! SUPPORT. What each operation and each meaning of Machine/Pages.lean may change. -/

namespace Sys2Proof.Machine

variable {W : List Part} {a s : State}

theorem State.putPage_touch (h : Touch W a s) (hw : Part.sub [.memory] W = true) (p st refs freed : Nat) :
    Touch W a (State.putPage s p st refs freed) := by
  refine h.step hw ?_
  unfold State.putPage
  exact State.writeNum_touch (State.writeNum_touch .refl (by decide) _ _ _) (by decide) _ _ _

theorem State.countPage_touch (h : Touch W a s) (hw : Part.sub [.registers] W = true) (p old new : Nat) :
    Touch W a (State.countPage s p old new) := by
  refine h.step hw ?_
  unfold State.countPage
  exact (fun _ _ u hu => (State.setf_touch hu (by decide) _ _)) _ _ _ ((fun _ _ u hu => (State.setf_touch hu (by decide) _ _)) _ _ _
    ((fun _ _ u hu => (State.setf_touch hu (by decide) _ _)) _ _ _ .refl))

theorem State.setPage_touch (h : Touch W a s) (hw : Part.sub [.registers, .memory] W = true) (p st refs freed : Nat) :
    Touch W a (State.setPage s p st refs freed) := by
  refine h.step hw ?_
  unfold State.setPage
  exact State.putPage_touch (State.countPage_touch .refl (by decide) _ _ _) (by decide) _ _ _ _

theorem State.taintPage_touch (h : Touch W a s) (hw : Part.sub [.taint] W = true) (act p refs : Nat) :
    Touch W a (State.taintPage s act p refs) := by
  refine h.step hw ?_
  unfold State.taintPage
  exact touch_taint .refl (by decide) _

theorem State.taintReq_touch (h : Touch W a s) (hw : Part.sub [.taint] W = true) (tag : Nat) :
    Touch W a (State.taintReq s tag) := by
  refine h.step hw ?_
  unfold State.taintReq
  exact touch_taint .refl (by decide) _

theorem State.allocPage_touch (h : Touch W a s) (hw : Part.sub [.registers, .memory, .taint] W = true) (isF : Bool) (st : Nat) :
    Touch W a (State.allocPage s isF st).1 := by
  refine h.step hw ?_
  unfold State.allocPage
  try dsimp only
  exact (by
      try dsimp only
      split
      · try dsimp only
        exact .refl
      · try dsimp only
        exact State.taintPage_touch (State.setPage_touch .refl (by decide) _ _ _ _) (by decide) _ _ _)

theorem State.allocPage_pair (h : Touch W a s) (hw : Part.sub [.registers, .memory, .taint] W = true) (isF : Bool) (st : Nat) {u y}
    (e : State.allocPage s isF st = (u, y)) :
    Touch W a u := by
  have := State.allocPage_touch h hw isF st
  rwa [e] at this

theorem State.addRef_touch (h : Touch W a s) (hw : Part.sub [.memory] W = true) (p : Nat) :
    Touch W a (State.addRef s p) := by
  refine h.step hw ?_
  unfold State.addRef
  exact State.putPage_touch .refl (by decide) _ _ _ _

theorem State.dropRef_touch (h : Touch W a s) (hw : Part.sub [.registers, .memory, .taint] W = true) (p : Nat) :
    Touch W a (State.dropRef s p) := by
  refine h.step hw ?_
  unfold State.dropRef
  exact touch_ite (State.setPage_touch (State.taintPage_touch .refl (by decide) _ _ _) (by decide) _ _ _ _) (State.putPage_touch
    .refl (by decide) _ _ _ _)

theorem State.freeNow_touch (h : Touch W a s) (hw : Part.sub [.registers, .memory, .taint] W = true) (p : Nat) :
    Touch W a (State.freeNow s p) := by
  refine h.step hw ?_
  unfold State.freeNow
  exact State.setPage_touch (State.taintPage_touch .refl (by decide) _ _ _) (by decide) _ _ _ _

theorem State.quarFree_touch (h : Touch W a s) (hw : Part.sub [.registers, .memory, .taint] W = true) :
    Touch W a (State.quarFree s) := by
  refine h.step hw ?_
  unfold State.quarFree
  exact touch_ite .refl (touch_foldl _ .refl (fun u _ hu => (State.when_touch hu _ _ (fun u1 hu1 => (State.freeNow_touch hu1
    (by decide) _)))))

theorem State.pageLost_touch (h : Touch W a s) (hw : Part.sub [.registers, .memory, .sent, .requests, .links] W = true) (p : Nat) :
    Touch W a (State.pageLost s p) := by
  refine h.step hw ?_
  unfold State.pageLost
  exact touch_ite .refl (touch_reqs (touch_foldl _ (State.setf_touch (State.inc_touch (State.evt_touch (State.setPage_touch .refl
    (by decide) _ _ _ _) (by decide) _) (by decide) _) (by decide) _ _) (fun u _ hu => (State.toAll_touch hu (by decide) _)))
    (by decide) _)

theorem State.kvCheck_touch (h : Touch W a s) (hw : Part.sub [.registers, .sent, .frame, .records, .pages] W = true) (c p slot
    frame : Nat) :
    Touch W a (State.kvCheck s c p slot frame) := by
  refine h.step hw ?_
  unfold State.kvCheck
  exact touch_kvFail (State.raise_touch (State.evt_touch (State.inc_touch .refl (by decide) _) (by decide) _) (by decide) _ _ _ _ _)
    (by decide) _

theorem State.setReq_touch (h : Touch W a s) (hw : Part.sub [.requests] W = true) (r : Req) :
    Touch W a (State.setReq s r) := by
  refine h.step hw ?_
  unfold State.setReq
  exact touch_reqs .refl (by decide) _

theorem State.mirrorLatent_touch (h : Touch W a s) (hw : Part.sub [.memory] W = true) (p slot : Nat) (e : List Nat) :
    Touch W a (State.mirrorLatent s p slot e) := by
  refine h.step hw ?_
  unfold State.mirrorLatent
  exact touch_ite (touch_ite (State.write_touch .refl (by decide) _ _) .refl) (touch_ite (State.write_touch .refl (by decide) _ _)
    .refl)

theorem State.writeLatent_touch (h : Touch W a s) (hw : Part.sub [.memory, .taint, .links] W = true) (layer slot pos : Nat) (v :
    List Num) :
    Touch W a (State.writeLatent s layer slot pos v) := by
  refine h.step hw ?_
  unfold State.writeLatent
  exact (by
      try dsimp -proj only
      split
      · exact .refl
      · exact (by
            try dsimp -proj only
            split
            · exact .refl
            · exact (by
                  try dsimp -proj only
                  split
                  · exact touch_ctrlQ (State.taintPage_touch (State.write_touch .refl (by decide) _ _) (by decide) _ _ _)
                      (by decide) _
                  · exact State.taintPage_touch (State.write_touch .refl (by decide) _ _) (by decide) _ _ _)))

theorem State.swapPage_touch (h : Touch W a s) (hw : Part.sub [.requests] W = true) (m : Moving) :
    Touch W a (State.swapPage s m) := by
  refine h.step hw ?_
  unfold State.swapPage
  exact touch_reqs .refl (by decide) _

theorem touch_moving_done (h : Touch W a s) (hw : Part.sub [.slots, .pages] W = true) (x0 : List Moving) (x1 : List Nat) :
    Touch W a { s with moving := x0, done := x1 } :=
  touch_done (touch_moving h (Part.sub_trans (by decide) hw) x0) (Part.sub_trans (by decide) hw) x1

theorem State.startMove_touch (h : Touch W a s) (hw : Part.sub [.registers, .memory, .sent, .slots, .pages, .taint] W = true) (c : Nat)
    (r : Req) (x : Nat × Nat × Nat) :
    Touch W a (State.startMove s c r x) := by
  refine h.step hw ?_
  unfold State.startMove
  exact (by
      try dsimp -proj only
      split
      · exact State.evt_touch (State.inc_touch (State.allocPage_pair .refl (by decide) _ _ (by assumption)) (by decide) _)
          (by decide) _
      · exact touch_moving_done (touch_ite (State.setPage_touch (State.setPage_touch (State.allocPage_pair .refl (by decide) _ _ (by
          assumption)) (by decide) _ _ _ _) (by decide) _ _ _ _) (State.setPage_touch (State.allocPage_pair .refl (by decide) _ _
          (by assumption)) (by decide) _ _ _ _)) (by decide) _ _)

theorem execPageMigrate_touch (h : Touch W a s) (hw : Part.sub [.clock, .registers, .memory, .sent, .slots, .pages, .taint] W =
    true) (t core slot : Nat) :
    ∀ u, execPageMigrate t core slot s = .next u → Touch W a u := by
  refine outTouch_step h hw ?_
  unfold execPageMigrate
  exact outTouch_ite (outTouch_next (touch_foldl _ (State.mark_touch (State.at_touch .refl (by decide) _) (by decide) _ _) (fun u _
    hu => (touch_foldl _ hu (fun u1 _ hu1 => (State.when_touch hu1 _ _ (fun u2 hu2 => (State.startMove_touch hu2 (by decide) _ _
    _)))))))) (outTouch_next (State.at_touch .refl (by decide) _))

theorem execMigrateDone_touch (h : Touch W a s) (hw : Part.sub [.clock, .registers, .memory, .sent, .frame, .records, .requests,
    .pages, .taint, .links] W = true) (t : Nat) (lines : List Nat) :
    ∀ u, execMigrateDone t lines s = .next u → Touch W a u := by
  refine outTouch_step h hw ?_
  unfold execMigrateDone
  exact (by
      try dsimp -proj only
      split
      · exact outTouch_next (State.at_touch .refl (by decide) _)
      · exact outTouch_ite (outTouch_next (State.pageLost_touch (State.setPage_touch (by
            try dsimp -proj only
            split
            · exact State.tierUncorr_touch (touch_moving (State.at_touch .refl (by decide) _) (by decide) _) (by decide) _ _ _
            · exact State.raise_touch (State.evt_touch (State.inc_touch (touch_moving (State.at_touch .refl (by decide) _) (by decide)
                _) (by decide) _) (by decide) _) (by decide) _ _ _ _ _)
          (by decide) _ _ _ _) (by decide) _)) (outTouch_next (State.swapPage_touch (State.setPage_touch (State.taintPage_touch
          (State.setPage_touch (State.write_touch (touch_moving (State.at_touch .refl (by decide) _) (by decide) _) (by decide) _ _)
          (by decide) _ _ _ _) (by decide) _ _ _) (by decide) _ _ _ _) (by decide) _)))

theorem execCowCopy_touch (h : Touch W a s) (hw : Part.sub [.clock, .memory, .slots, .pages, .taint] W = true) (t core slot : Nat) :
    ∀ u, execCowCopy t core slot s = .next u → Touch W a u := by
  refine outTouch_step h hw ?_
  unfold execCowCopy
  exact outTouch_ite (outTouch_next (touch_foldl _ (touch_cow (State.mark_touch (State.at_touch .refl (by decide) _) (by decide) _
    _) (by decide) _) (fun u _ hu => (State.taintPage_touch (State.write_touch hu (by decide) _ _) (by decide) _ _ _))))
    (outTouch_next (State.at_touch .refl (by decide) _))

theorem execTfLost_touch (h : Touch W a s) (hw : Part.sub [.clock, .registers, .memory, .sent, .frame, .records, .requests, .links]
    W = true) (t ch : Nat) (reset : Bool) :
    ∀ u, execTfLost t ch reset s = .next u → Touch W a u := by
  refine outTouch_step h hw ?_
  unfold execTfLost
  exact outTouch_ite (outTouch_next (touch_foldl _ (State.raise_touch (State.setf_touch (touch_ite (State.chanTrain_touch
    (State.at_touch .refl (by decide) _) (by decide) _) (State.evt_touch (State.setf_touch (State.at_touch .refl (by decide) _)
    (by decide) _ _) (by decide) _)) (by decide) _ _) (by decide) _ _ _ _ _) (fun u _ hu => (State.pageLost_touch hu (by decide)
    _)))) (outTouch_next (State.at_touch .refl (by decide) _))

end Sys2Proof.Machine
end

