-- ==== Sys2Proof/Laws/FrameReadout.lean ====
section
/-! SUPPORT. What each operation and each meaning of Machine/Readout.lean may change. -/

namespace Sys2Proof.Machine

variable {W : List Part} {a s : State}

theorem State.emit_touch (h : Touch W a s) (hw : Part.sub [.registers, .memory, .sent, .frame, .packets, .scrub, .records] W =
    true) (c sel off fmt stream : Nat) (v : List Num) :
    Touch W a (State.emit s c sel off fmt stream v) := by
  refine h.step hw ?_
  unfold State.emit
  exact touch_ite (State.putPkts_touch .refl (by decide) _ _ _ _ _ _) (touch_ite (State.putPkts_touch .refl (by decide) _ _ _ _ _ _)
    (State.writeSpd_touch .refl (by decide) _ _ _ _))

theorem execReadout_touch (h : Touch W a s) (hw : Part.sub [.clock, .registers, .memory, .sent, .frame, .slots, .packets, .scrub,
    .records, .suspects, .free] W = true) (t core slot : Nat) (errs : List WordErr) :
    ∀ u, execReadout t core slot errs s = .next u → Touch W a u := by
  refine outTouch_step h hw ?_
  unfold execReadout
  exact (by
      try dsimp -proj only
      split
      · exact outTouch_next (State.at_touch .refl (by decide) _)
      · exact outTouch_ite (outTouch_next (State.emit_touch (touch_ite_by Rd.s (State.inc_touch (State.mark_touch (State.at_touch
          .refl (by decide) _) (by decide) _ _) (by decide) _) (State.readSpd_touch (State.inc_touch (State.mark_touch
          (State.at_touch .refl (by decide) _) (by decide) _ _) (by decide) _) (by decide) _ _ _ _ _)) (by decide) _ _ _ _ _ _))
          (outTouch_next (State.at_touch .refl (by decide) _)))

theorem execSpill_touch (h : Touch W a s) (hw : Part.sub [.clock, .registers, .memory, .sent, .slots, .scrub] W = true) (t core
    slot : Nat) :
    ∀ u, execSpill t core slot s = .next u → Touch W a u := by
  refine outTouch_step h hw ?_
  unfold execSpill
  exact (by
      try dsimp -proj only
      split
      · exact outTouch_next (State.at_touch .refl (by decide) _)
      · exact outTouch_ite (outTouch_next (State.writeSpd_touch (State.inc_touch (State.mark_touch (State.at_touch .refl (by decide)
          _) (by decide) _ _) (by decide) _) (by decide) _ _ _ _)) (outTouch_next (State.at_touch .refl (by decide) _)))

theorem execFill_touch (h : Touch W a s) (hw : Part.sub [.clock, .registers, .sent, .frame, .slots, .lanes, .scrub, .records,
    .suspects, .free] W = true) (t core slot : Nat) (errs : List WordErr) :
    ∀ u, execFill t core slot errs s = .next u → Touch W a u := by
  refine outTouch_step h hw ?_
  unfold execFill
  exact (by
      try dsimp -proj only
      split
      · exact outTouch_next (State.at_touch .refl (by decide) _)
      · exact outTouch_ite (outTouch_ite (outTouch_next (State.setf_touch (State.readSpd_touch (State.inc_touch (State.mark_touch
          (State.at_touch .refl (by decide) _) (by decide) _ _) (by decide) _) (by decide) _ _ _ _ _) (by decide) _ _))
          (outTouch_next (State.fillGroup_touch (State.readSpd_touch (State.inc_touch (State.mark_touch (State.at_touch .refl
          (by decide) _) (by decide) _ _) (by decide) _) (by decide) _ _ _ _ _) (by decide) _ _ _ _))) (outTouch_next
          (State.at_touch .refl (by decide) _)))

theorem execScrub_touch (h : Touch W a s) (hw : Part.sub [.clock, .registers, .slots, .scrub] W = true) (t core slot : Nat) :
    ∀ u, execScrub t core slot s = .next u → Touch W a u := by
  refine outTouch_step h hw ?_
  unfold execScrub
  exact (by
      try dsimp -proj only
      split
      · exact outTouch_next (State.at_touch .refl (by decide) _)
      · exact outTouch_ite (outTouch_next (State.setf_touch (touch_scrubLog (State.mark_touch (State.at_touch .refl (by decide) _)
          (by decide) _ _) (by decide) _) (by decide) _ _)) (outTouch_next (State.at_touch .refl (by decide) _)))

end Sys2Proof.Machine
end

