-- ==== Sys2Proof/Laws/FrameWide.lean ====
section
/-! SUPPORT. What each operation and each meaning of Machine/Wide.lean may change. -/

namespace Sys2Proof.Machine

variable {W : List Part} {a s : State}

theorem WEnv.put_touch {w : WEnv} (h : Touch W a w.s) (r : VReg) (x : List Num) :
    Touch W a (WEnv.put w r x).s := by
  unfold WEnv.put
  try dsimp only
  exact h

theorem State.blkWide_touch (h : Touch W a s) (hw : Part.sub [.registers, .frame, .records] W = true) (c : Nat) (st : Stream) (a8
    useWc : Bool) (b0 : Blk) (pkt blk : Nat) :
    Touch W a (State.blkWide s c st a8 useWc b0 pkt blk).1 := by
  refine h.step hw ?_
  unfold State.blkWide
  try dsimp only
  exact touch_ite_by Prod.fst .refl (by
      try dsimp only
      split
      · try dsimp only
        exact .refl
      · try dsimp only
        exact State.inc_touch (State.raise_touch .refl (by decide) _ _ _ _ _) (by decide) _
      · try dsimp only
        exact .refl)

theorem State.blkWide_pair (h : Touch W a s) (hw : Part.sub [.registers, .frame, .records] W = true) (c : Nat) (st : Stream) (a8
    useWc : Bool) (b0 : Blk) (pkt blk : Nat) {u y} (e : State.blkWide s c st a8 useWc b0 pkt blk = (u, y)) :
    Touch W a u := by
  have := State.blkWide_touch h hw c st a8 useWc b0 pkt blk
  rwa [e] at this

theorem State.blksWide_touch (h : Touch W a s) (hw : Part.sub [.registers, .frame, .records] W = true) (c : Nat) (st : Stream) (a8
    useWc : Bool) (pkt0 i : Nat) (l : List Blk) :
    Touch W a (State.blksWide s c st a8 useWc pkt0 i l).1 := by
  induction l generalizing s i with
  | nil => exact h
  | cons b l ih => exact ih (State.blkWide_touch h (Part.sub_trans (by decide) hw) ..) _

theorem State.xchkFail_touch (h : Touch W a s) (hw : Part.sub [.registers, .sent, .frame, .records, .proxies] W = true) (group
    product : Nat) :
    Touch W a (State.xchkFail s group product) := by
  refine h.step hw ?_
  unfold State.xchkFail
  exact touch_ite (State.evt_touch (State.raise_touch (touch_pxFails .refl (by decide) _) (by decide) _ _ _ _ _) (by decide) _)
    (State.raise_touch (touch_pxFails .refl (by decide) _) (by decide) _ _ _ _ _)

theorem WEnv.op_touch {w : WEnv} (h : Touch W a w.s) (hw : Part.sub [.registers, .memory, .sent, .frame, .packets, .lanes, .scrub,
    .records, .suspects, .proxies, .taint, .links, .free] W = true) (c : Nat) (useWc : Bool) (errs : List WordErr) (note :
      SlotNote) (o : WideOp) :
    Touch W a (WEnv.op w c useWc errs note o).s := by
  refine h.step hw ?_
  unfold WEnv.op
  try dsimp only
  exact (by
      try dsimp only
      split
      · try dsimp only
        exact WEnv.put_touch (State.blksWide_touch (State.takePkts_touch .refl (by decide) _ _ _ _ _ _) (by decide) _ _ _ _ _ _ _) _
          _
      · try dsimp only
        exact WEnv.put_touch (State.blksWide_touch (State.takePkts_touch .refl (by decide) _ _ _ _ _ _) (by decide) _ _ _ _ _ _ _) _
          _
      · try dsimp only
        exact WEnv.put_touch (State.readSpd_touch .refl (by decide) _ _ _ _ _) _ _
      · try dsimp only
        exact WEnv.put_touch (State.readSpd_touch .refl (by decide) _ _ _ _ _) _ _
      · try dsimp only
        exact WEnv.put_touch (State.readSpd_touch (State.readSpd_touch .refl (by decide) _ _ _ _ _) (by decide) _ _ _ _ _) _ _
      · try dsimp only
        exact WEnv.put_touch .refl _ _
      · try dsimp only
        exact WEnv.put_touch .refl _ _
      · try dsimp only
        exact WEnv.put_touch .refl _ _
      · try dsimp only
        exact WEnv.put_touch .refl _ _
      · try dsimp only
        exact WEnv.put_touch .refl _ _
      · try dsimp only
        exact WEnv.put_touch .refl _ _
      · try dsimp only
        exact WEnv.put_touch .refl _ _
      · try dsimp only
        exact WEnv.put_touch .refl _ _
      · try dsimp only
        exact State.putPkts_touch .refl (by decide) _ _ _ _ _ _
      · try dsimp only
        exact State.putPkts_touch .refl (by decide) _ _ _ _ _ _
      · try dsimp only
        exact State.writeSpd_touch .refl (by decide) _ _ _ _
      · try dsimp only
        exact State.writeSpd_touch .refl (by decide) _ _ _ _
      · try dsimp only
        exact State.writeSpd_touch (State.readSpd_touch .refl (by decide) _ _ _ _ _) (by decide) _ _ _ _
      · try dsimp only
        exact WEnv.put_touch .refl _ _
      · try dsimp only
        exact WEnv.put_touch .refl _ _
      · try dsimp only
        exact State.merge_touch .refl (by decide) _ _ _ _
      · try dsimp only
        exact State.writeSpd_touch (touch_foldl _ .refl (fun u _ hu => (State.add_touch (State.add_touch hu (by decide) _ _)
          (by decide) _ _))) (by decide) _ _ _ _
      · try dsimp only
        exact State.writeLatent_touch .refl (by decide) _ _ _ _
      · try dsimp only
        exact State.when_touch .refl _ _ (fun u1 hu1 => (State.xchkFail_touch hu1 (by decide) _ _)))

theorem State.runTask_touch (h : Touch W a s) (hw : Part.sub [.registers, .memory, .sent, .frame, .packets, .lanes, .scrub,
    .records, .suspects, .proxies, .taint, .links, .free] W = true) (c : Nat) (useWc : Bool) (errs : List WordErr) (note :
      SlotNote) (ops : List WideOp) :
    Touch W a (State.runTask s c useWc errs note ops).s := by
  refine h.step hw ?_
  unfold State.runTask
  try dsimp only
  exact touch_foldl_by WEnv.s _ .refl (fun u _ hu => (WEnv.op_touch hu (by decide) _ _ _ _ _))

theorem execWideTask_touch (h : Touch W a s) (hw : Part.sub [.clock, .registers, .memory, .sent, .frame, .slots, .packets, .lanes,
    .scrub, .repeats, .records, .suspects, .proxies, .taint, .links, .free] W = true) (t core slot : Nat) (errs : List WordErr) :
    ∀ u, execWideTask t core slot errs s = .next u → Touch W a u := by
  refine outTouch_step h hw ?_
  unfold execWideTask
  exact outTouch_ite (by
      try dsimp -proj only
      split
      · exact outTouch_ite (outTouch_next (touch_wideRep (State.mark_touch (State.at_touch .refl (by decide) _) (by decide) _ _)
          (by decide) _)) (outTouch_next (State.runTask_touch (State.mark_touch (State.at_touch .refl (by decide) _) (by decide) _
          _) (by decide) _ _ _ _ _))
      · exact outTouch_next (State.at_touch .refl (by decide) _)) (outTouch_next (State.at_touch .refl (by decide) _))

end Sys2Proof.Machine
end

