-- ==== Sys2Proof/Laws/FrameAttention.lean ====
section
/-! SUPPORT. What each operation and each meaning of Machine/Attention.lean may change. -/

namespace Sys2Proof.Machine

variable {W : List Part} {a s : State}

theorem State.visible_touch (h : Touch W a s) (hw : Part.sub [.registers, .sent, .frame, .records, .pages] W = true) (c page base
    hor q : Nat) (lines : List Nat) (n : Nat) :
    Touch W a (State.visible s c page base hor q lines n).1 := by
  induction n with
  | zero => exact h
  | succ n ih =>
    unfold State.visible
    have hr := State.readTier_touch ih (Part.sub_trans (by decide) hw) false ((s.visible c page base hor q lines n).1.pageOff page
      + 544 * n) 544 lines
    exact touch_ite_by Prod.fst (touch_ite_by Prod.fst (touch_ite_by Prod.fst (State.kvCheck_touch hr (Part.sub_trans (by decide)
      hw) ..) hr)
      (touch_ite_by Prod.fst hr ih)) ih

theorem State.kvFlags_touch (h : Touch W a s) (hw : Part.sub [.registers, .sent, .degraded] W = true) (c slot : Nat) (e : List Nat) :
    Touch W a (State.kvFlags s c slot e) := by
  refine h.step hw ?_
  unfold State.kvFlags
  exact State.when_touch (State.add_touch (State.add_touch .refl (by decide) _ _) (by decide) _ _) _ _ (fun u hu => (State.evt_touch
    (State.degradeMark_touch hu (by decide) _ _ _) (by decide) _))

theorem State.attendPages_touch (h : Touch W a s) (hw : Part.sub [.registers, .sent, .frame, .degraded, .records, .pages] W = true)
    (c : Nat) (x : Attend) (r : Req) (bkt : Nat) (qs : List (List Nat)) (lines : List Nat) (n i : Nat) (hs : List Head) :
    Touch W a (State.attendPages s c x r bkt qs lines n i hs).1 := by
  induction n generalizing s i hs with
  | zero => exact h
  | succ n ih =>
    unfold State.attendPages
    dsimp only
    split
    · exact ih h _ _
    · exact ih (touch_foldl _ (State.visible_touch h (Part.sub_trans (by decide) hw) ..) (fun u _ hu => State.kvFlags_touch hu
      (Part.sub_trans (by decide) hw) ..)) _ _

theorem execAttend_touch (h : Touch W a s) (hw : Part.sub [.clock, .registers, .memory, .sent, .frame, .slots, .scrub, .degraded,
    .records, .suspects, .pages, .free] W = true) (t core slot : Nat) (errs : List WordErr) (lines : List Nat) :
    ∀ u, execAttend t core slot errs lines s = .next u → Touch W a u := by
  refine outTouch_step h hw ?_
  unfold execAttend
  exact outTouch_ite (by
      try dsimp -proj only
      split
      · exact (by
            try dsimp -proj only
            split
            · exact outTouch_next (State.writeSpd_touch (State.readSpd_touch (State.mark_touch (State.at_touch .refl (by decide) _)
                (by decide) _ _) (by decide) _ _ _ _ _) (by decide) _ _ _ _)
            · exact outTouch_next (State.writeSpd_touch (State.attendPages_touch (State.readSpd_touch (State.mark_touch
                (State.at_touch .refl (by decide) _) (by decide) _ _) (by decide) _ _ _ _ _) (by decide) _ _ _ _ _ _ _ _ _)
                (by decide) _ _ _ _))
      · exact outTouch_next (State.at_touch .refl (by decide) _)) (outTouch_next (State.at_touch .refl (by decide) _))

theorem State.readParts_touch (h : Touch W a s) (hw : Part.sub [.registers, .sent, .frame, .scrub, .records, .suspects, .free] W =
    true) (c : Nat) (m : Merge) (errs : List WordErr) (ls : List Loc) :
    Touch W a (State.readParts s c m errs ls).1 := by
  induction ls generalizing s with
  | nil => exact h
  | cons l ls ih =>
    have hr := State.readSpd_touch h (Part.sub_trans (by decide) hw) c l.sel l.off (16 + 1928 * m.heads) errs
    unfold State.readParts
    exact touch_ite_by Prod.fst (ih (State.raise_touch (State.evt_touch (State.inc_touch hr (Part.sub_trans (by decide) hw) _)
      (Part.sub_trans (by decide) hw) _) (Part.sub_trans (by decide) hw) ..)) (ih hr)

theorem execAttnMerge_touch (h : Touch W a s) (hw : Part.sub [.clock, .registers, .memory, .sent, .frame, .slots, .scrub, .records,
    .suspects, .free] W = true) (t core slot : Nat) (errs : List WordErr) :
    ∀ u, execAttnMerge t core slot errs s = .next u → Touch W a u := by
  have hw' {K : List Part} (hk : Part.sub K [.clock, .registers, .memory, .sent, .frame, .slots, .scrub, .records, .suspects,
    .free] = true) : Part.sub K W = true := Part.sub_trans hk hw
  have h0 := State.at_touch h (hw' (by decide)) t
  unfold execAttnMerge
  refine outTouch_ite ?_ (outTouch_next h0)
  split
  · exact outTouch_next (touch_foldl _ (State.readParts_touch (State.mark_touch h0 (hw' (by decide)) ..) (hw' (by decide)) ..)
      (fun v _ hv => State.writeSpd_touch (State.readSpd_touch hv (hw' (by decide)) ..) (hw' (by decide)) ..))
  · exact outTouch_next h0

theorem execShardSummary_touch (h : Touch W a s) (hw : Part.sub [.clock, .registers, .sent, .frame, .slots, .scrub, .records,
    .suspects, .sampling, .free] W = true) (t core slot : Nat) (errs : List WordErr) :
    ∀ u, execShardSummary t core slot errs s = .next u → Touch W a u := by
  refine outTouch_step h hw ?_
  unfold execShardSummary
  exact outTouch_ite (by
      try dsimp -proj only
      split
      · exact (by
            try dsimp -proj only
            split
            · exact outTouch_next (State.readSpd_touch (State.mark_touch (State.at_touch .refl (by decide) _) (by decide) _ _)
                (by decide) _ _ _ _ _)
            · exact outTouch_next (touch_summaries (State.readSpd_touch (State.mark_touch (State.at_touch .refl (by decide) _)
                (by decide) _ _) (by decide) _ _ _ _ _) (by decide) _))
      · exact outTouch_next (State.at_touch .refl (by decide) _)) (outTouch_next (State.at_touch .refl (by decide) _))

end Sys2Proof.Machine
end

