-- ==== Sys2Proof/Laws/FrameJournal.lean ====
section
/-! SUPPORT. What each operation and each meaning of Machine/Journal.lean may change. -/

namespace Sys2Proof.Machine

variable {W : List Part} {a s : State}

theorem State.jCount_touch (h : Touch W a s) (hw : Part.sub [.registers] W = true) :
    Touch W a (State.jCount s) := by
  refine h.step hw ?_
  unfold State.jCount
  exact State.setf_touch (State.setf_touch .refl (by decide) _ _) (by decide) _ _

theorem State.setChain_touch (h : Touch W a s) (hw : Part.sub [.registers, .journal] W = true) (c : Chain) :
    Touch W a (State.setChain s c) := by
  refine h.step hw ?_
  unfold State.setChain
  exact State.jCount_touch (touch_chains .refl (by decide) _) (by decide)

theorem State.jHeader_touch (h : Touch W a s) (hw : Part.sub [.memory] W = true) (c : Chain) (k : Nat) :
    Touch W a (State.jHeader s c k) := by
  refine h.step hw ?_
  unfold State.jHeader
  exact State.write_touch .refl (by decide) _ _

theorem State.jMirror_touch (h : Touch W a s) (hw : Part.sub [.links] W = true) (c : Chain) (k : Nat) :
    Touch W a (State.jMirror s c k) := by
  refine h.step hw ?_
  unfold State.jMirror
  exact (by
      try dsimp -proj only
      split
      · exact .refl
      · exact touch_ctrlQ .refl (by decide) _)

theorem State.putUnits_touch (h : Touch W a s) (hw : Part.sub [.memory] W = true) (c : Chain) (n u : Nat) (bs : List Nat) :
    Touch W a (State.putUnits s c n u bs) := by
  induction n generalizing s u bs with
  | zero => exact h
  | succ n ih => exact ih (State.write_touch h (Part.sub_trans (by decide) hw) ..) _ _

theorem State.journal_touch (h : Touch W a s) (hw : Part.sub [.registers, .memory, .journal, .links] W = true) (scope tag kind aux
    seq value count : Nat) (payload : List Nat) :
    Touch W a (State.journal s scope tag kind aux seq value count payload) := by
  refine h.step hw ?_
  unfold State.journal
  exact touch_ite .refl (touch_foldl _ (touch_foldl _ (State.putUnits_touch (State.setChain_touch .refl (by decide) _) (by decide) _
    _ _ _) (fun u _ hu => (State.jHeader_touch hu (by decide) _ _))) (fun u1 _ hu1 => (State.jMirror_touch hu1 (by decide) _ _)))

theorem State.mirrorJournal_touch (h : Touch W a s) (hw : Part.sub [.registers, .memory, .journal] W = true) (off : Nat) (bs : List
    Nat) :
    Touch W a (State.mirrorJournal s off bs) := by
  refine h.step hw ?_
  unfold State.mirrorJournal
  exact touch_ite (State.jCount_touch (touch_ite (touch_mirUsed .refl (by decide) _) (State.write_touch (touch_mirUsed .refl
    (by decide) _) (by decide) _ _)) (by decide) ) .refl

theorem State.takeBack_touch (h : Touch W a s) (hw : Part.sub [.memory] W = true) (off : Nat) (bs : List Nat) :
    Touch W a (State.takeBack s off bs) := by
  refine h.step hw ?_
  unfold State.takeBack
  exact State.when_touch .refl _ _ (fun u hu => (State.write_touch hu (by decide) _ _))

theorem State.jFreeSettled_touch (h : Touch W a s) (hw : Part.sub [.registers, .journal, .links] W = true) :
    Touch W a (State.jFreeSettled s) := by
  refine h.step hw ?_
  unfold State.jFreeSettled
  exact State.jCount_touch (touch_ctrlQ_chains .refl (by decide) _ _) (by decide)

theorem State.cqIrq_touch (h : Touch W a s) (hw : Part.sub [.registers, .sent] W = true) (q : Nat) :
    Touch W a (State.cqIrq s q) := by
  refine h.step hw ?_
  unfold State.cqIrq
  exact touch_ite (State.msix_touch (State.setf_touch .refl (by decide) _ _) (by decide) _) .refl

theorem State.cqWrite_touch (h : Touch W a s) (hw : Part.sub [.registers, .memory, .sent, .requests] W = true) (p : Post) :
    Touch W a (State.cqWrite s p) := by
  refine h.step hw ?_
  unfold State.cqWrite
  exact State.cqIrq_touch (touch_reqs (State.setf_touch (State.when_touch (State.setf_touch (State.writeNum_touch
    (State.writeNum_touch (State.when_touch .refl _ _ (fun u hu => (State.write_touch hu (by decide) _ _))) (by decide) _ _ _)
    (by decide) _ _ _) (by decide) _ _) _ _ (fun u1 hu1 => (State.setf_touch hu1 (by decide) _ _))) (by decide) _ _) (by decide) _)
    (by decide) _

theorem State.postCount_touch (h : Touch W a s) (hw : Part.sub [.registers, .sent] W = true) (p : Post) :
    Touch W a (State.postCount s p) := by
  refine h.step hw ?_
  unfold State.postCount
  exact State.when_touch (State.when_touch .refl _ _ (fun u hu => (State.inc_touch hu (by decide) _))) _ _ (fun u1 hu1 =>
    (State.evt_touch (State.inc_touch hu1 (by decide) _) (by decide) _))

theorem State.post_touch (h : Touch W a s) (hw : Part.sub [.registers, .memory, .sent, .requests, .completions] W = true) (p : Post) :
    Touch W a (State.post s p) := by
  refine h.step hw ?_
  unfold State.post
  exact touch_ite (State.postCount_touch .refl (by decide) _) (touch_ite (touch_heldCq (State.evt_touch (State.inc_touch
    (State.postCount_touch .refl (by decide) _) (by decide) _) (by decide) _) (by decide) _) (State.cqWrite_touch
    (State.postCount_touch .refl (by decide) _) (by decide) _))

theorem State.postHeld_touch (h : Touch W a s) (hw : Part.sub [.registers, .memory, .sent, .requests, .completions] W = true) (q n
    : Nat) :
    Touch W a (State.postHeld s q n) := by
  induction n generalizing s with
  | zero => exact h
  | succ n ih =>
    unfold State.postHeld
    split
    · exact h
    · split
      · exact h
      · exact ih (State.cqWrite_touch (touch_heldCq h (Part.sub_trans (by decide) hw) _) (Part.sub_trans (by decide) hw) _)

theorem State.wrQpCfg_touch (h : Touch W a s) (hw : Part.sub [.registers, .memory, .sent] W = true) (pair : Nat) (val : Word) :
    Touch W a (State.wrQpCfg s pair val) := by
  refine h.step hw ?_
  unfold State.wrQpCfg
  exact (by
      try dsimp -proj only
      split
      · exact State.gate_some .refl (by decide) _ _ (by assumption)
      · exact touch_ite (State.setf_touch (State.write_touch (State.setf_touch (State.setReg_touch (State.when_touch
          (State.when_touch (State.when_touch .refl _ _ (fun u hu => (State.setf_touch hu (by decide) _ _))) _ _ (fun u1 hu1 =>
          (State.setf_touch hu1 (by decide) _ _))) _ _ (fun u2 hu2 => (State.setf_touch hu2 (by decide) _ _))) (by decide) _ _)
          (by decide) _ _) (by decide) _ _) (by decide) _ _) (touch_ite (touch_ite (State.setf_touch (State.when_touch
          (State.when_touch (State.when_touch .refl _ _ (fun u hu => (State.setf_touch hu (by decide) _ _))) _ _ (fun u1 hu1 =>
          (State.setf_touch hu1 (by decide) _ _))) _ _ (fun u2 hu2 => (State.setf_touch hu2 (by decide) _ _))) (by decide) _ _)
          (State.setf_touch (State.when_touch (State.when_touch (State.when_touch .refl _ _ (fun u hu => (State.setf_touch hu
          (by decide) _ _))) _ _ (fun u1 hu1 => (State.setf_touch hu1 (by decide) _ _))) _ _ (fun u2 hu2 => (State.setf_touch hu2
          (by decide) _ _))) (by decide) _ _)) (State.when_touch (State.when_touch (State.when_touch .refl _ _ (fun u hu =>
          (State.setf_touch hu (by decide) _ _))) _ _ (fun u1 hu1 => (State.setf_touch hu1 (by decide) _ _))) _ _ (fun u2 hu2 =>
          (State.setf_touch hu2 (by decide) _ _)))))

theorem execQpEnable_touch (h : Touch W a s) (hw : Part.sub [.clock, .registers, .memory, .sent] W = true) (t pair : Nat) (val :
    Word) :
    ∀ u, execQpEnable t pair val s = .next u → Touch W a u := by
  refine outTouch_step h hw ?_
  unfold execQpEnable
  exact outTouch_next (State.wrQpCfg_touch (State.at_touch .refl (by decide) _) (by decide) _ _)

theorem State.wrCqHead_touch (h : Touch W a s) (hw : Part.sub [.registers, .memory, .sent, .requests, .completions, .journal] W =
    true) (pair head : Nat) (arm : Bool) :
    Touch W a (State.wrCqHead s pair head arm) := by
  refine h.step hw ?_
  unfold State.wrCqHead
  exact (by
      try dsimp -proj only
      split
      · exact State.gate_some .refl (by decide) _ _ (by assumption)
      · exact touch_ite (State.cqIrq_touch (State.postHeld_touch (State.when_touch (State.setf_touch (touch_chains_delivered .refl
          (by decide) _ _) (by decide) _ _) _ _ (fun u hu => (State.setf_touch hu (by decide) _ _))) (by decide) _ _) (by decide) _)
          (State.setf_touch .refl (by decide) _ _))

theorem execCqDoorbell_touch (h : Touch W a s) (hw : Part.sub [.clock, .registers, .memory, .sent, .requests, .completions,
    .journal] W = true) (t pair head : Nat) (arm : Bool) :
    ∀ u, execCqDoorbell t pair head arm s = .next u → Touch W a u := by
  refine outTouch_step h hw ?_
  unfold execCqDoorbell
  exact outTouch_next (State.wrCqHead_touch (State.at_touch .refl (by decide) _) (by decide) _ _ _)

end Sys2Proof.Machine
end

