-- ==== Sys2Proof/Laws/FrameAdmit.lean ====
section
/-! SUPPORT. What each operation and each meaning of Machine/Admit.lean may change. -/

namespace Sys2Proof.Machine

variable {W : List Part} {a s : State}

theorem State.readArea_touch (h : Touch W a s) (hw : Part.sub [.registers, .sent, .frame, .records] W = true) (off n align : Nat)
    (lines : List Nat) :
    Touch W a (State.readArea s off n align lines).s := by
  refine h.step hw ?_
  unfold State.readArea
  try dsimp only
  exact touch_ite_by Rd.s .refl (touch_ite_by Rd.s .refl (State.readTier_touch .refl (by decide) _ _ _ _))

theorem State.readSample_touch (h : Touch W a s) (hw : Part.sub [.registers, .sent, .frame, .records] W = true) (off : Nat) (lines
    : List Nat) :
    Touch W a (State.readSample s off lines).1 := by
  refine h.step hw ?_
  unfold State.readSample
  try dsimp only
  exact touch_ite_by Prod.fst (State.readArea_touch .refl (by decide) _ _ _ _) (touch_ite_by Prod.fst (State.readArea_touch
    (State.readArea_touch .refl (by decide) _ _ _ _) (by decide) _ _ _ _) (State.readArea_touch (State.readArea_touch
    (State.readArea_touch .refl (by decide) _ _ _ _) (by decide) _ _ _ _) (by decide) _ _ _ _))

theorem State.readSample_pair (h : Touch W a s) (hw : Part.sub [.registers, .sent, .frame, .records] W = true) (off : Nat) (lines :
    List Nat) {u y} (e : State.readSample s off lines = (u, y)) :
    Touch W a u := by
  have := State.readSample_touch h hw off lines
  rwa [e] at this

theorem State.readCmd_touch (h : Touch W a s) (hw : Part.sub [.registers, .sent, .frame, .records] W = true) (c : Cmd) (lines :
    List Nat) :
    Touch W a (State.readCmd s c lines).1 := by
  refine h.step hw ?_
  unfold State.readCmd
  try dsimp only
  exact touch_ite_by Prod.fst (State.readSample_touch (State.readArea_touch .refl (by decide) _ _ _ _) (by decide) _ _)
    (touch_ite_by Prod.fst (State.readArea_touch (State.readArea_touch .refl (by decide) _ _ _ _) (by decide) _ _ _ _) (touch_ite_by
    Prod.fst (State.readSample_touch .refl (by decide) _ _) .refl))

theorem State.readCmd_pair (h : Touch W a s) (hw : Part.sub [.registers, .sent, .frame, .records] W = true) (c : Cmd) (lines : List
    Nat) {u y} (e : State.readCmd s c lines = (u, y)) :
    Touch W a u := by
  have := State.readCmd_touch h hw c lines
  rwa [e] at this

theorem State.takeSq_touch (h : Touch W a s) (hw : Part.sub [.registers, .sent, .frame, .records, .admission] W = true) (pair :
    Nat) (lines : List Nat) (n i : Nat) :
    Touch W a (State.takeSq s pair lines n i) := by
  induction n generalizing s i with
  | zero => exact h
  | succ n ih =>
    exact ih (State.setf_touch (touch_fwd (State.readCmd_touch h (Part.sub_trans (by decide) hw) ..) (Part.sub_trans (by decide)
      hw) _) (Part.sub_trans (by decide) hw) ..) _

theorem State.wrSqTail_touch (h : Touch W a s) (hw : Part.sub [.registers, .sent, .frame, .records, .admission] W = true) (pair
    tail : Nat) (lines : List Nat) :
    Touch W a (State.wrSqTail s pair tail lines) := by
  refine h.step hw ?_
  unfold State.wrSqTail
  exact (by
      try dsimp -proj only
      split
      · exact State.gate_some .refl (by decide) _ _ (by assumption)
      · exact touch_ite (State.setf_touch (State.takeSq_touch .refl (by decide) _ _ _ _) (by decide) _ _) (State.setf_touch .refl
          (by decide) _ _))

theorem execSqDoorbell_touch (h : Touch W a s) (hw : Part.sub [.clock, .registers, .sent, .frame, .records, .admission] W = true)
    (t pair tail : Nat) (lines : List Nat) :
    ∀ u, execSqDoorbell t pair tail lines s = .next u → Touch W a u := by
  refine outTouch_step h hw ?_
  unfold execSqDoorbell
  exact outTouch_next (State.wrSqTail_touch (State.at_touch .refl (by decide) _) (by decide) _ _ _)

theorem execCommandArrive_touch (h : Touch W a s) (hw : Part.sub [.clock, .admission] W = true) (t : Nat) :
    ∀ u, execCommandArrive t s = .next u → Touch W a u := by
  refine outTouch_step h hw ?_
  unfold execCommandArrive
  exact (by
      try dsimp -proj only
      split
      · exact outTouch_next (State.at_touch .refl (by decide) _)
      · exact outTouch_next (touch_fwdIn_arrivals (State.at_touch .refl (by decide) _) (by decide) _ _))

theorem execControlSlot_touch (h : Touch W a s) (hw : Part.sub [.clock, .registers, .sent, .frame, .slots, .records, .admission,
    .links] W = true) (t core slot : Nat) :
    ∀ u, execControlSlot t core slot s = .next u → Touch W a u := by
  refine outTouch_step h hw ?_
  unfold execControlSlot
  exact outTouch_ite (outTouch_next (touch_ite (State.flush_touch (touch_ite (touch_fwd_fwdIn (State.mark_touch (State.at_touch
    .refl (by decide) _) (by decide) _ _) (by decide) _ _) (touch_fwd_undecided_ctrlQ (State.mark_touch (State.at_touch .refl
    (by decide) _) (by decide) _ _) (by decide) _ _ _)) (by decide) _ _) (touch_ite (touch_fwd_fwdIn (State.mark_touch
    (State.at_touch .refl (by decide) _) (by decide) _ _) (by decide) _ _) (touch_fwd_undecided_ctrlQ (State.mark_touch
    (State.at_touch .refl (by decide) _) (by decide) _ _) (by decide) _ _ _)))) (outTouch_next (State.at_touch .refl (by decide) _))

theorem State.homeTake_touch (h : Touch W a s) (hw : Part.sub [.registers, .memory, .sent, .requests, .completions, .admission,
    .journal, .links] W = true) (d : Nat) (x : Decision) :
    Touch W a (State.homeTake s d x) := by
  refine h.step hw ?_
  unfold State.homeTake
  exact touch_ite (touch_undecided .refl (by decide) _) (touch_ite (State.post_touch (touch_undecided .refl (by decide) _)
    (by decide) _) (touch_posts (State.journal_touch (touch_undecided .refl (by decide) _) (by decide) _ _ _ _ _ _ _ _) (by decide)
    _))

theorem State.takeDecisions_touch (h : Touch W a s) (hw : Part.sub [.registers, .memory, .sent, .requests, .completions,
    .admission, .journal, .links] W = true) (d : Nat) (xs : List Decision) :
    Touch W a (State.takeDecisions s d xs) := by
  refine h.step hw ?_
  unfold State.takeDecisions
  exact touch_foldl _ .refl (fun u _ hu => (State.homeTake_touch (touch_decisions_decLog hu (by decide) _ _) (by decide) _ _))

theorem State.announce_touch (h : Touch W a s) (hw : Part.sub [.registers, .memory, .sent, .requests, .completions, .admission,
    .journal, .links] W = true) (x : Decision) :
    Touch W a (State.announce s x) := by
  refine h.step hw ?_
  unfold State.announce
  exact State.toAll_touch (State.takeDecisions_touch .refl (by decide) _ _) (by decide) _

theorem State.takeCount_touch (h : Touch W a s) (hw : Part.sub [.requests] W = true) (scope tag j : Nat) :
    Touch W a (State.takeCount s scope tag j) := by
  refine h.step hw ?_
  unfold State.takeCount
  exact (by
      try dsimp -proj only
      split
      · exact State.setReq_touch .refl (by decide) _
      · exact .refl)

theorem State.takeSampled_touch (h : Touch W a s) (hw : Part.sub [.registers, .memory, .requests, .journal, .links] W = true)
    (scope tag frame : Nat) (toks : List Nat) (deg : Bool) (stop : Nat) :
    Touch W a (State.takeSampled s scope tag frame toks deg stop) := by
  refine h.step hw ?_
  unfold State.takeSampled
  exact (by
      try dsimp -proj only
      split
      · exact .refl
      · exact State.setReq_touch (State.when_touch .refl _ _ (fun u hu => (State.journal_touch hu (by decide) _ _ _ _ _ _ _ _)))
          (by decide) _)

theorem State.takeDegraded_touch (h : Touch W a s) (hw : Part.sub [.requests] W = true) (scope tag frame : Nat) :
    Touch W a (State.takeDegraded s scope tag frame) := by
  refine h.step hw ?_
  unfold State.takeDegraded
  exact (by
      try dsimp -proj only
      split
      · exact .refl
      · exact State.setReq_touch .refl (by decide) _)

theorem State.markPosted_touch (h : Touch W a s) (hw : Part.sub [.journal] W = true) (scope tag d : Nat) :
    Touch W a (State.markPosted s scope tag d) := by
  refine h.step hw ?_
  unfold State.markPosted
  exact touch_decLog .refl (by decide) _

theorem State.deliver_touch (h : Touch W a s) (hw : Part.sub [.registers, .memory, .sent, .requests, .completions, .admission,
    .journal, .links, .mail] W = true) (m : CtrlMsg) :
    Touch W a (State.deliver s m) := by
  refine h.step hw ?_
  unfold State.deliver
  exact (by
      try dsimp -proj only
      split
      · exact touch_fwdIn .refl (by decide) _
      · exact State.takeDecisions_touch .refl (by decide) _ _
      · exact State.takeCount_touch .refl (by decide) _ _ _
      · exact State.takeSampled_touch .refl (by decide) _ _ _ _ _ _
      · exact State.markPosted_touch .refl (by decide) _ _ _
      · exact State.takeDegraded_touch .refl (by decide) _ _ _
      · exact (by
            try dsimp -proj only
            split
            · exact State.setReq_touch .refl (by decide) _
            · exact .refl)
      · exact touch_evicts .refl (by decide) _
      · exact touch_freeRep .refl (by decide) _
      · exact State.mirrorLatent_touch .refl (by decide) _ _ _
      · exact State.mirrorJournal_touch .refl (by decide) _ _
      · exact State.takeBack_touch .refl (by decide) _ _
      · exact touch_notices .refl (by decide) _
      · exact touch_lspIn .refl (by decide) _)

theorem execCtrlFlit_touch (h : Touch W a s) (hw : Part.sub [.clock, .registers, .memory, .sent, .frame, .records, .requests,
    .completions, .admission, .journal, .links, .mail] W = true) (t port : Nat) (f : Flit) (msg : CtrlMsg) (fec : Option Nat) :
    ∀ u, execCtrlFlit t port f msg fec s = .next u → Touch W a u := by
  refine outTouch_step h hw ?_
  unfold execCtrlFlit
  exact outTouch_ite (outTouch_next (State.fec_touch (State.at_touch .refl (by decide) _) (by decide) _ _)) (outTouch_next
    (State.rxMsg_touch (State.fec_touch (State.at_touch .refl (by decide) _) (by decide) _ _) (by decide) _ _ _ _ (fun u hu =>
    (touch_ite (State.relay_touch hu (by decide) _ _) (touch_ite (State.raise_touch (State.fabEvt_touch hu (by decide) _ _)
    (by decide) _ _ _ _ _) (State.deliver_touch hu (by decide) _))))))

theorem State.setDeferred_touch (h : Touch W a s) (hw : Part.sub [.registers, .admission] W = true) (d : List Deferred) :
    Touch W a (State.setDeferred s d) := by
  refine h.step hw ?_
  unfold State.setDeferred
  exact State.setf_touch (touch_deferred .refl (by decide) _) (by decide) _ _

theorem State.acceptCmd_touch (h : Touch W a s) (hw : Part.sub [.registers, .memory, .sent, .requests, .completions, .admission,
    .journal, .links] W = true) (c : Cmd) :
    Touch W a (State.acceptCmd s c) := by
  refine h.step hw ?_
  unfold State.acceptCmd
  exact State.announce_touch (State.add_touch (State.when_touch .refl _ _ (fun u hu => (State.evt_touch (State.inc_touch hu
    (by decide) _) (by decide) _))) (by decide) _ _) (by decide) _

theorem State.decideCmd_touch (h : Touch W a s) (hw : Part.sub [.registers, .memory, .sent, .requests, .completions, .admission,
    .journal, .links] W = true) (a0 : Arrival) :
    Touch W a (State.decideCmd s a0) := by
  refine h.step hw ?_
  unfold State.decideCmd
  exact (by
      try dsimp -proj only
      split
      · exact State.acceptCmd_touch .refl (by decide) _
      · exact touch_ite (State.setDeferred_touch .refl (by decide) _) (State.announce_touch .refl (by decide) _))

theorem State.retest_touch (h : Touch W a s) (hw : Part.sub [.registers, .memory, .sent, .requests, .completions, .admission,
    .journal, .links] W = true) :
    Touch W a (State.retest s) := by
  refine h.step hw ?_
  unfold State.retest
  exact touch_foldl _ .refl (fun u _ hu => (by
      try dsimp -proj only
      split
      · exact State.acceptCmd_touch (State.setDeferred_touch hu (by decide) _) (by decide) _
      · exact State.setDeferred_touch hu (by decide) _))

theorem State.decideExpiry_touch (h : Touch W a s) (hw : Part.sub [.registers, .memory, .sent, .requests, .completions, .admission,
    .journal, .links] W = true) (c : Cmd) :
    Touch W a (State.decideExpiry s c) := by
  refine h.step hw ?_
  unfold State.decideExpiry
  exact (by
      try dsimp -proj only
      split
      · exact touch_ite (State.announce_touch .refl (by decide) _) .refl
      · exact .refl)

theorem State.popExpiries_touch (h : Touch W a s) (hw : Part.sub [.registers, .memory, .sent, .requests, .completions, .admission,
    .journal, .links] W = true) (n : Nat) :
    Touch W a (State.popExpiries s n) := by
  induction n generalizing s with
  | zero => exact h
  | succ n ih =>
    unfold State.popExpiries
    split
    · split
      · exact ih (State.decideExpiry_touch (touch_arrivals h (Part.sub_trans (by decide) hw) _) (Part.sub_trans (by decide) hw) _)
      · exact h
    · exact h

theorem State.rootDecides_touch (h : Touch W a s) (hw : Part.sub [.registers, .memory, .sent, .requests, .completions, .admission,
    .journal, .links] W = true) (op : Nat) :
    Touch W a (State.rootDecides s op) := by
  refine h.step hw ?_
  unfold State.rootDecides
  exact touch_ite (by
      try dsimp -proj only
      split
      · exact touch_ite (State.decideCmd_touch (touch_arrivals (State.popExpiries_touch .refl (by decide) _) (by decide) _)
          (by decide) _) (State.popExpiries_touch .refl (by decide) _)
      · exact State.popExpiries_touch .refl (by decide) _) .refl

theorem execNewReq_touch (h : Touch W a s) (hw : Part.sub [.clock, .registers, .memory, .sent, .requests, .completions, .admission,
    .journal, .links] W = true) (t : Nat) :
    ∀ u, execNewReq t s = .next u → Touch W a u := by
  refine outTouch_step h hw ?_
  unfold execNewReq
  exact outTouch_next (State.rootDecides_touch (State.at_touch .refl (by decide) _) (by decide) _)

theorem execContinueReq_touch (h : Touch W a s) (hw : Part.sub [.clock, .registers, .memory, .sent, .requests, .completions,
    .admission, .journal, .links] W = true) (t : Nat) :
    ∀ u, execContinueReq t s = .next u → Touch W a u := by
  refine outTouch_step h hw ?_
  unfold execContinueReq
  exact outTouch_next (State.rootDecides_touch (State.at_touch .refl (by decide) _) (by decide) _)

theorem execPause_touch (h : Touch W a s) (hw : Part.sub [.clock, .registers, .memory, .sent, .requests, .completions, .admission,
    .journal, .links] W = true) (t : Nat) :
    ∀ u, execPause t s = .next u → Touch W a u := by
  refine outTouch_step h hw ?_
  unfold execPause
  exact outTouch_next (State.rootDecides_touch (State.at_touch .refl (by decide) _) (by decide) _)

theorem execResume_touch (h : Touch W a s) (hw : Part.sub [.clock, .registers, .memory, .sent, .requests, .completions, .admission,
    .journal, .links] W = true) (t : Nat) :
    ∀ u, execResume t s = .next u → Touch W a u := by
  refine outTouch_step h hw ?_
  unfold execResume
  exact outTouch_next (State.rootDecides_touch (State.at_touch .refl (by decide) _) (by decide) _)

theorem execCancel_touch (h : Touch W a s) (hw : Part.sub [.clock, .registers, .memory, .sent, .requests, .completions, .admission,
    .journal, .links] W = true) (t : Nat) :
    ∀ u, execCancel t s = .next u → Touch W a u := by
  refine outTouch_step h hw ?_
  unfold execCancel
  exact outTouch_next (State.rootDecides_touch (State.at_touch .refl (by decide) _) (by decide) _)

theorem execFork_touch (h : Touch W a s) (hw : Part.sub [.clock, .registers, .memory, .sent, .requests, .completions, .admission,
    .journal, .links] W = true) (t : Nat) :
    ∀ u, execFork t s = .next u → Touch W a u := by
  refine outTouch_step h hw ?_
  unfold execFork
  exact outTouch_next (State.rootDecides_touch (State.at_touch .refl (by decide) _) (by decide) _)

theorem execDeferExpire_touch (h : Touch W a s) (hw : Part.sub [.clock, .registers, .memory, .sent, .requests, .completions,
    .admission, .journal, .links] W = true) (t : Nat) :
    ∀ u, execDeferExpire t s = .next u → Touch W a u := by
  refine outTouch_step h hw ?_
  unfold execDeferExpire
  exact (by
      try dsimp -proj only
      split
      · exact outTouch_next (touch_ite (State.announce_touch (State.setDeferred_touch (State.at_touch .refl (by decide) _)
          (by decide) _) (by decide) _) (State.at_touch .refl (by decide) _))
      · exact outTouch_next (State.at_touch .refl (by decide) _))

theorem execTtlExpire_touch (h : Touch W a s) (hw : Part.sub [.clock, .requests, .admission] W = true) (t scope tag : Nat) :
    ∀ u, execTtlExpire t scope tag s = .next u → Touch W a u := by
  refine outTouch_step h hw ?_
  unfold execTtlExpire
  exact (by
      try dsimp -proj only
      split
      · exact (by
            try dsimp -proj only
            split
            · exact outTouch_ite (outTouch_next (touch_arrivals (State.setReq_touch (State.at_touch .refl (by decide) _) (by decide)
                _) (by decide) _)) (outTouch_next (State.at_touch .refl (by decide) _))
            · exact outTouch_next (State.at_touch .refl (by decide) _))
      · exact outTouch_next (State.at_touch .refl (by decide) _))

end Sys2Proof.Machine
end

