-- ==== Sys2Proof/Laws/FrameCorrect.lean ====
section
/-! SUPPORT. What each operation and each meaning of Machine/Correct.lean may change. -/

namespace Sys2Proof.Machine

variable {W : List Part} {a s : State}

theorem State.takeWins_touch (h : Touch W a s) (hw : Part.sub [.registers, .sent, .frame, .scrub, .records, .suspects, .free] W =
    true) (c A : Nat) (errs : List WordErr) (l : List Nat) :
    Touch W a (State.takeWins s c A errs l).1 := by
  induction l generalizing s with
  | nil => exact h
  | cons i l ih => exact ih (State.takePkts_touch h (Part.sub_trans (by decide) hw) ..)

theorem State.outBlks_touch (h : Touch W a s) (hw : Part.sub [.registers, .frame, .records] W = true) (c A : Nat) (st : Stream)
    (pkt0 base k : Nat) (bs : List Blk) : Touch W a (State.outBlks s c A st pkt0 base k bs).1 := by
  induction bs generalizing s k with
  | nil => exact h
  | cons b bs ih =>
    unfold State.outBlks
    dsimp only
    split
    · exact ih h _
    · exact ih (State.blkWide_touch h hw ..) _

theorem State.outWins_touch (h : Touch W a s) (hw : Part.sub [.registers, .frame, .records] W = true) (c A : Nat) (l : List Win) :
    Touch W a (State.outWins s c A l).1 := by
  induction l generalizing s with
  | nil => exact h
  | cons w l ih => exact ih (State.outBlks_touch h hw ..)

theorem touch_getD_map {α : Type} (o : Option α) (f : α → State) (hs : Touch W a s) (hf : ∀ x, o = some x → Touch W a (f x)) :
    Touch W a ((o.map f).getD s) := by
  cases o with
  | none => exact hs
  | some x => exact hf x rfl

theorem execCorrectionTask_touch (h : Touch W a s) (hw : Part.sub [.clock, .registers, .sent, .frame, .slots, .lanes, .scrub,
    .records, .suspects, .free] W = true) (t core slot : Nat)
    (errs : List WordErr) : ∀ u, execCorrectionTask t core slot errs s = .next u → Touch W a u := by
  have hw' {K : List Part} (hk : Part.sub K [.clock, .registers, .sent, .frame, .slots, .lanes, .scrub, .records, .suspects, .free]
    = true) : Part.sub K W = true := Part.sub_trans hk hw
  have h0 := State.at_touch h (hw' (by decide)) t
  unfold execCorrectionTask
  refine outTouch_ite ?_ (outTouch_next h0)
  split
  · extract_lets d A g T idx r s1 ws emin b s2 bf o s3 z sat lane
    have h1 : Touch W a s1 := State.takeWins_touch (State.mark_touch h0 (hw' (by decide)) ..) (hw' (by decide)) ..
    have h2 : Touch W a s2 := by
      refine touch_getD_map _ _ h1 (fun x hx => ?_)
      have e : b = some x := hx
      simp only [b] at e
      split at e
      · cases e; exact State.readSpd_touch h1 (hw' (by decide)) ..
      · cases e
    have h3 : Touch W a s3 := by
      simp only [s3, o]
      split
      · exact h2
      · exact State.outWins_touch h2 (hw' (by decide)) ..
    exact outTouch_ite (outTouch_next (State.merge_touch h3 (hw' (by decide)) ..))
      (outTouch_next (State.merge_touch h1 (hw' (by decide)) ..))
  · exact outTouch_next h0

theorem State.repInputs_touch (h : Touch W a s) (hw : Part.sub [.registers, .frame, .records] W = true) (c A desc pkt0 : Nat) (bs :
    List Blk) :
    Touch W a (State.repInputs s c A desc pkt0 bs).1 := by
  refine h.step hw ?_
  unfold State.repInputs
  try dsimp only
  exact State.blksWide_touch .refl (by decide) _ _ _ _ _ _ _

theorem State.repInputs_pair (h : Touch W a s) (hw : Part.sub [.registers, .frame, .records] W = true) (c A desc pkt0 : Nat) (bs :
    List Blk) {u y} (e : State.repInputs s c A desc pkt0 bs = (u, y)) :
    Touch W a u := by
  have := State.repInputs_touch h hw c A desc pkt0 bs
  rwa [e] at this

theorem REnv.serveHeld_touch {w : REnv} (h : Touch W a w.s) (hw : Part.sub [.registers, .sent, .frame, .lanes, .scrub, .degraded,
    .records, .suspects, .free] W = true) (c : Nat) (errs : List WordErr) (h0 : Held) :
    Touch W a (REnv.serveHeld w c errs h0).s := by
  refine h.step hw ?_
  unfold REnv.serveHeld
  try dsimp only
  exact touch_ite_by REnv.s (State.when_touch (State.inc_touch (State.merge_touch (State.repInputs_touch (State.takePkts_touch .refl
    (by decide) _ _ _ _ _ _) (by decide) _ _ _ _ _) (by decide) _ _ _ _) (by decide) _) _ _ (fun u hu => (State.degradeMark_touch hu
    (by decide) _ _ _))) (State.degradeMark_touch (State.inc_touch (State.merge_touch .refl (by decide) _ _ _ _) (by decide) _)
    (by decide) _ _ _)

theorem REnv.serveTask_touch {w : REnv} (h : Touch W a w.s) (hw : Part.sub [.registers, .memory, .sent, .frame, .packets, .lanes,
    .scrub, .degraded, .records, .suspects, .proxies, .taint, .links, .free] W = true) (c : Nat) (errs : List WordErr) (slot cost :
      Nat) :
    Touch W a (REnv.serveTask w c errs slot cost).s := by
  refine h.step hw ?_
  unfold REnv.serveTask
  try dsimp only
  exact (by
      try dsimp only
      split
      · try dsimp only
        exact touch_ite_by REnv.s (State.when_touch (State.inc_touch (State.runTask_touch .refl (by decide) _ _ _ _ _) (by decide)
          _) _ _ (fun u hu => (State.degradeMark_touch hu (by decide) _ _ _))) (State.degradeMark_touch (State.inc_touch
          (State.runTask_touch .refl (by decide) _ _ _ _ _) (by decide) _) (by decide) _ _ _)
      · try dsimp only
        exact .refl)

theorem REnv.serveSat_touch {w : REnv} (h : Touch W a w.s) (hw : Part.sub [.registers, .sent, .frame, .lanes, .degraded, .records]
    W = true) (c emin : Nat) (x : SatRec) :
    Touch W a (REnv.serveSat w c emin x).s := by
  refine h.step hw ?_
  unfold REnv.serveSat
  try dsimp only
  exact State.when_touch (State.add_touch (State.when_touch .refl _ _ (fun u hu => (State.merge_touch hu (by decide) _ _ _ _)))
    (by decide) _ _) _ _ (fun u1 hu1 => (State.degradeMark_touch (State.add_touch (State.add_touch hu1 (by decide) _ _) (by decide)
    _ _) (by decide) _ _ _))

theorem execRepairSlot_touch (h : Touch W a s) (hw : Part.sub [.clock, .registers, .memory, .sent, .frame, .slots, .packets,
    .lanes, .results, .scrub, .degraded, .repeats, .records, .suspects, .proxies, .taint, .links, .free] W = true) (t core slot :
      Nat) (cycles : List Nat)
    (errs : List WordErr) : ∀ u, execRepairSlot t core slot cycles errs s = .next u → Touch W a u := by
  have hw' {K : List Part} (hk : Part.sub K [.clock, .registers, .memory, .sent, .frame, .slots, .packets, .lanes, .results,
    .scrub, .degraded, .repeats, .records, .suspects, .proxies, .taint, .links, .free] = true) : Part.sub K W = true :=
      Part.sub_trans hk hw
  have h0 := State.at_touch h (hw' (by decide)) t
  unfold execRepairSlot
  refine outTouch_ite ?_ (outTouch_next h0)
  extract_lets left mine hs w1 ts w2 sats w3
  have h1 : Touch W a w1.s := touch_foldl_by REnv.s _ (State.mark_touch h0 (hw' (by decide)) _ _)
    (fun _ _ hu => REnv.serveHeld_touch hu (hw' (by decide)) ..)
  clear_value w1
  have h2 : Touch W a w2.s := touch_foldl_by REnv.s _ h1 (fun _ _ hu => REnv.serveTask_touch hu (hw' (by decide)) ..)
  clear_value w2
  have h3 : Touch W a w3.s := touch_foldl_by REnv.s _ h2 (fun _ _ hu => REnv.serveSat_touch hu (hw' (by decide)) ..)
  clear_value w3
  exact outTouch_next (touch_held_satRec_wideRep h3 (hw' (by decide)) _ _ _)

end Sys2Proof.Machine
end

