-- ==== Sys2Proof/Laws/FrameProgram.lean ====
section
/-! SUPPORT. What each operation and each meaning of Machine/Program.lean may change. -/

namespace Sys2Proof.Machine

variable {W : List Part} {a s : State}

theorem State.progEnd_touch (h : Touch W a s) (hw : Part.sub [.registers, .sent, .programming] W = true) (A result : Nat) :
    Touch W a (State.progEnd s A result) := by
  refine h.step hw ?_
  unfold State.progEnd
  exact State.evt_touch (State.setf_touch (touch_progQ .refl (by decide) _) (by decide) _ _) (by decide) _

theorem State.loadCount_touch (h : Touch W a s) (hw : Part.sub [.registers] W = true) (A : Nat) (F : Fld) :
    Touch W a (State.loadCount s A F) := by
  refine h.step hw ?_
  unfold State.loadCount
  exact State.when_touch .refl _ _ (fun u hu => (State.inc_touch hu (by decide) _))

theorem State.progFailedTile_touch (h : Touch W a s) (hw : Part.sub [.registers, .sent, .programming] W = true) (A : Nat) :
    Touch W a (State.progFailedTile s A) := by
  refine h.step hw ?_
  unfold State.progFailedTile
  exact State.loadCount_touch (State.progEnd_touch (State.setf_touch (State.setf_touch (State.setf_touch (State.setf_touch .refl
    (by decide) _ _) (by decide) _ _) (by decide) _ _) (by decide) _ _) (by decide) _ _) (by decide) _ _

theorem State.progQueue_touch (h : Touch W a s) (hw : Part.sub [.registers, .sent, .programming] W = true) (A : Nat) (erase : Bool)
    (src : Nat) :
    Touch W a (State.progQueue s A erase src) := by
  refine h.step hw ?_
  unfold State.progQueue
  exact touch_ite (State.setf_touch .refl (by decide) _ _) (touch_ite (State.progFailedTile_touch .refl (by decide) _) (touch_progQ
    (State.setf_touch (State.setf_touch .refl (by decide) _ _) (by decide) _ _) (by decide) _))

theorem State.wrProgram_touch (h : Touch W a s) (hw : Part.sub [.registers, .sent, .programming] W = true) (q : Requester) (arr src
    : Nat) :
    Touch W a (State.wrProgram s q arr src) := by
  refine h.step hw ?_
  unfold State.wrProgram
  exact State.guarded_touch .refl (by decide) _ _ _ _ _ (fun u hu => (State.progQueue_touch hu (by decide) _ _ _))

theorem execProgram_touch (h : Touch W a s) (hw : Part.sub [.clock, .registers, .sent, .programming] W = true) (t : Nat) (q :
    Requester) (arr src : Nat) :
    ∀ u, execProgram t q arr src s = .next u → Touch W a u := by
  refine outTouch_step h hw ?_
  unfold execProgram
  exact outTouch_next (State.wrProgram_touch (State.at_touch .refl (by decide) _) (by decide) _ _ _)

theorem State.wrErase_touch (h : Touch W a s) (hw : Part.sub [.registers, .sent, .programming] W = true) (q : Requester) (arr : Nat) :
    Touch W a (State.wrErase s q arr) := by
  refine h.step hw ?_
  unfold State.wrErase
  exact State.guarded_touch .refl (by decide) _ _ _ _ _ (fun u hu => (State.progQueue_touch hu (by decide) _ _ _))

theorem execErase_touch (h : Touch W a s) (hw : Part.sub [.clock, .registers, .sent, .programming] W = true) (t : Nat) (q :
    Requester) (arr : Nat) :
    ∀ u, execErase t q arr s = .next u → Touch W a u := by
  refine outTouch_step h hw ?_
  unfold execErase
  exact outTouch_next (State.wrErase_touch (State.at_touch .refl (by decide) _) (by decide) _ _)

theorem State.progAbort_touch (h : Touch W a s) (hw : Part.sub [.registers, .sent, .programming] W = true) (A : Nat) :
    Touch W a (State.progAbort s A) := by
  refine h.step hw ?_
  unfold State.progAbort
  exact (by
      try dsimp -proj only
      split
      · exact .refl
      · exact State.progEnd_touch (State.setf_touch (State.setf_touch (State.setf_touch .refl (by decide) _ _) (by decide) _ _)
          (by decide) _ _) (by decide) _ _)

theorem State.wrProgAbort_touch (h : Touch W a s) (hw : Part.sub [.registers, .sent, .programming] W = true) (q : Requester) (arr :
    Nat) :
    Touch W a (State.wrProgAbort s q arr) := by
  refine h.step hw ?_
  unfold State.wrProgAbort
  exact State.guarded_touch .refl (by decide) _ _ _ _ _ (fun u hu => (State.progAbort_touch hu (by decide) _))

theorem execProgAbort_touch (h : Touch W a s) (hw : Part.sub [.clock, .registers, .sent, .programming] W = true) (t : Nat) (q :
    Requester) (arr : Nat) :
    ∀ u, execProgAbort t q arr s = .next u → Touch W a u := by
  refine outTouch_step h hw ?_
  unfold execProgAbort
  exact outTouch_next (State.wrProgAbort_touch (State.at_touch .refl (by decide) _) (by decide) _ _)

theorem State.setCmd_touch (h : Touch W a s) (hw : Part.sub [.programming] W = true) (c : ProgCmd) :
    Touch W a (State.setCmd s c) := by
  refine h.step hw ?_
  unfold State.setCmd
  exact touch_progQ .refl (by decide) _

theorem execProgramStart_touch (h : Touch W a s) (hw : Part.sub [.clock, .registers, .sent, .programming] W = true) (t region : Nat) :
    ∀ u, execProgramStart t region s = .next u → Touch W a u := by
  refine outTouch_step h hw ?_
  unfold execProgramStart
  exact outTouch_ite (by
      try dsimp -proj only
      split
      · exact outTouch_next (State.at_touch .refl (by decide) _)
      · exact outTouch_ite (outTouch_next (State.setf_touch (State.setCmd_touch (State.at_touch .refl (by decide) _) (by decide) _)
          (by decide) _ _)) (outTouch_ite (outTouch_next (State.setf_touch (State.setf_touch (State.setCmd_touch (State.at_touch
          .refl (by decide) _) (by decide) _) (by decide) _ _) (by decide) _ _)) (outTouch_next (State.loadCount_touch
          (State.progEnd_touch (State.at_touch .refl (by decide) _) (by decide) _ _) (by decide) _ _))))
    (outTouch_next (State.at_touch .refl (by decide) _))

theorem State.heatChannels_touch (h : Touch W a s) (hw : Part.sub [.registers, .programming] W = true) (r : Nat) :
    Touch W a (State.heatChannels s r) := by
  refine h.step hw ?_
  unfold State.heatChannels
  exact touch_foldl _ .refl (fun u _ hu => (touch_ite (touch_ite (State.setf_touch (State.setCmd_touch hu (by decide) _) (by decide)
    _ _) (touch_ite (State.setf_touch (State.setCmd_touch hu (by decide) _) (by decide) _ _) hu)) hu))

theorem execProgResume_touch (h : Touch W a s) (hw : Part.sub [.clock, .registers, .programming] W = true) (t region : Nat) :
    ∀ u, execProgResume t region s = .next u → Touch W a u := by
  refine outTouch_step h hw ?_
  unfold execProgResume
  exact outTouch_next (State.when_touch (State.at_touch .refl (by decide) _) _ _ (fun u hu => (State.heatChannels_touch hu
    (by decide) _)))

theorem execProgDone_touch (h : Touch W a s) (hw : Part.sub [.clock, .registers, .memory, .sent, .frame, .programming,
    .configuration, .analog, .tracking, .records] W = true) (t arr stuck iterMax : Nat) (resid : List (Nat × Int)) :
    ∀ u, execProgDone t arr stuck iterMax resid s = .next u → Touch W a u := by
  refine outTouch_step h hw ?_
  unfold execProgDone
  exact (by
      try dsimp -proj only
      split
      · exact outTouch_next (State.at_touch .refl (by decide) _)
      · exact outTouch_ite (outTouch_ite (outTouch_next (State.loadCount_touch (State.progEnd_touch (State.raise_touch
          (State.setf_touch (State.setf_touch (State.setf_touch (State.setf_touch (State.at_touch .refl (by decide) _) (by decide) _
          _) (by decide) _ _) (by decide) _ _) (by decide) _ _) (by decide) _ _ _ _ _) (by decide) _ _) (by decide) _ _))
          (outTouch_next (State.loadCount_touch (State.progEnd_touch (State.setf_touch (State.setf_touch (State.setf_touch
          (State.setf_touch (State.setf_touch (State.setf_touch (State.write_touch (touch_cells_trkWin_trkPrev_cfgLoad
          (State.setf_touch (State.setf_touch (State.at_touch .refl (by decide) _) (by decide) _ _) (by decide) _ _) (by decide) _ _
          _ _) (by decide) _ _) (by decide) _ _) (by decide) _ _) (by decide) _ _) (by decide) _ _) (by decide) _ _) (by decide) _
          _) (by decide) _ _) (by decide) _ _))) (outTouch_next (State.at_touch .refl (by decide) _)))

theorem execEraseDone_touch (h : Touch W a s) (hw : Part.sub [.clock, .registers, .sent, .programming, .analog] W = true) (t arr :
    Nat) :
    ∀ u, execEraseDone t arr s = .next u → Touch W a u := by
  refine outTouch_step h hw ?_
  unfold execEraseDone
  exact (by
      try dsimp -proj only
      split
      · exact outTouch_next (State.at_touch .refl (by decide) _)
      · exact outTouch_ite (outTouch_next (State.progEnd_touch (touch_cells (State.setf_touch (State.setf_touch (State.at_touch
          .refl (by decide) _) (by decide) _ _) (by decide) _ _) (by decide) _) (by decide) _ _)) (outTouch_next (State.at_touch
          .refl (by decide) _)))

theorem State.commitDirect_touch (h : Touch W a s) (hw : Part.sub [.registers, .transactions] W = true) (key mask v : Nat) :
    Touch W a (State.commitDirect s key mask v) := by
  refine h.step hw ?_
  unfold State.commitDirect
  exact touch_txnOpen_txnPend (State.setReg_touch .refl (by decide) _ _) (by decide) _ _

theorem State.loadRecordCfg_touch (h : Touch W a s) (hw : Part.sub [.registers, .transactions] W = true) (A a0 : Nat) :
    Touch W a (State.loadRecordCfg s A a0) := by
  refine h.step hw ?_
  unfold State.loadRecordCfg
  exact touch_foldl _ (touch_foldl _ (State.commitDirect_touch .refl (by decide) _ _ _) (fun u _ hu => (State.commitDirect_touch hu
    (by decide) _ _ _))) (fun u1 _ hu1 => (State.commitDirect_touch hu1 (by decide) _ _ _))

theorem execProgConfigLoad_touch (h : Touch W a s) (hw : Part.sub [.clock, .registers, .transactions, .configuration] W = true) (t
    arr : Nat) :
    ∀ u, execProgConfigLoad t arr s = .next u → Touch W a u := by
  refine outTouch_step h hw ?_
  unfold execProgConfigLoad
  exact (by
      try dsimp -proj only
      split
      · exact outTouch_next (State.at_touch .refl (by decide) _)
      · exact outTouch_next (State.when_touch (touch_cfgLoad (State.at_touch .refl (by decide) _) (by decide) _) _ _ (fun u hu =>
          (State.loadRecordCfg_touch hu (by decide) _ _))))

theorem State.wrValidate_touch (h : Touch W a s) (hw : Part.sub [.registers, .sent, .configuration] W = true) (q : Requester) (arr
    : Nat) :
    Touch W a (State.wrValidate s q arr) := by
  refine h.step hw ?_
  unfold State.wrValidate
  exact State.guarded_touch .refl (by decide) _ _ _ _ _ (fun u hu => (touch_valReq hu (by decide) _))

theorem execValidate_touch (h : Touch W a s) (hw : Part.sub [.clock, .registers, .sent, .configuration] W = true) (t : Nat) (q :
    Requester) (arr : Nat) :
    ∀ u, execValidate t q arr s = .next u → Touch W a u := by
  refine outTouch_step h hw ?_
  unfold execValidate
  exact outTouch_next (State.wrValidate_touch (State.at_touch .refl (by decide) _) (by decide) _ _)

theorem execFactValidSet_touch (h : Touch W a s) (hw : Part.sub [.clock, .registers, .sent, .configuration] W = true) (t arr : Nat) :
    ∀ u, execFactValidSet t arr s = .next u → Touch W a u := by
  refine outTouch_step h hw ?_
  unfold execFactValidSet
  exact (by
      try dsimp -proj only
      split
      · exact outTouch_next (State.at_touch .refl (by decide) _)
      · exact outTouch_ite (outTouch_ite (outTouch_next (State.setf_touch (touch_valReq (State.at_touch .refl (by decide) _)
          (by decide) _) (by decide) _ _)) (outTouch_next (State.evt_touch (State.setf_touch (State.setf_touch (touch_valReq
          (State.at_touch .refl (by decide) _) (by decide) _) (by decide) _ _) (by decide) _ _) (by decide) _))) (outTouch_next
          (State.at_touch .refl (by decide) _)))

theorem State.wrForceFlag_touch (h : Touch W a s) (hw : Part.sub [.registers, .sent] W = true) (q : Requester) (arr : Nat) :
    Touch W a (State.wrForceFlag s q arr) := by
  refine h.step hw ?_
  unfold State.wrForceFlag
  exact State.guarded_touch .refl (by decide) _ _ _ _ _ (fun u hu => (State.flag_touch hu (by decide) _ _ _ _))

theorem execForceFlag_touch (h : Touch W a s) (hw : Part.sub [.clock, .registers, .sent] W = true) (t : Nat) (q : Requester) (arr :
    Nat) :
    ∀ u, execForceFlag t q arr s = .next u → Touch W a u := by
  refine outTouch_step h hw ?_
  unfold execForceFlag
  exact outTouch_next (State.wrForceFlag_touch (State.at_touch .refl (by decide) _) (by decide) _ _)

theorem State.wrGTrack_touch (h : Touch W a s) (hw : Part.sub [.registers, .sent, .tracking] W = true) (q : Requester) (arr val :
    Nat) :
    Touch W a (State.wrGTrack s q arr val) := by
  refine h.step hw ?_
  unfold State.wrGTrack
  exact State.guarded_touch .refl (by decide) _ _ _ _ _ (fun u hu => (touch_trkPrev_trkNext (State.setf_touch (State.setf_touch hu
    (by decide) _ _) (by decide) _ _) (by decide) _ _))

theorem execGTrackWrite_touch (h : Touch W a s) (hw : Part.sub [.clock, .registers, .sent, .tracking] W = true) (t : Nat) (q :
    Requester) (arr val : Nat) :
    ∀ u, execGTrackWrite t q arr val s = .next u → Touch W a u := by
  refine outTouch_step h hw ?_
  unfold execGTrackWrite
  exact outTouch_next (State.wrGTrack_touch (State.at_touch .refl (by decide) _) (by decide) _ _ _)

theorem State.wrTrim_touch (h : Touch W a s) (hw : Part.sub [.registers, .sent, .transactions, .calibration] W = true) (q :
    Requester) (tile off gain range : Nat) :
    Touch W a (State.wrTrim s q tile off gain range) := by
  refine h.step hw ?_
  unfold State.wrTrim
  exact State.guarded_touch .refl (by decide) _ _ _ _ _ (fun u hu => (State.when_touch (touch_calPrev_swTrim (State.setf_touch
    (State.setf_touch (State.setf_touch hu (by decide) _ _) (by decide) _ _) (by decide) _ _) (by decide) _ _) _ _ (fun u1 hu1 =>
    (State.shadow_touch hu1 (by decide) _ _ _ _ _))))

theorem execTrimWrite_touch (h : Touch W a s) (hw : Part.sub [.clock, .registers, .sent, .transactions, .calibration] W = true) (t
    : Nat) (q : Requester) (tile off gain range : Nat) :
    ∀ u, execTrimWrite t q tile off gain range s = .next u → Touch W a u := by
  refine outTouch_step h hw ?_
  unfold execTrimWrite
  exact outTouch_next (State.wrTrim_touch (State.at_touch .refl (by decide) _) (by decide) _ _ _ _ _)

theorem State.wrAccClr_touch (h : Touch W a s) (hw : Part.sub [.registers, .sent, .lanes] W = true) (q : Requester) (tile mask : Nat) :
    Touch W a (State.wrAccClr s q tile mask) := by
  refine h.step hw ?_
  unfold State.wrAccClr
  exact State.guarded_touch .refl (by decide) _ _ _ _ _ (fun u hu => (touch_ite (State.reject_touch hu (by decide) _ _ _)
    (State.clearGroups_touch hu (by decide) _ _)))

theorem execAccClr_touch (h : Touch W a s) (hw : Part.sub [.clock, .registers, .sent, .lanes] W = true) (t : Nat) (q : Requester)
    (tile mask : Nat) :
    ∀ u, execAccClr t q tile mask s = .next u → Touch W a u := by
  refine outTouch_step h hw ?_
  unfold execAccClr
  exact outTouch_next (State.wrAccClr_touch (State.at_touch .refl (by decide) _) (by decide) _ _ _)

theorem execSpdDataRead_touch (h : Touch W a s) (hw : Part.sub [.clock, .registers, .sent, .readback, .frame, .scrub, .records,
    .suspects, .free] W = true) (t : Nat) (q : Requester) (core : Nat) (err : Option WordErr) :
    ∀ u, execSpdDataRead t q core err s = .next u → Touch W a u := by
  refine outTouch_step h hw ?_
  unfold execSpdDataRead
  exact (by
      try dsimp -proj only
      split
      · exact outTouch_next (touch_lastRead (State.gate_some (State.at_touch .refl (by decide) _) (by decide) _ _ (by assumption))
          (by decide) _)
      · exact outTouch_ite (outTouch_next (touch_lastRead (State.at_touch .refl (by decide) _) (by decide) _)) (outTouch_next
          (touch_lastRead (State.setf_touch (State.readSpd_touch (State.at_touch .refl (by decide) _) (by decide) _ _ _ _ _)
          (by decide) _ _) (by decide) _)))

theorem State.wrSpdData_touch (h : Touch W a s) (hw : Part.sub [.registers, .memory, .sent, .scrub] W = true) (q : Requester) (core
    : Nat) (val : Word) :
    Touch W a (State.wrSpdData s q core val) := by
  refine h.step hw ?_
  unfold State.wrSpdData
  exact State.guarded_touch .refl (by decide) _ _ _ _ _ (fun u hu => (touch_ite (State.reject_touch hu (by decide) _ _ _)
    (State.writeSpd_touch hu (by decide) _ _ _ _)))

theorem execSpdDataWrite_touch (h : Touch W a s) (hw : Part.sub [.clock, .registers, .memory, .sent, .scrub] W = true) (t : Nat) (q
    : Requester) (core : Nat) (val : Word) :
    ∀ u, execSpdDataWrite t q core val s = .next u → Touch W a u := by
  refine outTouch_step h hw ?_
  unfold execSpdDataWrite
  exact outTouch_next (State.wrSpdData_touch (State.at_touch .refl (by decide) _) (by decide) _ _ _)

end Sys2Proof.Machine
end

