-- ==== Sys2Proof/Laws/FrameFrame.lean ====
section
/-! SUPPORT. What each operation and each meaning of Machine/Frame.lean may change. -/

namespace Sys2Proof.Machine

variable {W : List Part} {a s : State}

theorem execPausePass_touch (h : Touch W a s) (hw : Part.sub [.clock, .registers, .frame] W = true) (t : Nat) :
    ∀ u, execPausePass t s = .next u → Touch W a u := by
  refine outTouch_step h hw ?_
  unfold execPausePass
  exact outTouch_ite (outTouch_next (touch_pav (State.add_touch (State.at_touch .refl (by decide) _) (by decide) _ _) (by decide)
    _)) (outTouch_next (State.at_touch .refl (by decide) _))

theorem execWakePass_touch (h : Touch W a s) (hw : Part.sub [.clock, .registers] W = true) (t tile : Nat) :
    ∀ u, execWakePass t tile s = .next u → Touch W a u := by
  refine outTouch_step h hw ?_
  unfold execWakePass
  exact outTouch_ite (outTouch_next (State.setf_touch (State.inc_touch (State.at_touch .refl (by decide) _) (by decide) _)
    (by decide) _ _)) (outTouch_next (State.at_touch .refl (by decide) _))

theorem State.hold_touch (h : Touch W a s) (hw : Part.sub [.registers, .frame] W = true) (core slot : Nat) :
    Touch W a (State.hold s core slot) := by
  refine h.step hw ?_
  unfold State.hold
  exact touch_pav (State.when_touch .refl _ _ (fun u hu => (State.inc_touch hu (by decide) _))) (by decide) _

theorem execWaitTest_touch (h : Touch W a s) (hw : Part.sub [.clock, .registers, .memory, .sent, .frame, .slots, .scrub, .staged] W
    = true) (t core slot : Nat) :
    ∀ u, execWaitTest t core slot s = .next u → Touch W a u := by
  refine outTouch_step h hw ?_
  unfold execWaitTest
  refine outTouch_ite (outTouch_next (touch_pav (State.inc_touch (State.at_touch .refl (by decide) _) (by decide) _) (by decide) _)) ?_
  exact outTouch_ite (outTouch_ite (outTouch_next (touch_pav (State.mark_touch (State.moveStaged_touch (State.at_touch .refl
    (by decide) _) (by decide) _) (by decide) _ _) (by decide) _)) (outTouch_ite (outTouch_next (State.moveStaged_touch
    (State.at_touch .refl (by decide) _) (by decide) _)) (outTouch_next (State.hold_touch (State.moveStaged_touch (State.at_touch
    .refl (by decide) _) (by decide) _) (by decide) _ _)))) (outTouch_next (State.at_touch .refl (by decide) _))

theorem execWaitTimeout_touch (h : Touch W a s) (hw : Part.sub [.clock, .registers, .sent, .frame, .records] W = true) (t : Nat) :
    ∀ u, execWaitTimeout t s = .next u → Touch W a u := by
  refine outTouch_step h hw ?_
  unfold execWaitTimeout
  exact (by
      try dsimp -proj only
      split
      · exact outTouch_ite (outTouch_next (State.at_touch .refl (by decide) _)) (outTouch_next (touch_pav (State.raise_touch
          (State.evt_touch (State.setf_touch (State.setf_touch (State.at_touch .refl (by decide) _) (by decide) _ _) (by decide) _
          _) (by decide) _) (by decide) _ _ _ _ _) (by decide) _))
      · exact outTouch_next (State.at_touch .refl (by decide) _))

theorem execHeldSend_touch (h : Touch W a s) (hw : Part.sub [.clock, .registers, .sent, .frame, .records, .links, .quadrille] W =
    true) (t : Nat) :
    ∀ u, execHeldSend t s = .next u → Touch W a u := by
  refine outTouch_step h hw ?_
  unfold execHeldSend
  exact (by
      try dsimp -proj only
      split
      · exact outTouch_next (touch_ite (touch_qdr (State.evt_touch (touch_pav (State.at_touch .refl (by decide) _) (by decide) _)
          (by decide) _) (by decide) _) (State.sendQdr_touch (State.evt_touch (touch_pav (State.at_touch .refl (by decide) _)
          (by decide) _) (by decide) _) (by decide) _ _))
      · exact outTouch_next (State.at_touch .refl (by decide) _))

theorem State.judgeCal_touch (h : Touch W a s) (hw : Part.sub [.registers, .sent, .frame, .calibration, .records] W = true) (T k :
    Nat) (m : CalMeas) (sign : Int) :
    Touch W a (State.judgeCal s T k m sign) := by
  refine h.step hw ?_
  unfold State.judgeCal
  exact (by
      try dsimp -proj only
      split
      · exact touch_ite (touch_calPrev .refl (by decide) _) (touch_ite (State.when_touch (touch_calPrev_trimNext (State.setf_touch
          .refl (by decide) _ _) (by decide) _ _) _ _ (fun u hu => (State.raise_touch (State.evt_touch (State.setf_touch hu
          (by decide) _ _) (by decide) _) (by decide) _ _ _ _ _))) (touch_calPrev (State.inc_touch (State.inc_touch .refl
          (by decide) _) (by decide) _) (by decide) _))
      · exact touch_calPrev (State.setf_touch .refl (by decide) _ _) (by decide) _)

theorem State.calPair_touch (h : Touch W a s) (hw : Part.sub [.registers, .sent, .frame, .calibration, .records] W = true) (T g :
    Nat) :
    Touch W a (State.calPair s T g) := by
  refine h.step hw ?_
  unfold State.calPair
  exact touch_ite (by
      try dsimp -proj only
      split
      · exact State.inc_touch .refl (by decide) _
      · exact State.judgeCal_touch (touch_calCycle .refl (by decide) _) (by decide) _ _ _ _) .refl

theorem State.calSpare_touch (h : Touch W a s) (hw : Part.sub [.registers, .sent, .frame, .calibration, .records] W = true) (T g :
    Nat) :
    Touch W a (State.calSpare s T g) := by
  refine h.step hw ?_
  unfold State.calSpare
  exact touch_ite (State.judgeCal_touch .refl (by decide) _ _ _ _) .refl

theorem State.calibrate_touch (h : Touch W a s) (hw : Part.sub [.registers, .sent, .frame, .calibration, .records] W = true) :
    Touch W a (State.calibrate s) := by
  refine h.step hw ?_
  unfold State.calibrate
  exact touch_ite (touch_calSum (touch_foldl _ .refl (fun u _ hu => (touch_foldl _ hu (fun u1 _ hu1 => (State.calPair_touch hu1
    (by decide) _ _))))) (by decide) _) (touch_calSum_calCycle (touch_foldl _ .refl (fun u2 _ hu2 => (State.calSpare_touch hu2
    (by decide) _ _))) (by decide) _ _)

theorem State.degradedRecord_touch (h : Touch W a s) (hw : Part.sub [.frame, .records] W = true) :
    Touch W a (State.degradedRecord s) := by
  refine h.step hw ?_
  unfold State.degradedRecord
  exact State.when_touch .refl _ _ (fun u hu => (State.raise_touch hu (by decide) _ _ _ _ _))

theorem execLocalFrameEnd_touch (h : Touch W a s) (hw : Part.sub [.clock, .registers, .sent, .frame, .calibration, .temperature,
    .records] W = true) (t : Nat) :
    ∀ u, execLocalFrameEnd t s = .next u → Touch W a u := by
  refine outTouch_step h hw ?_
  unfold execLocalFrameEnd
  exact outTouch_ite (outTouch_next (State.at_touch .refl (by decide) _)) (outTouch_next (State.calibrate_touch
    (State.degradedRecord_touch (touch_pav_arrTemp (State.at_touch .refl (by decide) _) (by decide) _ _) (by decide) ) (by decide)
    ))

theorem execIdleInterval_touch (h : Touch W a s) (hw : Part.sub [.clock, .registers, .sent, .frame] W = true) (t : Nat) :
    ∀ u, execIdleInterval t s = .next u → Touch W a u := by
  refine outTouch_step h hw ?_
  unfold execIdleInterval
  exact outTouch_ite (outTouch_next (State.evt_touch (touch_pav (State.inc_touch (State.at_touch .refl (by decide) _) (by decide) _)
    (by decide) _) (by decide) _)) (outTouch_next (State.at_touch .refl (by decide) _))

end Sys2Proof.Machine
end

