-- ==== Sys2Proof/Laws/FrameSensors.lean ====
section
/-! SUPPORT. What each operation and each meaning of Machine/Sensors.lean may change. -/

namespace Sys2Proof.Machine

variable {W : List Part} {a s : State}

theorem State.markBroken_touch (h : Touch W a s) (hw : Part.sub [.registers, .sent] W = true) (x how : Nat) :
    Touch W a (State.markBroken s x how) := by
  refine h.step hw ?_
  unfold State.markBroken
  exact State.evt_touch (State.setfi_touch (State.setf_touch (State.setf_touch .refl (by decide) _ _) (by decide) _ _) (by decide) _
    _) (by decide) _

theorem State.thermCrit_touch (h : Touch W a s) (hw : Part.sub [.registers, .frame, .records, .heat] W = true) (x : Nat) (T : Int) :
    Touch W a (State.thermCrit s x T) := by
  refine h.step hw ?_
  unfold State.thermCrit
  exact touch_heat (State.setfi_touch (State.setf_touch (State.setf_touch (touch_ite (State.raise_touch .refl (by decide) _ _ _ _ _)
    (touch_ite (State.raise_touch .refl (by decide) _ _ _ _ _) (State.raise_touch .refl (by decide) _ _ _ _ _))) (by decide) _ _)
    (by decide) _ _) (by decide) _ _) (by decide) _

theorem State.judgeCrit_touch (h : Touch W a s) (hw : Part.sub [.registers, .sent, .frame, .records, .heat] W = true) (x : Nat) (T
    : Int) :
    Touch W a (State.judgeCrit s x T) := by
  refine h.step hw ?_
  unfold State.judgeCrit
  exact touch_ite .refl (touch_ite (State.thermCrit_touch .refl (by decide) _ _) (State.evt_touch .refl (by decide) _))

theorem State.setFast_touch (h : Touch W a s) (hw : Part.sub [.registers, .sent] W = true) (x : Nat) :
    Touch W a (State.setFast s x) := by
  refine h.step hw ?_
  unfold State.setFast
  exact State.setf_touch (State.when_touch .refl _ _ (fun u hu => (State.evt_touch hu (by decide) _))) (by decide) _ _

theorem State.sample_touch (h : Touch W a s) (hw : Part.sub [.registers, .sent, .frame, .records, .heat] W = true) (reads : List
    (Nat × Int)) (x : Nat) :
    Touch W a (State.sample s reads x) := by
  refine h.step hw ?_
  unfold State.sample
  exact State.when_touch (State.setFast_touch (touch_heat (State.setf_touch (State.when_touch (State.when_touch (by
      try dsimp -proj only
      split
      · exact State.setfi_touch .refl (by decide) _ _
      · exact .refl) _ _ (fun u hu => (State.markBroken_touch hu (by decide) _ _))) _ _ (fun u1 hu1 => (State.when_touch
    (State.setfi_touch hu1 (by decide) _ _) _ _ (fun u2 hu2 => (State.setfi_touch hu2 (by decide) _ _))))) (by decide) _ _)
    (by decide) _) (by decide) _) _ _ (fun u3 hu3 => (State.judgeCrit_touch hu3 (by decide) _ _))

theorem State.request_touch (h : Touch W a s) (hw : Part.sub [.registers, .frame] W = true) :
    Touch W a (State.request s) := by
  refine h.step hw ?_
  unfold State.request
  exact touch_ite .refl (touch_pav (State.setf_touch .refl (by decide) _ _) (by decide) _)

theorem State.levelT_touch (h : Touch W a s) (hw : Part.sub [.registers, .sent, .frame] W = true) :
    Touch W a (State.levelT s) := by
  refine h.step hw ?_
  unfold State.levelT
  exact State.request_touch (State.setfi_touch (State.setf_touch (State.setf_touch (State.when_touch .refl _ _ (fun u hu =>
    (State.evt_touch hu (by decide) _))) (by decide) _ _) (by decide) _ _) (by decide) _ _) (by decide)

theorem State.sampleAll_touch (h : Touch W a s) (hw : Part.sub [.registers, .sent, .frame, .programming, .records, .heat] W = true)
    (reads : List (Nat × Int)) (xs : List Nat) :
    Touch W a (State.sampleAll s reads xs) := by
  refine h.step hw ?_
  unfold State.sampleAll
  exact touch_foldl _ (State.levelT_touch (touch_foldl _ .refl (fun u _ hu => (State.sample_touch hu (by decide) _ _))) (by decide)
    ) (fun u1 _ hu1 => (State.heatChannels_touch hu1 (by decide) _))

theorem execSensorSample_touch (h : Touch W a s) (hw : Part.sub [.clock, .registers, .sent, .frame, .programming, .records, .heat]
    W = true) (t : Nat) (reads : List (Nat × Int)) :
    ∀ u, execSensorSample t reads s = .next u → Touch W a u := by
  refine outTouch_step h hw ?_
  unfold execSensorSample
  exact outTouch_ite (outTouch_next (State.sampleAll_touch (State.at_touch .refl (by decide) _) (by decide) _ _)) (outTouch_next
    (State.at_touch .refl (by decide) _))

theorem State.crossCheck_touch (h : Touch W a s) (hw : Part.sub [.registers, .sent] W = true) :
    Touch W a (State.crossCheck s) := by
  refine h.step hw ?_
  unfold State.crossCheck
  exact State.setf_touch (State.inc_touch (touch_foldl _ .refl (fun u _ hu => (State.markBroken_touch hu (by decide) _ _)))
    (by decide) _) (by decide) _ _

theorem State.wrXchk_touch (h : Touch W a s) (hw : Part.sub [.registers, .sent] W = true) (q : Requester) :
    Touch W a (State.wrXchk s q) := by
  refine h.step hw ?_
  unfold State.wrXchk
  exact State.guarded_touch .refl (by decide) _ _ _ _ _ (fun u hu => (State.crossCheck_touch hu (by decide) ))

theorem execXchkStart_touch (h : Touch W a s) (hw : Part.sub [.clock, .registers, .sent] W = true) (t : Nat) (q : Requester) :
    ∀ u, execXchkStart t q s = .next u → Touch W a u := by
  refine outTouch_step h hw ?_
  unfold execXchkStart
  exact outTouch_next (State.wrXchk_touch (State.at_touch .refl (by decide) _) (by decide) _)

theorem State.setLevelP_touch (h : Touch W a s) (hw : Part.sub [.registers, .frame] W = true) (lv : Nat) :
    Touch W a (State.setLevelP s lv) := by
  refine h.step hw ?_
  unfold State.setLevelP
  exact State.request_touch (State.setf_touch .refl (by decide) _ _) (by decide)

theorem State.powerUpdate_touch (h : Touch W a s) (hw : Part.sub [.registers, .sent, .frame, .heat] W = true) (c a2 : Nat) :
    Touch W a (State.powerUpdate s c a2) := by
  refine h.step hw ?_
  unfold State.powerUpdate
  exact touch_ite (touch_heat (State.evt_touch (State.setLevelP_touch (State.when_touch (State.setf_touch (State.setf_touch
    (State.setf_touch (touch_heat .refl (by decide) _) (by decide) _ _) (by decide) _ _) (by decide) _ _) _ _ (fun u hu =>
    (State.evt_touch hu (by decide) _))) (by decide) _) (by decide) _) (by decide) _) (touch_ite (touch_heat (State.setLevelP_touch
    (State.when_touch (State.setf_touch (State.setf_touch (State.setf_touch (touch_heat .refl (by decide) _) (by decide) _ _)
    (by decide) _ _) (by decide) _ _) _ _ (fun u hu => (State.evt_touch hu (by decide) _))) (by decide) _) (by decide) _)
    (State.when_touch (State.setf_touch (State.setf_touch (State.setf_touch (touch_heat .refl (by decide) _) (by decide) _ _)
    (by decide) _ _) (by decide) _ _) _ _ (fun u hu => (State.evt_touch hu (by decide) _))))

theorem State.convert_touch (h : Touch W a s) (hw : Part.sub [.registers, .sent, .frame, .heat] W = true) (n code a3 : Nat) :
    Touch W a (State.convert s n code a3) := by
  refine h.step hw ?_
  unfold State.convert
  exact touch_ite (touch_heat (State.when_touch (State.setf_touch (State.setf_touch (State.setf_touch (State.setf_touch
    (State.setf_touch .refl (by decide) _ _) (by decide) _ _) (by decide) _ _) (by decide) _ _) (by decide) _ _) _ _ (fun u hu =>
    (State.evt_touch hu (by decide) _))) (by decide) _) (touch_ite (State.powerUpdate_touch (State.when_touch (State.setf_touch
    (State.setf_touch (State.setf_touch (State.setf_touch (State.setf_touch .refl (by decide) _ _) (by decide) _ _) (by decide) _ _)
    (by decide) _ _) (by decide) _ _) _ _ (fun u hu => (State.evt_touch hu (by decide) _))) (by decide) _ _) (State.when_touch
    (State.setf_touch (State.setf_touch (State.setf_touch (State.setf_touch (State.setf_touch .refl (by decide) _ _) (by decide) _
    _) (by decide) _ _) (by decide) _ _) (by decide) _ _) _ _ (fun u hu => (State.evt_touch hu (by decide) _))))

theorem State.scanOn_touch (h : Touch W a s) (hw : Part.sub [.registers, .sent, .frame, .heat] W = true) (codes : List (Nat × Nat))
    (start n : Nat) :
    Touch W a (State.scanOn s codes start n) := by
  induction n generalizing s with
  | zero => exact h
  | succ n ih =>
    unfold State.scanOn
    dsimp only
    split
    · split
      · exact h
      · split
        · exact h
        · exact ih (touch_ite (State.setf_touch (State.setf_touch (touch_heat (State.convert_touch h (Part.sub_trans (by decide) hw)
              ..) (Part.sub_trans (by decide) hw) _) (Part.sub_trans (by decide) hw) ..) (Part.sub_trans (by decide) hw) ..)
              (touch_heat (State.convert_touch h (Part.sub_trans (by decide) hw) ..) (Part.sub_trans (by decide) hw) _))
    · exact h

theorem execHkScan_touch (h : Touch W a s) (hw : Part.sub [.clock, .registers, .sent, .frame, .heat] W = true) (t : Nat) (codes :
    List (Nat × Nat)) :
    ∀ u, execHkScan t codes s = .next u → Touch W a u := by
  refine outTouch_step h hw ?_
  unfold execHkScan
  exact outTouch_ite (outTouch_next (State.at_touch .refl (by decide) _)) (outTouch_next (State.scanOn_touch (touch_ite
    (State.at_touch .refl (by decide) _) (touch_heat (State.setf_touch (State.at_touch .refl (by decide) _) (by decide) _ _)
    (by decide) _)) (by decide) _ _ _))

theorem State.wrTrkClr_touch (h : Touch W a s) (hw : Part.sub [.registers, .sent] W = true) (q : Requester) (ch : Nat) :
    Touch W a (State.wrTrkClr s q ch) := by
  refine h.step hw ?_
  unfold State.wrTrkClr
  exact touch_ite (State.guarded_touch .refl (by decide) _ _ _ _ _ (fun u hu => (State.setf_touch (State.setf_touch hu (by decide) _
    _) (by decide) _ _))) .refl

theorem execTrkClr_touch (h : Touch W a s) (hw : Part.sub [.clock, .registers, .sent] W = true) (t : Nat) (q : Requester) (ch : Nat) :
    ∀ u, execTrkClr t q ch s = .next u → Touch W a u := by
  refine outTouch_step h hw ?_
  unfold execTrkClr
  exact outTouch_next (State.wrTrkClr_touch (State.at_touch .refl (by decide) _) (by decide) _ _)

end Sys2Proof.Machine
end

