-- ==== Sys2Proof/Laws/FrameServe.lean ====
section
/-! SUPPORT. What each operation and each meaning of Machine/Serve.lean may change. -/

namespace Sys2Proof.Machine

variable {W : List Part} {a s : State}

theorem State.countReqs_touch (h : Touch W a s) (hw : Part.sub [.registers] W = true) (F : Fld) (p : Req → Bool) :
    Touch W a (State.countReqs s F p) := by
  refine h.step hw ?_
  unfold State.countReqs
  exact State.setf_touch .refl (by decide) _ _

theorem State.countLive_touch (h : Touch W a s) (hw : Part.sub [.registers] W = true) :
    Touch W a (State.countLive s) := by
  refine h.step hw ?_
  unfold State.countLive
  exact touch_foldl _ (State.countReqs_touch (State.countReqs_touch (State.countReqs_touch .refl (by decide) _ _) (by decide) _ _)
    (by decide) _ _) (fun u _ hu => (State.countReqs_touch hu (by decide) _ _))

theorem State.dropPages_touch (h : Touch W a s) (hw : Part.sub [.registers, .memory, .taint] W = true) (r : Req) :
    Touch W a (State.dropPages s r) := by
  refine h.step hw ?_
  unfold State.dropPages
  exact touch_foldl _ .refl (fun u _ hu => (State.dropRef_touch hu (by decide) _))

theorem State.endReq_touch (h : Touch W a s) (hw : Part.sub [.registers, .memory, .requests, .taint] W = true) (r : Req) (cause :
    Nat) :
    Touch W a (State.endReq s r cause) := by
  refine h.step hw ?_
  unfold State.endReq
  exact State.setReq_touch (State.dropPages_touch .refl (by decide) _) (by decide) _

theorem State.finish_touch (h : Touch W a s) (hw : Part.sub [.registers, .memory, .completions, .journal, .links] W = true) (r :
    Req) (typ code : Nat) :
    Touch W a (State.finish s r typ code) := by
  refine h.step hw ?_
  unfold State.finish
  exact touch_ite (touch_posts (State.journal_touch .refl (by decide) _ _ _ _ _ _ _ _) (by decide) _) .refl

theorem State.takeHits_touch (h : Touch W a s) (hw : Part.sub [.memory, .requests, .prefixes] W = true) (r : Req) (hits : List Nat) :
    Touch W a (State.takeHits s r hits) := by
  unfold State.takeHits
  refine State.setReq_touch (touch_foldl_by Prod.fst _ h (fun u x hu => ?_)) (Part.sub_trans (by decide) hw) _
  dsimp only
  split
  · exact hu
  · exact touch_prefixes (touch_foldl _ hu (fun v y hv => State.addRef_touch hv (Part.sub_trans (by decide) hw) _)) (Part.sub_trans
    (by decide) hw) _

theorem State.dropPrefix_touch (h : Touch W a s) (hw : Part.sub [.registers, .memory, .prefixes, .taint] W = true) (p : Prefix) :
    Touch W a (State.dropPrefix s p) := by
  refine h.step hw ?_
  unfold State.dropPrefix
  exact touch_foldl _ (touch_prefixes .refl (by decide) _) (fun u _ hu => (State.dropRef_touch hu (by decide) _))

theorem State.restartReq_touch (h : Touch W a s) (hw : Part.sub [.memory, .requests, .prefixes] W = true) (r : Req) (hits : List Nat) :
    Touch W a (State.restartReq s r hits) := by
  refine h.step hw ?_
  unfold State.restartReq
  exact State.takeHits_touch .refl (by decide) _ _

theorem State.rebuild_touch (h : Touch W a s) (hw : Part.sub [.registers, .memory, .sent, .requests, .prefixes, .taint] W = true)
    (r : Req) :
    Touch W a (State.rebuild s r) := by
  refine h.step hw ?_
  unfold State.rebuild
  exact State.evt_touch (State.inc_touch (by
      try dsimp -proj only
      split
      · exact touch_ite (State.setReq_touch (State.restartReq_touch (State.dropPages_touch (touch_foldl _ .refl (fun u _ hu =>
          (State.dropPrefix_touch hu (by decide) _))) (by decide) _) (by decide) _ _) (by decide) _) (State.restartReq_touch
          (State.dropPages_touch (touch_foldl _ .refl (fun u _ hu => (State.dropPrefix_touch hu (by decide) _))) (by decide) _)
          (by decide) _ _)
      · exact State.restartReq_touch (State.dropPages_touch (touch_foldl _ .refl (fun u _ hu => (State.dropPrefix_touch hu
          (by decide) _))) (by decide) _) (by decide) _ _)
    (by decide) _) (by decide) _

theorem State.resumeReq_touch (h : Touch W a s) (hw : Part.sub [.registers, .memory, .sent, .requests, .prefixes, .taint] W = true)
    (r : Req) (mb : Nat) (more : Option Cmd) :
    Touch W a (State.resumeReq s r mb more) := by
  refine h.step hw ?_
  unfold State.resumeReq
  exact touch_ite (by
      try dsimp -proj only
      split
      · exact State.setReq_touch (State.rebuild_touch .refl (by decide) _) (by decide) _
      · exact State.rebuild_touch .refl (by decide) _) (State.setReq_touch .refl (by decide) _)

theorem State.applyDecision_touch (h : Touch W a s) (hw : Part.sub [.registers, .memory, .sent, .requests, .completions, .prefixes,
    .taint, .journal, .links] W = true) (x : Decision) :
    Touch W a (State.applyDecision s x) := by
  refine h.step hw ?_
  unfold State.applyDecision
  exact touch_ite .refl (touch_ite (by
      try dsimp -proj only
      split
      · exact touch_ite (State.evt_touch (State.finish_touch (State.setReq_touch (State.dropPages_touch .refl (by decide) _)
          (by decide) _) (by decide) _ _ _) (by decide) _) .refl
      · exact .refl) (touch_ite (State.takeHits_touch (touch_reqs_nextOrder .refl (by decide) _ _) (by decide) _ _) (by
      try dsimp -proj only
      split
      · exact .refl
      · exact touch_ite (touch_ite (State.resumeReq_touch .refl (by decide) _ _ _) (touch_ite (State.setReq_touch .refl (by decide)
          _) .refl)) (touch_ite (touch_ite .refl (State.setReq_touch .refl (by decide) _)) (touch_ite (touch_ite
          (State.resumeReq_touch .refl (by decide) _ _ _) (touch_ite (State.restartReq_touch (State.setChain_touch .refl (by decide)
          _) (by decide) _ _) .refl)) (touch_ite (touch_ite .refl (touch_ite (State.finish_touch (State.setReq_touch .refl
          (by decide) _) (by decide) _ _ _) (State.endReq_touch .refl (by decide) _ _))) (touch_ite (touch_reqs_nextOrder
          (touch_foldl _ .refl (fun u _ hu => (State.addRef_touch hu (by decide) _))) (by decide) _ _) .refl)))))))

theorem State.applyDecisions_touch (h : Touch W a s) (hw : Part.sub [.registers, .memory, .sent, .requests, .completions,
    .admission, .prefixes, .taint, .journal, .links] W = true) :
    Touch W a (State.applyDecisions s) := by
  refine h.step hw ?_
  unfold State.applyDecisions
  exact touch_foldl _ (touch_evicts (touch_foldl _ (touch_decisions .refl (by decide) _) (fun u _ hu => (State.applyDecision_touch
    hu (by decide) _))) (by decide) _) (fun u1 _ hu1 => (State.dropPrefix_touch hu1 (by decide) _))

theorem State.freeTentative_touch (h : Touch W a s) (hw : Part.sub [.registers, .memory, .requests, .taint] W = true) (r : Req) :
    Touch W a (State.freeTentative s r) := by
  refine h.step hw ?_
  unfold State.freeTentative
  exact State.setReq_touch (touch_foldl _ .refl (fun u _ hu => (State.freeNow_touch hu (by decide) _))) (by decide) _

theorem State.stepEnd_touch (h : Touch W a s) (hw : Part.sub [.registers, .memory, .sent, .requests, .taint] W = true) (r : Req) (x
    : StepRun) :
    Touch W a (State.stepEnd s r x) := by
  refine h.step hw ?_
  unfold State.stepEnd
  exact touch_ite (State.freeTentative_touch .refl (by decide) _) (by
      try dsimp -proj only
      split
      · exact State.setReq_touch .refl (by decide) _
      · exact (by
            try dsimp -proj only
            split
            · exact touch_ite (State.evt_touch (State.endReq_touch (State.freeTentative_touch (State.when_touch .refl _ _ (fun u hu
                => (State.add_touch (State.add_touch hu (by decide) _ _) (by decide) _ _))) (by decide) _) (by decide) _ _)
                (by decide) _) (touch_ite (touch_ite (State.setReq_touch (State.freeTentative_touch (State.when_touch .refl _ _ (fun
                u hu => (State.add_touch (State.add_touch hu (by decide) _ _) (by decide) _ _))) (by decide) _) (by decide) _)
                (State.endReq_touch (State.freeTentative_touch (State.when_touch .refl _ _ (fun u hu => (State.add_touch
                (State.add_touch hu (by decide) _ _) (by decide) _ _))) (by decide) _) (by decide) _ _)) (State.freeTentative_touch
                (State.when_touch .refl _ _ (fun u hu => (State.add_touch (State.add_touch hu (by decide) _ _) (by decide) _ _)))
                (by decide) _))
            · exact State.freeTentative_touch (State.when_touch .refl _ _ (fun u hu => (State.add_touch (State.add_touch hu
                (by decide) _ _) (by decide) _ _))) (by decide) _))

theorem State.horizons_touch (h : Touch W a s) (hw : Part.sub [.registers, .memory, .sent, .requests, .taint] W = true) :
    Touch W a (State.horizons s) := by
  refine h.step hw ?_
  unfold State.horizons
  exact State.quarFree_touch (touch_foldl _ .refl (fun u _ hu => (by
      try dsimp -proj only
      split
      · exact touch_ite (State.stepEnd_touch hu (by decide) _ _) hu
      · exact hu))) (by decide)

theorem State.depths_touch (h : Touch W a s) (hw : Part.sub [.registers, .sent, .requests] W = true) :
    Touch W a (State.depths s) := by
  refine h.step hw ?_
  unfold State.depths
  exact touch_foldl _ .refl (fun u _ hu => (touch_ite (State.evt_touch (State.inc_touch (State.setReq_touch hu (by decide) _)
    (by decide) _) (by decide) _) (touch_ite (State.inc_touch (State.setReq_touch hu (by decide) _) (by decide) _) hu)))

theorem State.releaseStep_touch (h : Touch W a s) (hw : Part.sub [.registers, .memory, .requests, .completions, .journal, .links] W
    = true) (scope tag : Nat) (x : Sampled) :
    Touch W a (State.releaseStep s scope tag x) := by
  refine h.step hw ?_
  unfold State.releaseStep
  exact (by
      try dsimp -proj only
      split
      · exact .refl
      · exact touch_ite (touch_posts (State.add_touch (State.add_touch (State.journal_touch (State.setReq_touch .refl (by decide) _)
          (by decide) _ _ _ _ _ _ _ _) (by decide) _ _) (by decide) _ _) (by decide) _) (State.setReq_touch .refl (by decide) _))

theorem State.afterRelease_touch (h : Touch W a s) (hw : Part.sub [.registers, .memory, .requests, .completions, .journal, .links]
    W = true) (scope tag : Nat) :
    Touch W a (State.afterRelease s scope tag) := by
  refine h.step hw ?_
  unfold State.afterRelease
  exact (by
      try dsimp -proj only
      split
      · exact .refl
      · exact (by
            try dsimp -proj only
            split
            · exact touch_ite (touch_ite (State.finish_touch (State.setReq_touch .refl (by decide) _) (by decide) _ _ _) (touch_reqs
                (State.finish_touch (State.setReq_touch .refl (by decide) _) (by decide) _ _ _) (by decide) _)) (touch_ite
                (State.finish_touch (State.setReq_touch .refl (by decide) _) (by decide) _ _ _) .refl)
            · exact .refl))

theorem State.release_touch (h : Touch W a s) (hw : Part.sub [.registers, .memory, .requests, .completions, .journal, .links] W =
    true) :
    Touch W a (State.release s) := by
  refine h.step hw ?_
  unfold State.release
  exact touch_foldl _ .refl (fun u _ hu => (State.afterRelease_touch (touch_foldl _ hu (fun u1 _ hu1 => (State.releaseStep_touch hu1
    (by decide) _ _ _))) (by decide) _ _))

theorem State.registerReq_touch (h : Touch W a s) (hw : Part.sub [.memory, .requests, .prefixes] W = true) (scope tag hor n : Nat) :
    Touch W a (State.registerReq s scope tag hor n) := by
  induction n generalizing s with
  | zero => exact h
  | succ n ih =>
    unfold State.registerReq
    split
    · exact h
    · split
      · exact ih (touch_ite (State.setReq_touch h (Part.sub_trans (by decide) hw) _) (touch_prefixes_nextHandle (touch_foldl _
        (State.setReq_touch h (Part.sub_trans (by decide) hw) _)
          (fun u x hu => State.addRef_touch hu (Part.sub_trans (by decide) hw) _)) (Part.sub_trans (by decide) hw) _ _))
      · exact h

theorem State.registerAll_touch (h : Touch W a s) (hw : Part.sub [.memory, .requests, .prefixes] W = true) :
    Touch W a (State.registerAll s) := by
  refine h.step hw ?_
  unfold State.registerAll
  exact (by
      try dsimp -proj only
      split
      · exact .refl
      · exact touch_foldl _ .refl (fun u _ hu => (by
            try dsimp -proj only
            split
            · exact State.registerReq_touch hu (by decide) _ _ _ _
            · exact hu)))

theorem State.evict_touch (h : Touch W a s) (hw : Part.sub [.registers, .requests, .links] W = true) :
    Touch W a (State.evict s) := by
  refine h.step hw ?_
  unfold State.evict
  exact touch_ite (touch_ite .refl (State.toAll_touch (State.add_touch (touch_evicts .refl (by decide) _) (by decide) _ _)
    (by decide) _)) .refl

theorem State.cowPage_some (h : Touch W a s) (hw : Part.sub [.registers, .memory, .pages, .taint] W = true) (r : Req) (x : Nat ×
    Nat × Nat)
    {z : State × Req} (e : s.cowPage r x = some z) : Touch W a z.1 := by
  have ht := State.allocPage_touch h (Part.sub_trans (by decide) hw) false 1
  unfold State.cowPage at e
  split at e
  · cases e
  · rename_i e'; rw [e'] at ht
    cases e
    exact State.dropRef_touch (touch_cow ht (Part.sub_trans (by decide) hw) _) (Part.sub_trans (by decide) hw) _

theorem State.stepPages_some (h : Touch W a s) (hw : Part.sub [.registers, .memory, .pages, .taint] W = true) (r : Req) (l : List
    (Nat × Nat))
    {z : State × Req} (e : s.stepPages r l = some z) : Touch W a z.1 := by
  induction l generalizing s r with
  | nil => cases e; exact h
  | cons x l ih =>
    have ht := State.allocPage_touch h (Part.sub_trans (by decide) hw) false 1
    unfold State.stepPages at e
    split at e
    · split at e
      · split at e
        · rename_i e'
          exact ih (State.cowPage_some h (Part.sub_trans (by decide) hw) _ _ e') _ e
        · cases e
      · exact ih h _ e
    · split at e
      · rename_i e'; rw [e'] at ht
        exact ih ht _ e
      · cases e

theorem Fit.take_touch {w : Fit} (h : Touch W a w.s) (hw : Part.sub [.registers, .memory, .sent, .requests, .pages, .taint] W =
    true) (r : Req) : Touch W a (w.take r).s := by
  unfold Fit.take
  refine touch_ite_by Fit.s (State.evt_touch (State.inc_touch h (Part.sub_trans (by decide) hw) _) (Part.sub_trans (by decide) hw)
    _) ?_
  split
  · exact State.evt_touch (State.inc_touch h (Part.sub_trans (by decide) hw) _) (Part.sub_trans (by decide) hw) _
  · refine touch_ite_by Fit.s h (touch_ite_by Fit.s (State.setReq_touch h (Part.sub_trans (by decide) hw) _) ?_)
    refine touch_ite_by Fit.s (State.inc_touch h (Part.sub_trans (by decide) hw) _) ?_
    split
    · exact State.evt_touch (State.inc_touch h (Part.sub_trans (by decide) hw) _) (Part.sub_trans (by decide) hw) _
    · rename_i e
      exact State.taintReq_touch (State.setReq_touch (State.stepPages_some h (Part.sub_trans (by decide) hw) _ _ e)
        (Part.sub_trans (by decide) hw) _) (Part.sub_trans (by decide) hw) _

theorem State.fitAll_touch (h : Touch W a s) (hw : Part.sub [.registers, .memory, .sent, .requests, .pages, .taint] W = true) :
    Touch W a (State.fitAll s) := by
  refine h.step hw ?_
  unfold State.fitAll
  exact touch_foldl _ (touch_foldl_by Fit.s _ .refl (fun u _ hu => (by
      try dsimp -proj only
      split
      · exact Fit.take_touch hu (by decide) _
      · exact hu))) (fun u1 _ hu1 => (State.add_touch (State.setf_touch hu1 (by decide) _ _) (by decide) _ _))

theorem State.chooseVariant_touch (h : Touch W a s) (hw : Part.sub [.registers, .transactions] W = true) :
    Touch W a (State.chooseVariant s) := by
  refine h.step hw ?_
  unfold State.chooseVariant
  exact touch_ite (State.setPend_touch .refl (by decide) _) .refl

theorem execSampleDraw_touch (h : Touch W a s) (hw : Part.sub [.clock, .registers, .memory, .requests, .sampling, .journal, .links]
    W = true) (t slot : Nat) (draft : Option Nat) (far : List (Nat × Nat × List Nat)) :
    ∀ u, execSampleDraw t slot draft far s = .next u → Touch W a u := by
  refine outTouch_step h hw ?_
  unfold execSampleDraw
  exact outTouch_ite (outTouch_next (State.at_touch .refl (by decide) _)) (by
      try dsimp -proj only
      split
      · exact (by
            try dsimp -proj only
            split
            · exact (by
                  try dsimp -proj only
                  split
                  · exact outTouch_next (touch_draftTok (touch_summaries (State.at_touch .refl (by decide) _) (by decide) _)
                      (by decide) _)
                  · exact outTouch_next (touch_summaries (State.at_touch .refl (by decide) _) (by decide) _))
            · exact outTouch_next (touch_summaries (State.at_touch .refl (by decide) _) (by decide) _))
      · exact (by
            try dsimp -proj only
            split
            · exact outTouch_next (touch_summaries (State.at_touch .refl (by decide) _) (by decide) _)
            · exact (by
                  try dsimp -proj only
                  split
                  · exact outTouch_next (touch_summaries (State.at_touch .refl (by decide) _) (by decide) _)
                  · exact outTouch_ite (outTouch_next (touch_summaries (State.at_touch .refl (by decide) _) (by decide) _))
                      (outTouch_next (State.toAll_touch (State.toAll_touch (State.takeCount_touch (State.takeSampled_touch
                      (touch_summaries (State.at_touch .refl (by decide) _) (by decide) _) (by decide) _ _ _ _ _ _) (by decide) _ _
                      _) (by decide) _) (by decide) _)))))

theorem State.postNext_touch (h : Touch W a s) (hw : Part.sub [.registers, .memory, .sent, .requests, .completions, .journal,
    .links] W = true) (typ : Nat) :
    Touch W a (State.postNext s typ) := by
  refine h.step hw ?_
  unfold State.postNext
  exact (by
      try dsimp -proj only
      split
      · exact .refl
      · exact State.post_touch (by
            try dsimp -proj only
            split
            · exact State.toAll_touch (State.markPosted_touch (touch_posts .refl (by decide) _) (by decide) _ _ _) (by decide) _
            · exact touch_posts .refl (by decide) _) (by decide) _)

theorem execAccept_touch (h : Touch W a s) (hw : Part.sub [.clock, .registers, .memory, .sent, .requests, .completions, .journal,
    .links] W = true) (t : Nat) :
    ∀ u, execAccept t s = .next u → Touch W a u := by
  refine outTouch_step h hw ?_
  unfold execAccept
  exact outTouch_next (State.postNext_touch (State.at_touch .refl (by decide) _) (by decide) _)

theorem execTokens_touch (h : Touch W a s) (hw : Part.sub [.clock, .registers, .memory, .sent, .requests, .completions, .journal,
    .links] W = true) (t : Nat) :
    ∀ u, execTokens t s = .next u → Touch W a u := by
  refine outTouch_step h hw ?_
  unfold execTokens
  exact outTouch_next (State.postNext_touch (State.at_touch .refl (by decide) _) (by decide) _)

theorem execDoneReq_touch (h : Touch W a s) (hw : Part.sub [.clock, .registers, .memory, .sent, .requests, .completions, .journal,
    .links] W = true) (t : Nat) :
    ∀ u, execDoneReq t s = .next u → Touch W a u := by
  refine outTouch_step h hw ?_
  unfold execDoneReq
  exact outTouch_next (State.postNext_touch (State.at_touch .refl (by decide) _) (by decide) _)

theorem execExpired_touch (h : Touch W a s) (hw : Part.sub [.clock, .registers, .memory, .sent, .requests, .completions, .journal,
    .links] W = true) (t : Nat) :
    ∀ u, execExpired t s = .next u → Touch W a u := by
  refine outTouch_step h hw ?_
  unfold execExpired
  exact outTouch_next (State.postNext_touch (State.at_touch .refl (by decide) _) (by decide) _)

theorem State.pauseReq_touch (h : Touch W a s) (hw : Part.sub [.registers, .requests] W = true) (r : Req) (ms : Nat) (idle : Bool) :
    Touch W a (State.pauseReq s r ms idle) := by
  refine h.step hw ?_
  unfold State.pauseReq
  exact State.countLive_touch (State.setReq_touch .refl (by decide) _) (by decide)

theorem execPauseEffect_touch (h : Touch W a s) (hw : Part.sub [.clock, .registers, .requests] W = true) (t scope tag : Nat) :
    ∀ u, execPauseEffect t scope tag s = .next u → Touch W a u := by
  refine outTouch_step h hw ?_
  unfold execPauseEffect
  exact (by
      try dsimp -proj only
      split
      · exact (by
            try dsimp -proj only
            split
            · exact outTouch_ite (outTouch_next (State.pauseReq_touch (State.at_touch .refl (by decide) _) (by decide) _ _ _))
                (outTouch_next (State.at_touch .refl (by decide) _))
            · exact outTouch_next (State.at_touch .refl (by decide) _))
      · exact outTouch_next (State.at_touch .refl (by decide) _))

theorem execIdlePause_touch (h : Touch W a s) (hw : Part.sub [.clock, .registers, .requests] W = true) (t scope tag : Nat) :
    ∀ u, execIdlePause t scope tag s = .next u → Touch W a u := by
  refine outTouch_step h hw ?_
  unfold execIdlePause
  exact (by
      try dsimp -proj only
      split
      · exact outTouch_ite (outTouch_next (State.pauseReq_touch (State.at_touch .refl (by decide) _) (by decide) _ _ _))
          (outTouch_next (State.at_touch .refl (by decide) _))
      · exact outTouch_next (State.at_touch .refl (by decide) _))

theorem execResumeDone_touch (h : Touch W a s) (hw : Part.sub [.clock, .registers, .requests] W = true) (t scope tag : Nat) :
    ∀ u, execResumeDone t scope tag s = .next u → Touch W a u := by
  refine outTouch_step h hw ?_
  unfold execResumeDone
  exact (by
      try dsimp -proj only
      split
      · exact outTouch_ite (outTouch_next (State.countLive_touch (State.setReq_touch (State.at_touch .refl (by decide) _)
          (by decide) _) (by decide) )) (outTouch_next (State.at_touch .refl (by decide) _))
      · exact outTouch_next (State.at_touch .refl (by decide) _))

theorem State.tellDegraded_touch (h : Touch W a s) (hw : Part.sub [.requests, .links] W = true) :
    Touch W a (State.tellDegraded s ) := by
  have hm {u : State} (hu : Touch W a u) (r : Req) : Touch W a (match r.step with
    | none => u
    | some x =>
      if u.isHome r then u.takeDegraded r.scope r.tag (x.frame + 3)
      else { u with ctrlQ := u.ctrlQ ++ [(r.home, .degraded r.scope r.tag (x.frame + 3))] }) := by
    split
    · exact hu
    · exact touch_ite (State.takeDegraded_touch hu (Part.sub_trans (by decide) hw) ..) (touch_ctrlQ hu (Part.sub_trans (by decide)
      hw) _)
  unfold State.tellDegraded
  refine touch_foldl _ h (fun u b hu => touch_ite (touch_foldl _ hu (fun v r hv => touch_ite (hm hv r) hv)) ?_)
  split
  · exact hm hu _
  · exact hu

theorem State.report_touch (h : Touch W a s) (hw : Part.sub [.admission, .links] W = true) :
    Touch W a (State.report s) := by
  refine h.step hw ?_
  unfold State.report
  exact (by
      try dsimp -proj only
      split
      · exact .refl
      · exact touch_ite (touch_freeRep .refl (by decide) _) (touch_ctrlQ .refl (by decide) _))

theorem State.deliverAll_touch (h : Touch W a s) (hw : Part.sub [.registers, .memory, .journal, .links] W = true) :
    Touch W a (State.deliverAll s) := by
  refine h.step hw ?_
  unfold State.deliverAll
  exact touch_foldl _ (touch_delivered .refl (by decide) _) (fun u _ hu => (State.journal_touch hu (by decide) _ _ _ _ _ _ _ _))

theorem State.rebuilds_touch (h : Touch W a s) (hw : Part.sub [.registers, .memory, .sent, .requests, .prefixes, .taint] W = true) :
    Touch W a (State.rebuilds s) := by
  refine h.step hw ?_
  unfold State.rebuilds
  exact touch_foldl _ .refl (fun u _ hu => (State.when_touch hu _ _ (fun u1 hu1 => (State.rebuild_touch hu1 (by decide) _))))

theorem State.snap_touch (h : Touch W a s) (hw : Part.sub [.journal, .snapshots] W = true) :
    Touch W a (State.snap s) := by
  refine h.step hw ?_
  unfold State.snap
  exact touch_snaps_decLog .refl (by decide) _ _

theorem State.badOpcodes_touch (h : Touch W a s) (hw : Part.sub [.registers, .memory, .sent, .requests, .completions, .admission,
    .journal, .links] W = true) :
    Touch W a (State.badOpcodes s) := by
  refine h.step hw ?_
  unfold State.badOpcodes
  exact touch_ite (touch_foldl _ .refl (fun u _ hu => (State.announce_touch (touch_arrivals hu (by decide) _) (by decide) _))) .refl

theorem State.serveTick_touch (h : Touch W a s) (hw : Part.sub [.registers, .memory, .sent, .transactions, .requests, .completions,
    .admission, .prefixes, .pages, .taint, .journal, .snapshots, .links] W = true) :
    Touch W a (State.serveTick s) := by
  refine h.step hw ?_
  unfold State.serveTick
  exact State.countLive_touch (State.chooseVariant_touch (touch_reqs (State.fitAll_touch (State.evict_touch (State.badOpcodes_touch
    (State.when_touch (State.report_touch (State.registerAll_touch (State.jFreeSettled_touch (State.release_touch
    (State.deliverAll_touch (State.depths_touch (State.horizons_touch (State.rebuilds_touch (State.applyDecisions_touch
    (State.snap_touch .refl (by decide) ) (by decide) ) (by decide) ) (by decide) ) (by decide) ) (by decide) ) (by decide) )
    (by decide) ) (by decide) ) (by decide) ) _ _ (fun u hu => (State.retest_touch hu (by decide) ))) (by decide) ) (by decide) )
    (by decide) ) (by decide) _) (by decide) ) (by decide)

theorem State.rejectFwd_touch (h : Touch W a s) (hw : Part.sub [.registers, .memory, .sent, .requests, .completions, .admission] W
    = true) (code : Nat) (sel : Cmd → Bool) :
    Touch W a (State.rejectFwd s code sel) := by
  refine h.step hw ?_
  unfold State.rejectFwd
  exact touch_foldl _ (touch_fwd .refl (by decide) _) (fun u _ hu => (State.post_touch hu (by decide) _))

end Sys2Proof.Machine
end

