-- ==== Sys2Proof/Laws/FrameRecovery.lean ====
section
/-! SUPPORT. What each operation and each meaning of Machine/Recovery.lean may change. -/

namespace Sys2Proof.Machine

variable {W : List Part} {a s : State}

theorem State.putPatches_touch (h : Touch W a s) (hw : Part.sub [.registers] W = true) (ps : List Nat) :
    Touch W a (State.putPatches s ps) := by
  refine h.step hw ?_
  unfold State.putPatches
  exact touch_foldl _ .refl (fun u _ hu => (by
      try dsimp -proj only
      split
      · exact State.setf_touch (State.setf_touch hu (by decide) _ _) (by decide) _ _
      · exact State.setf_touch hu (by decide) _ _))

theorem State.showTree_touch (h : Touch W a s) (hw : Part.sub [.registers] W = true) (parent depth : Nat) :
    Touch W a (State.showTree s parent depth) := by
  refine h.step hw ?_
  unfold State.showTree
  exact State.refreshUse_touch (State.setf_touch (State.setf_touch (State.setf_touch (State.setf_touch (State.setf_touch
    (State.setf_touch .refl (by decide) _ _) (by decide) _ _) (by decide) _ _) (by decide) _ _) (by decide) _ _) (by decide) _ _)
    (by decide)

theorem State.loseMember_touch (h : Touch W a s) (hw : Part.sub [.registers, .admission, .quadrille] W = true) (l : Nat) :
    Touch W a (State.loseMember s l) := by
  refine h.step hw ?_
  unfold State.loseMember
  exact (by
      try dsimp -proj only
      split
      · exact .refl
      · exact touch_ite (State.showTree_touch (State.setf_touch (State.setf_touch (touch_ite (touch_fwd_undecided (State.when_touch
          (touch_qdr .refl (by decide) _) _ _ (fun u hu => (State.setf_touch hu (by decide) _ _))) (by decide) _ _)
          (State.when_touch (touch_qdr .refl (by decide) _) _ _ (fun u hu => (State.setf_touch hu (by decide) _ _)))) (by decide) _
          _) (by decide) _ _) (by decide) _ _) (touch_ite (State.showTree_touch (State.setf_touch (State.setf_touch (touch_ite
          (touch_fwd_undecided (State.when_touch (touch_qdr .refl (by decide) _) _ _ (fun u hu => (State.setf_touch hu (by decide) _
          _))) (by decide) _ _) (State.when_touch (touch_qdr .refl (by decide) _) _ _ (fun u hu => (State.setf_touch hu (by decide)
          _ _)))) (by decide) _ _) (by decide) _ _) (by decide) _ _) (State.showTree_touch (State.setf_touch (State.setf_touch
          (touch_ite (touch_fwd_undecided (State.when_touch (touch_qdr .refl (by decide) _) _ _ (fun u hu => (State.setf_touch hu
          (by decide) _ _))) (by decide) _ _) (State.when_touch (touch_qdr .refl (by decide) _) _ _ (fun u hu => (State.setf_touch
          hu (by decide) _ _)))) (by decide) _ _) (by decide) _ _) (by decide) _ _)))

theorem State.undoTaint_touch (h : Touch W a s) (hw : Part.sub [.registers, .memory] W = true) (x : Taint) :
    Touch W a (State.undoTaint s x) := by
  refine h.step hw ?_
  unfold State.undoTaint
  exact touch_foldl _ .refl (fun u _ hu => (touch_ite (State.setPage_touch hu (by decide) _ _ _ _) (touch_ite (State.setPage_touch
    hu (by decide) _ _ _ _) (touch_ite (State.setPage_touch hu (by decide) _ _ _ _) hu))))

theorem State.rewindChain_touch (h : Touch W a s) (hw : Part.sub [.registers, .memory, .journal, .links] W = true) (c : Chain) (r :
    Nat) :
    Touch W a (State.rewindChain s c r) := by
  refine h.step hw ?_
  unfold State.rewindChain
  exact touch_ite .refl (touch_foldl _ (touch_foldl _ (State.putUnits_touch (State.setChain_touch .refl (by decide) _) (by decide) _
    _ _ _) (fun u _ hu => (State.jHeader_touch hu (by decide) _ _))) (fun u1 _ hu1 => (State.jMirror_touch hu1 (by decide) _ _)))

theorem State.recount_touch (h : Touch W a s) (hw : Part.sub [.registers, .memory] W = true) (ps : List Nat) :
    Touch W a (State.recount s ps) := by
  refine h.step hw ?_
  unfold State.recount
  exact touch_foldl _ .refl (fun u _ hu => (touch_ite (touch_ite (State.setPage_touch hu (by decide) _ _ _ _) hu)
    (State.setPage_touch hu (by decide) _ _ _ _)))

theorem State.rewindReqs_touch (h : Touch W a s) (hw : Part.sub [.registers, .memory, .requests, .prefixes, .pages, .taint,
    .snapshots] W = true) (r : Nat) :
    Touch W a (State.rewindReqs s r) := by
  have hw' {K : List Part} (hk : Part.sub K [.registers, .memory, .requests, .prefixes, .pages, .taint, .snapshots] = true) :
    Part.sub K W = true := Part.sub_trans hk hw
  unfold State.rewindReqs
  extract_lets ts touched s1 s2
  have h2 : Touch W a s2 := touch_moving_cow_taint (touch_foldl _ h (fun u _ hu => State.undoTaint_touch hu (hw' (by decide)) _))
    (hw' (by decide)) _ _ _
  clear_value s2
  split
  · exact State.recount_touch h2 (hw' (by decide)) _
  · exact State.recount_touch (touch_reqs_prefixes_snaps h2 (hw' (by decide)) _ _ _) (hw' (by decide)) _

theorem State.replay_touch (h : Touch W a s) (hw : Part.sub [.registers, .memory, .requests, .completions, .admission, .taint,
    .journal] W = true) (r sAt : Nat) :
    Touch W a (State.replay s r sAt) := by
  refine h.step hw ?_
  unfold State.replay
  exact State.jCount_touch (touch_ite (touch_arrivals (touch_reqs_posts_decisions_chains_decLog (touch_foldl _ .refl (fun u _ hu =>
    (State.dropPages_touch hu (by decide) _))) (by decide) _ _ _ _ _) (by decide) _) (touch_undecided
    (touch_reqs_posts_decisions_chains_decLog (touch_foldl _ .refl (fun u _ hu => (State.dropPages_touch hu (by decide) _)))
    (by decide) _ _ _ _ _) (by decide) _)) (by decide)

theorem State.loseKv_touch (h : Touch W a s) (hw : Part.sub [.registers, .memory, .sent, .requests, .pages, .links] W = true) (r :
    Nat) :
    Touch W a (State.loseKv s r) := by
  refine h.step hw ?_
  unfold State.loseKv
  exact touch_foldl _ (touch_kvFail .refl (by decide) _) (fun u _ hu => (State.pageLost_touch hu (by decide) _))

theorem State.restore_touch (h : Touch W a s) (hw : Part.sub [.registers, .memory, .sent, .results, .degraded, .requests,
    .completions, .admission, .prefixes, .sampling, .pages, .taint, .journal, .snapshots, .staged, .links] W = true) (r sAt : Nat) :
    Touch W a (State.restore s r sAt) := by
  refine h.step hw ?_
  unfold State.restore
  exact State.countLive_touch (touch_held_satRec_capture_degrade_evicts_summaries_draftTok_fill_fillNext_staged (State.loseKv_touch
    (State.replay_touch (touch_foldl _ (State.rewindReqs_touch .refl (by decide) _) (fun u _ hu => (State.rewindChain_touch hu
    (by decide) _ _))) (by decide) _ _) (by decide) _) (by decide) _ _ _ _ _ _ _ _ _ _) (by decide)

theorem State.jobFail_touch (h : Touch W a s) (hw : Part.sub [.registers, .memory, .sent, .frame, .requests, .completions,
    .journal, .links, .quadrille, .membership] W = true) :
    Touch W a (State.jobFail s) := by
  refine h.step hw ?_
  unfold State.jobFail
  exact touch_ite .refl (touch_pav_qdr_failSolo (State.setf_touch (State.setf_touch (touch_foldl _ (State.evt_touch (State.inc_touch
    (State.setf_touch .refl (by decide) _ _) (by decide) _) (by decide) _) (fun u _ hu => (touch_ite (State.finish_touch
    (State.setReq_touch hu (by decide) _) (by decide) _ _ _) hu))) (by decide) _ _) (by decide) _ _) (by decide) _ _ _)

theorem State.copyChain_touch (h : Touch W a s) (hw : Part.sub [.registers, .memory, .journal] W = true) (scope tag : Nat) (bs :
    List Nat) :
    Touch W a (State.copyChain s scope tag bs) := by
  refine h.step hw ?_
  unfold State.copyChain
  exact touch_foldl _ (State.putUnits_touch (State.setChain_touch .refl (by decide) _) (by decide) _ _ _ _) (fun u _ hu =>
    (State.jHeader_touch hu (by decide) _ _))

theorem State.adopt_touch (h : Touch W a s) (hw : Part.sub [.registers, .memory, .sent, .requests, .journal] W = true) (l : Nat) :
    Touch W a (State.adopt s l) := by
  refine h.step hw ?_
  unfold State.adopt
  exact touch_ite (State.evt_touch (State.setf_touch (State.setf_touch (touch_foldl _ .refl (fun u _ hu => (State.setReq_touch
    (State.copyChain_touch hu (by decide) _ _ _) (by decide) _))) (by decide) _ _) (by decide) _ _) (by decide) _) (touch_reqs .refl
    (by decide) _)

theorem State.bindAdopted_touch (h : Touch W a s) (hw : Part.sub [.registers, .memory, .sent, .requests, .completions] W = true)
    (pair : Nat) :
    Touch W a (State.bindAdopted s pair) := by
  refine h.step hw ?_
  unfold State.bindAdopted
  exact touch_ite (touch_foldl _ (State.setf_touch (State.setf_touch .refl (by decide) _ _) (by decide) _ _) (fun u _ hu =>
    (touch_ite (touch_foldl _ (State.setReq_touch hu (by decide) _) (fun u1 _ hu1 => (State.post_touch hu1 (by decide) _))) hu)))
    (State.setf_touch (State.setf_touch .refl (by decide) _ _) (by decide) _ _)

theorem State.rollTxns_touch (h : Touch W a s) (hw : Part.sub [.registers, .sent, .transactions, .doors] W = true) :
    Touch W a (State.rollTxns s) := by
  refine h.step hw ?_
  unfold State.rollTxns
  exact State.setPend_touch (touch_foldl _ .refl (fun u _ hu => (State.endTxn_touch hu (by decide) _ _ _))) (by decide) _

theorem State.sufferLoss_touch (h : Touch W a s) (hw : Part.sub [.registers, .memory, .sent, .frame, .requests, .completions,
    .journal, .links, .quadrille, .membership] W = true) (l : Nat) (late : Bool) :
    Touch W a (State.sufferLoss s l late) := by
  refine h.step hw ?_
  unfold State.sufferLoss
  exact (by
      try dsimp -proj only
      split
      · exact .refl
      · exact touch_ite (touch_qdr .refl (by decide) _) (touch_ite .refl (touch_ite (State.jobFail_touch .refl (by decide) )
          (touch_qdr .refl (by decide) _))))

theorem State.ownPatches_touch (h : Touch W a s) (hw : Part.sub [.quadrille] W = true) (x : ErrRec) :
    Touch W a (State.ownPatches s x) := by
  refine h.step hw ?_
  unfold State.ownPatches
  exact (by
      try dsimp -proj only
      split
      · exact .refl
      · exact touch_ite (touch_ite (touch_qdr .refl (by decide) _) (touch_qdr .refl (by decide) _)) .refl)

theorem State.faultPatches_touch (h : Touch W a s) (hw : Part.sub [.registers, .memory, .sent, .frame, .requests, .completions,
    .journal, .links, .quadrille, .membership] W = true) (m : Qmsg) :
    Touch W a (State.faultPatches s m) := by
  refine h.step hw ?_
  unfold State.faultPatches
  exact touch_ite (State.jobFail_touch (touch_qdr (touch_foldl _ .refl (fun u _ hu => (State.ownPatches_touch hu (by decide) _)))
    (by decide) _) (by decide) ) (touch_ite (State.sufferLoss_touch (touch_qdr (touch_foldl _ .refl (fun u _ hu =>
    (State.ownPatches_touch hu (by decide) _))) (by decide) _) (by decide) _ _) (touch_ite (touch_ite (State.sufferLoss_touch
    (touch_qdr (touch_foldl _ .refl (fun u _ hu => (State.ownPatches_touch hu (by decide) _))) (by decide) _) (by decide) _ _)
    (touch_qdr (touch_qdr (touch_foldl _ .refl (fun u _ hu => (State.ownPatches_touch hu (by decide) _))) (by decide) _) (by decide)
    _)) (touch_qdr (touch_foldl _ .refl (fun u _ hu => (State.ownPatches_touch hu (by decide) _))) (by decide) _)))

theorem State.takeAbort_touch (h : Touch W a s) (hw : Part.sub [.registers, .memory, .sent, .frame, .transactions, .results,
    .degraded, .records, .requests, .completions, .admission, .prefixes, .sampling, .pages, .taint, .journal, .snapshots, .staged,
      .links, .quadrille, .membership, .doors] W = true) (m : Qmsg) :
    Touch W a (State.takeAbort s m) := by
  refine h.step hw ?_
  unfold State.takeAbort
  exact touch_ite (State.faultPatches_touch (touch_qdr (touch_pav (State.rollTxns_touch (State.inc_touch (State.evt_touch
    (State.setf_touch (State.setf_touch (State.setf_touch (State.setf_touch (State.setf_touch (touch_foldl _ .refl (fun u _ hu =>
    (State.sendQdr_touch hu (by decide) _ _))) (by decide) _ _) (by decide) _ _) (by decide) _ _) (by decide) _ _) (by decide) _ _)
    (by decide) _) (by decide) _) (by decide) ) (by decide) _) (by decide) _) (by decide) _) (State.setf_touch (State.restore_touch
    (State.crossCheck_touch (State.sendQdr_touch (State.setf_touch (State.faultPatches_touch (touch_qdr (touch_pav
    (State.rollTxns_touch (State.inc_touch (State.evt_touch (State.setf_touch (State.setf_touch (State.setf_touch (State.setf_touch
    (State.setf_touch (touch_foldl _ .refl (fun u _ hu => (State.sendQdr_touch hu (by decide) _ _))) (by decide) _ _) (by decide) _
    _) (by decide) _ _) (by decide) _ _) (by decide) _ _) (by decide) _) (by decide) _) (by decide) ) (by decide) _) (by decide) _)
    (by decide) _) (by decide) _ _) (by decide) _ _) (by decide) ) (by decide) _ _) (by decide) _ _)

theorem State.endRound_touch (h : Touch W a s) (hw : Part.sub [.quadrille] W = true) :
    Touch W a (State.endRound s) := by
  refine h.step hw ?_
  unfold State.endRound
  exact (by
      try dsimp -proj only
      split
      · exact touch_ite (touch_qdr .refl (by decide) _) .refl
      · exact .refl)

theorem State.keepFault_touch (h : Touch W a s) (hw : Part.sub [.quadrille] W = true) (x : Qmsg) (sAt : Nat) :
    Touch W a (State.keepFault s x sAt) := by
  refine h.step hw ?_
  unfold State.keepFault
  exact touch_qdr .refl (by decide) _

theorem State.startRound_touch (h : Touch W a s) (hw : Part.sub [.registers, .memory, .sent, .frame, .transactions, .results,
    .degraded, .records, .requests, .completions, .admission, .prefixes, .sampling, .pages, .taint, .journal, .snapshots, .staged,
      .links, .quadrille, .membership, .doors] W = true) (reps : List Qmsg) (why : Nat) :
    Touch W a (State.startRound s reps why) := by
  refine h.step hw ?_
  unfold State.startRound
  exact (by
      try dsimp -proj only
      split
      · exact .refl
      · exact State.endRound_touch (State.keepFault_touch (State.takeAbort_touch (touch_qdr .refl (by decide) _) (by decide) _)
          (by decide) _ _) (by decide))

theorem State.nextRound_touch (h : Touch W a s) (hw : Part.sub [.registers, .memory, .sent, .frame, .transactions, .results,
    .degraded, .records, .requests, .completions, .admission, .prefixes, .sampling, .pages, .taint, .journal, .snapshots, .staged,
      .links, .quadrille, .membership, .doors] W = true) :
    Touch W a (State.nextRound s) := by
  refine h.step hw ?_
  unfold State.nextRound
  exact (by
      try dsimp -proj only
      split
      · exact touch_ite (State.startRound_touch (touch_qdr .refl (by decide) _) (by decide) _ _) .refl
      · exact .refl)

theorem State.rootAbort_touch (h : Touch W a s) (hw : Part.sub [.registers, .memory, .sent, .frame, .transactions, .results,
    .degraded, .records, .requests, .completions, .admission, .prefixes, .sampling, .pages, .taint, .journal, .snapshots, .staged,
      .links, .quadrille, .membership, .doors] W = true) (m : Qmsg) :
    Touch W a (State.rootAbort s m) := by
  refine h.step hw ?_
  unfold State.rootAbort
  exact (by
      try dsimp -proj only
      split
      · exact touch_ite (State.startRound_touch .refl (by decide) _ _) (touch_qdr .refl (by decide) _)
      · exact State.startRound_touch .refl (by decide) _ _)

theorem State.declare_touch (h : Touch W a s) (hw : Part.sub [.registers, .sent, .frame, .records] W = true) (m cause : Nat) :
    Touch W a (State.declare s m cause) := by
  refine h.step hw ?_
  unfold State.declare
  exact State.raise_touch (State.evt_touch (State.setf_touch (State.setf_touch (State.setf_touch .refl (by decide) _ _) (by decide)
    _ _) (by decide) _ _) (by decide) _) (by decide) _ _ _ _ _

theorem State.sendAbort_touch (h : Touch W a s) (hw : Part.sub [.registers, .memory, .sent, .frame, .transactions, .results,
    .degraded, .records, .requests, .completions, .admission, .prefixes, .sampling, .pages, .taint, .journal, .snapshots, .staged,
      .links, .quadrille, .membership, .doors] W = true) (x : ErrRec) :
    Touch W a (State.sendAbort s x) := by
  refine h.step hw ?_
  unfold State.sendAbort
  exact touch_ite (State.rootAbort_touch .refl (by decide) _) (State.sendQdr_touch .refl (by decide) _ _)

theorem execAbort_touch (h : Touch W a s) (hw : Part.sub [.clock, .registers, .memory, .sent, .frame, .transactions, .results,
    .degraded, .records, .requests, .completions, .admission, .prefixes, .sampling, .pages, .taint, .journal, .snapshots, .staged,
      .links, .quadrille, .membership, .doors] W = true) (t port : Nat) (f : Flit) :
    ∀ u, execAbort t port f s = .next u → Touch W a u := by
  refine outTouch_step h hw ?_
  unfold execAbort
  exact outTouch_next (State.rxMsg_touch (State.at_touch .refl (by decide) _) (by decide) _ _ _ _ (fun u hu => (touch_ite hu
    (touch_ite (touch_ite hu (State.takeAbort_touch hu (by decide) _)) (touch_ite (State.rootAbort_touch hu (by decide) _) (by
      try dsimp -proj only
      split
      · exact hu
      · exact touch_ite (State.startRound_touch (State.loseMember_touch hu (by decide) _) (by decide) _ _) (touch_ite
          (State.sendQdr_touch hu (by decide) _ _) (State.sendQdr_touch hu (by decide) _ _))))))))

end Sys2Proof.Machine
end

