-- ==== Sys2Proof/Laws/FrameQuadrille.lean ====
section
/-! SUPPORT. What each operation and each meaning of Machine/Quadrille.lean may change. -/

namespace Sys2Proof.Machine

variable {W : List Part} {a s : State}

theorem State.markVoted_touch (h : Touch W a s) (hw : Part.sub [.transactions] W = true) (sel : TxnPend → Bool) :
    Touch W a (State.markVoted s sel) := by
  refine h.step hw ?_
  unfold State.markVoted
  exact touch_txnPend .refl (by decide) _

theorem State.putGot_touch (h : Touch W a s) (hw : Part.sub [.quadrille] W = true) (port : Nat) (m : Qmsg) :
    Touch W a (State.putGot s port m) := by
  refine h.step hw ?_
  unfold State.putGot
  exact touch_qdr .refl (by decide) _

theorem State.takeVerdict_touch (h : Touch W a s) (hw : Part.sub [.registers, .sent, .transactions, .doors] W = true) (vs : List
    Vote) (p : TxnPend) :
    Touch W a (State.takeVerdict s vs p) := by
  refine h.step hw ?_
  unfold State.takeVerdict
  exact (by
      try dsimp -proj only
      split
      · exact touch_ite (touch_txnPend .refl (by decide) _) (State.endTxn_touch (State.setPend_touch .refl (by decide) _)
          (by decide) _ _ _)
      · exact .refl)

theorem State.takeVerdicts_touch (h : Touch W a s) (hw : Part.sub [.registers, .sent, .transactions, .doors] W = true) (f : Nat)
    (vs : List Vote) :
    Touch W a (State.takeVerdicts s f vs) := by
  refine h.step hw ?_
  unfold State.takeVerdicts
  exact touch_foldl _ (State.add_touch .refl (by decide) _ _) (fun u _ hu => (State.takeVerdict_touch hu (by decide) _ _))

theorem State.takeComplete_touch (h : Touch W a s) (hw : Part.sub [.registers, .memory, .sent, .frame, .transactions, .records,
    .requests, .completions, .journal, .links, .quadrille, .membership, .doors] W = true) (m : Qmsg) :
    Touch W a (State.takeComplete s m) := by
  refine h.step hw ?_
  unfold State.takeComplete
  exact touch_ite (touch_foldl _ .refl (fun u _ hu => (State.sendQdr_touch hu (by decide) _ _))) (touch_ite
    (State.takeVerdicts_touch (touch_qdr (State.setf_touch (State.setf_touch (State.when_touch (touch_foldl _ .refl (fun u _ hu =>
    (State.sendQdr_touch hu (by decide) _ _))) _ _ (fun u1 hu1 => (State.setf_touch (State.setf_touch hu1 (by decide) _ _)
    (by decide) _ _))) (by decide) _ _) (by decide) _ _) (by decide) _) (by decide) _ _) (touch_ite (State.jobFail_touch
    (State.takeVerdicts_touch (touch_qdr (State.setf_touch (State.setf_touch (State.when_touch (touch_foldl _ .refl (fun u _ hu =>
    (State.sendQdr_touch hu (by decide) _ _))) _ _ (fun u1 hu1 => (State.setf_touch (State.setf_touch hu1 (by decide) _ _)
    (by decide) _ _))) (by decide) _ _) (by decide) _ _) (by decide) _) (by decide) _ _) (by decide) ) (touch_foldl _
    (State.takeVerdicts_touch (touch_qdr (State.setf_touch (State.setf_touch (State.when_touch (touch_foldl _ .refl (fun u _ hu =>
    (State.sendQdr_touch hu (by decide) _ _))) _ _ (fun u1 hu1 => (State.setf_touch (State.setf_touch hu1 (by decide) _ _)
    (by decide) _ _))) (by decide) _ _) (by decide) _ _) (by decide) _) (by decide) _ _) (fun u2 _ hu2 => (State.sufferLoss_touch
    hu2 (by decide) _ _)))))

theorem State.completeBar_touch (h : Touch W a s) (hw : Part.sub [.registers, .memory, .sent, .frame, .transactions, .records,
    .requests, .completions, .journal, .links, .quadrille, .membership, .doors] W = true) :
    Touch W a (State.completeBar s) := by
  refine h.step hw ?_
  unfold State.completeBar
  exact State.takeComplete_touch .refl (by decide) _

theorem State.barStep_touch (h : Touch W a s) (hw : Part.sub [.registers, .memory, .sent, .frame, .transactions, .records,
    .requests, .completions, .journal, .links, .quadrille, .membership, .doors] W = true) :
    Touch W a (State.barStep s) := by
  refine h.step hw ?_
  unfold State.barStep
  exact touch_ite (touch_ite (State.completeBar_touch .refl (by decide) ) .refl) (touch_ite (State.sendQdr_touch (touch_qdr .refl
    (by decide) _) (by decide) _ _) .refl)

theorem State.takeArrive_touch (h : Touch W a s) (hw : Part.sub [.registers, .memory, .sent, .frame, .transactions, .records,
    .requests, .completions, .journal, .links, .quadrille, .membership, .doors] W = true) (port : Nat) (m : Qmsg) :
    Touch W a (State.takeArrive s port m) := by
  refine h.step hw ?_
  unfold State.takeArrive
  exact touch_ite .refl (touch_ite (State.evt_touch (State.add_touch .refl (by decide) _ _) (by decide) _) (touch_ite
    (State.sendQdr_touch (State.putGot_touch .refl (by decide) _ _) (by decide) _ _) (State.barStep_touch (State.putGot_touch .refl
    (by decide) _ _) (by decide) )))

theorem State.postArrive_touch (h : Touch W a s) (hw : Part.sub [.registers, .memory, .sent, .frame, .transactions, .records,
    .requests, .completions, .journal, .links, .quadrille, .membership, .doors] W = true) :
    Touch W a (State.postArrive s) := by
  refine h.step hw ?_
  unfold State.postArrive
  exact touch_ite (State.evt_touch (State.inc_touch (State.markVoted_touch .refl (by decide) _) (by decide) _) (by decide) _)
    (touch_ite (State.sendQdr_touch (touch_qdr (State.markVoted_touch .refl (by decide) _) (by decide) _) (by decide) _ _)
    (State.barStep_touch (touch_qdr (State.markVoted_touch .refl (by decide) _) (by decide) _) (by decide) ))

theorem execArrivePost_touch (h : Touch W a s) (hw : Part.sub [.clock, .registers, .memory, .sent, .frame, .transactions, .records,
    .requests, .completions, .journal, .links, .quadrille, .membership, .doors] W = true) (t : Nat) :
    ∀ u, execArrivePost t s = .next u → Touch W a u := by
  refine outTouch_step h hw ?_
  unfold execArrivePost
  exact outTouch_ite (outTouch_next (State.postArrive_touch (State.at_touch .refl (by decide) _) (by decide) )) (outTouch_next
    (State.at_touch .refl (by decide) _))

theorem State.rxQdr_touch (h : Touch W a s) (hw : Part.sub [.registers, .sent, .frame, .records, .links] W = true) (port : Nat) (f
    : Flit) (kind : Nat) (k : Qmsg → State → State) (hf : ∀ x u, Touch W a u → Touch W a (k x u)) :
    Touch W a (State.rxQdr s port f kind k) := by
  unfold State.rxQdr
  exact State.rxMsg_touch h (Part.sub_trans (by decide) hw) _ _ _ _ (fun u hu => (touch_ite (hf _ _ hu) hu))

theorem execArrive_touch (h : Touch W a s) (hw : Part.sub [.clock, .registers, .memory, .sent, .frame, .transactions, .records,
    .requests, .completions, .journal, .links, .quadrille, .membership, .doors] W = true) (t port : Nat) (f : Flit) :
    ∀ u, execArrive t port f s = .next u → Touch W a u := by
  refine outTouch_step h hw ?_
  unfold execArrive
  exact outTouch_next (State.rxQdr_touch (State.at_touch .refl (by decide) _) (by decide) _ _ _ _ (fun _ u hu =>
    (State.takeArrive_touch hu (by decide) _ _)))

theorem execPartialTimeout_touch (h : Touch W a s) (hw : Part.sub [.clock, .registers, .sent, .frame, .records, .links, .quadrille]
    W = true) (t : Nat) :
    ∀ u, execPartialTimeout t s = .next u → Touch W a u := by
  refine outTouch_step h hw ?_
  unfold execPartialTimeout
  exact outTouch_ite (outTouch_next (State.sendQdr_touch (touch_qdr (State.at_touch .refl (by decide) _) (by decide) _) (by decide)
    _ _)) (outTouch_next (State.at_touch .refl (by decide) _))

theorem State.afterRound_touch (h : Touch W a s) (hw : Part.sub [.registers, .memory, .sent, .frame, .transactions, .results,
    .degraded, .records, .requests, .completions, .admission, .prefixes, .sampling, .pages, .taint, .journal, .snapshots, .staged,
      .links, .quadrille, .membership, .doors] W = true) :
    Touch W a (State.afterRound s) := by
  refine h.step hw ?_
  unfold State.afterRound
  exact State.barStep_touch (State.nextRound_touch (State.endRound_touch .refl (by decide) ) (by decide) ) (by decide)

theorem execAbortAck_touch (h : Touch W a s) (hw : Part.sub [.clock, .registers, .memory, .sent, .frame, .transactions, .results,
    .degraded, .records, .requests, .completions, .admission, .prefixes, .sampling, .pages, .taint, .journal, .snapshots, .staged,
      .links, .quadrille, .membership, .doors] W = true) (t port : Nat) (f : Flit) :
    ∀ u, execAbortAck t port f s = .next u → Touch W a u := by
  refine outTouch_step h hw ?_
  unfold execAbortAck
  exact outTouch_next (State.rxQdr_touch (State.at_touch .refl (by decide) _) (by decide) _ _ _ _ (fun _ u hu => (touch_ite (by
      try dsimp -proj only
      split
      · exact touch_ite hu (State.afterRound_touch (touch_qdr hu (by decide) _) (by decide) )
      · exact hu) (State.sendQdr_touch hu (by decide) _ _))))

theorem execAbortAckTimeout_touch (h : Touch W a s) (hw : Part.sub [.clock, .registers, .memory, .sent, .frame, .transactions,
    .results, .degraded, .records, .requests, .completions, .admission, .prefixes, .sampling, .pages, .taint, .journal, .snapshots,
      .staged, .links, .quadrille, .membership, .doors] W = true) (t : Nat) :
    ∀ u, execAbortAckTimeout t s = .next u → Touch W a u := by
  refine outTouch_step h hw ?_
  unfold execAbortAckTimeout
  exact (by
      try dsimp -proj only
      split
      · exact outTouch_ite (outTouch_next (State.afterRound_touch (touch_foldl _ (touch_qdr (touch_foldl _ (State.at_touch .refl
          (by decide) _) (fun u _ hu => (State.declare_touch hu (by decide) _ _))) (by decide) _) (fun u1 _ hu1 =>
          (State.sufferLoss_touch hu1 (by decide) _ _))) (by decide) )) (outTouch_next (State.at_touch .refl (by decide) _))
      · exact outTouch_next (State.at_touch .refl (by decide) _))

theorem State.closeBar_touch (h : Touch W a s) (hw : Part.sub [.registers, .memory, .sent, .frame, .transactions, .results,
    .degraded, .records, .requests, .completions, .admission, .prefixes, .sampling, .pages, .taint, .journal, .snapshots, .staged,
      .links, .quadrille, .membership, .doors] W = true) :
    Touch W a (State.closeBar s) := by
  refine h.step hw ?_
  unfold State.closeBar
  exact touch_ite (State.startRound_touch (State.declare_touch (State.evt_touch .refl (by decide) _) (by decide) _ _) (by decide) _
    _) (State.startRound_touch (touch_foldl _ .refl (fun u _ hu => (State.declare_touch hu (by decide) _ _))) (by decide) _ _)

theorem execWindowClose_touch (h : Touch W a s) (hw : Part.sub [.clock, .registers, .memory, .sent, .frame, .transactions,
    .results, .degraded, .records, .requests, .completions, .admission, .prefixes, .sampling, .pages, .taint, .journal, .snapshots,
      .staged, .links, .quadrille, .membership, .doors] W = true) (t : Nat) :
    ∀ u, execWindowClose t s = .next u → Touch W a u := by
  refine outTouch_step h hw ?_
  unfold execWindowClose
  exact outTouch_ite (outTouch_next (State.closeBar_touch (State.at_touch .refl (by decide) _) (by decide) )) (outTouch_next
    (State.at_touch .refl (by decide) _))

theorem execRestoreWindowClose_touch (h : Touch W a s) (hw : Part.sub [.clock, .registers, .memory, .sent, .frame, .transactions,
    .results, .degraded, .records, .requests, .completions, .admission, .prefixes, .sampling, .pages, .taint, .journal, .snapshots,
      .staged, .links, .quadrille, .membership, .doors] W = true) (t : Nat) :
    ∀ u, execRestoreWindowClose t s = .next u → Touch W a u := by
  refine outTouch_step h hw ?_
  unfold execRestoreWindowClose
  exact outTouch_ite (outTouch_next (State.closeBar_touch (State.at_touch .refl (by decide) _) (by decide) )) (outTouch_next
    (State.at_touch .refl (by decide) _))

theorem execHeld_touch (h : Touch W a s) (hw : Part.sub [.clock, .registers, .sent, .frame, .records, .links, .quadrille] W = true)
    (t port : Nat) (f : Flit) :
    ∀ u, execHeld t port f s = .next u → Touch W a u := by
  refine outTouch_step h hw ?_
  unfold execHeld
  exact outTouch_next (State.rxQdr_touch (State.at_touch .refl (by decide) _) (by decide) _ _ _ _ (fun _ u hu => (touch_ite
    (touch_ite (touch_qdr hu (by decide) _) hu) (State.sendQdr_touch hu (by decide) _ _))))

theorem State.joinerComplete_touch (h : Touch W a s) (hw : Part.sub [.registers, .sent, .frame, .transactions, .records, .links,
    .quadrille, .membership, .doors] W = true) (tp : Topo) (m : Qmsg) :
    Touch W a (State.joinerComplete s tp m) := by
  refine h.step hw ?_
  unfold State.joinerComplete
  exact touch_ite (touch_qdr (State.setf_touch (State.takeVerdicts_touch (touch_ite (State.markVoted_touch (touch_joinSeen .refl
    (by decide) _) (by decide) _) (State.sendQdr_touch (State.markVoted_touch (touch_joinSeen .refl (by decide) _) (by decide) _)
    (by decide) _ _)) (by decide) _ _) (by decide) _ _) (by decide) _) (State.takeVerdicts_touch (touch_ite (State.markVoted_touch
    (touch_joinSeen .refl (by decide) _) (by decide) _) (State.sendQdr_touch (State.markVoted_touch (touch_joinSeen .refl
    (by decide) _) (by decide) _) (by decide) _ _)) (by decide) _ _)

theorem execComplete_touch (h : Touch W a s) (hw : Part.sub [.clock, .registers, .memory, .sent, .frame, .transactions, .records,
    .requests, .completions, .journal, .links, .quadrille, .membership, .doors] W = true) (t port : Nat) (f : Flit) :
    ∀ u, execComplete t port f s = .next u → Touch W a u := by
  refine outTouch_step h hw ?_
  unfold execComplete
  exact outTouch_next (State.rxMsg_touch (State.at_touch .refl (by decide) _) (by decide) _ _ _ _ (fun u hu => (touch_ite hu
    (touch_ite (touch_ite hu (State.takeComplete_touch hu (by decide) _)) (by
      try dsimp -proj only
      split
      · exact touch_ite (State.joinerComplete_touch hu (by decide) _ _) hu
      · exact hu)))))

theorem execRootLost_touch (h : Touch W a s) (hw : Part.sub [.clock, .registers, .memory, .sent, .frame, .transactions, .results,
    .degraded, .records, .requests, .completions, .admission, .prefixes, .sampling, .pages, .taint, .journal, .snapshots, .staged,
      .links, .quadrille, .membership, .doors] W = true) (t : Nat) :
    ∀ u, execRootLost t s = .next u → Touch W a u := by
  refine outTouch_step h hw ?_
  unfold execRootLost
  exact (by
      try dsimp -proj only
      split
      · exact outTouch_next (State.at_touch .refl (by decide) _)
      · exact outTouch_ite (outTouch_ite (outTouch_next (State.startRound_touch (State.loseMember_touch (touch_qdr (State.evt_touch
          (State.at_touch .refl (by decide) _) (by decide) _) (by decide) _) (by decide) _) (by decide) _ _)) (outTouch_next
          (State.sendQdr_touch (touch_qdr (State.evt_touch (State.at_touch .refl (by decide) _) (by decide) _) (by decide) _)
          (by decide) _ _))) (outTouch_next (State.at_touch .refl (by decide) _)))

theorem State.reloadBank_touch (h : Touch W a s) (hw : Part.sub [.memory, .scrub] W = true) (bk src : Nat) :
    Touch W a (State.reloadBank s bk src) := by
  refine h.step hw ?_
  unfold State.reloadBank
  exact State.write_touch (touch_poison .refl (by decide) _) (by decide) _ _

theorem execRestoreDone_touch (h : Touch W a s) (hw : Part.sub [.clock, .registers, .memory, .sent, .frame, .transactions, .scrub,
    .records, .requests, .completions, .journal, .links, .quadrille, .membership, .doors] W = true) (t : Nat) (srcs : List (Nat ×
      Nat)) :
    ∀ u, execRestoreDone t srcs s = .next u → Touch W a u := by
  refine outTouch_step h hw ?_
  unfold execRestoreDone
  exact outTouch_ite (outTouch_next (State.postArrive_touch (touch_pav (touch_foldl _ (State.at_touch .refl (by decide) _) (fun u _
    hu => (State.reloadBank_touch hu (by decide) _ _))) (by decide) _) (by decide) )) (outTouch_next (State.at_touch .refl
    (by decide) _))

theorem State.takeGo_touch (h : Touch W a s) (hw : Part.sub [.registers, .sent, .frame, .transactions, .records, .links,
    .quadrille, .doors] W = true) (tp : Topo) (m : Qmsg) :
    Touch W a (State.takeGo s tp m) := by
  refine h.step hw ?_
  unfold State.takeGo
  exact touch_qdr (touch_foldl _ (State.setPend_touch (touch_foldl _ .refl (fun u _ hu => (State.sendQdr_touch hu (by decide) _ _)))
    (by decide) _) (fun u1 _ hu1 => (State.endTxn_touch hu1 (by decide) _ _ _))) (by decide) _

theorem State.startStep_touch (h : Touch W a s) (hw : Part.sub [.registers, .sent, .frame, .transactions, .records, .links,
    .quadrille, .doors] W = true) (tp : Topo) :
    Touch W a (State.startStep s tp) := by
  refine h.step hw ?_
  unfold State.startStep
  exact touch_ite (touch_ite (State.takeGo_touch .refl (by decide) _ _) (State.sendQdr_touch (touch_qdr .refl (by decide) _)
    (by decide) _ _)) .refl

theorem State.putStart_touch (h : Touch W a s) (hw : Part.sub [.registers, .sent, .frame, .transactions, .records, .links,
    .quadrille, .doors] W = true) (tp : Topo) (port : Nat) (m : Qmsg) :
    Touch W a (State.putStart s tp port m) := by
  refine h.step hw ?_
  unfold State.putStart
  exact State.startStep_touch (touch_qdr .refl (by decide) _) (by decide) _

theorem State.postStart_touch (h : Touch W a s) (hw : Part.sub [.registers, .sent, .frame, .transactions, .records, .links,
    .quadrille, .doors] W = true) :
    Touch W a (State.postStart s) := by
  refine h.step hw ?_
  unfold State.postStart
  exact (by
      try dsimp -proj only
      split
      · exact .refl
      · exact touch_ite .refl (State.putStart_touch (touch_qdr (State.markVoted_touch .refl (by decide) _) (by decide) _)
          (by decide) _ _ _))

theorem execStartVote_touch (h : Touch W a s) (hw : Part.sub [.clock, .registers, .sent, .frame, .transactions, .records, .links,
    .quadrille, .doors] W = true) (t port : Nat) (f : Flit) :
    ∀ u, execStartVote t port f s = .next u → Touch W a u := by
  refine outTouch_step h hw ?_
  unfold execStartVote
  exact outTouch_next (State.rxMsg_touch (State.at_touch .refl (by decide) _) (by decide) _ _ _ _ (fun u hu => (by
      try dsimp -proj only
      split
      · exact touch_ite (State.putStart_touch hu (by decide) _ _ _) hu
      · exact hu)))

theorem execStartGo_touch (h : Touch W a s) (hw : Part.sub [.clock, .registers, .sent, .frame, .transactions, .records, .links,
    .quadrille, .doors] W = true) (t port : Nat) (f : Flit) :
    ∀ u, execStartGo t port f s = .next u → Touch W a u := by
  refine outTouch_step h hw ?_
  unfold execStartGo
  exact outTouch_next (State.rxMsg_touch (State.at_touch .refl (by decide) _) (by decide) _ _ _ _ (fun u hu => (by
      try dsimp -proj only
      split
      · exact touch_ite (State.takeGo_touch hu (by decide) _ _) hu
      · exact hu)))

theorem execStartWaitExpire_touch (h : Touch W a s) (hw : Part.sub [.clock, .registers, .sent, .frame, .transactions, .records,
    .links, .quadrille, .doors] W = true) (t : Nat) :
    ∀ u, execStartWaitExpire t s = .next u → Touch W a u := by
  refine outTouch_step h hw ?_
  unfold execStartWaitExpire
  exact (by
      try dsimp -proj only
      split
      · exact outTouch_ite (outTouch_next (State.takeGo_touch (State.at_touch .refl (by decide) _) (by decide) _ _)) (outTouch_next
          (State.at_touch .refl (by decide) _))
      · exact outTouch_next (State.at_touch .refl (by decide) _))

theorem State.commitCmd_touch (h : Touch W a s) (hw : Part.sub [.registers, .sent, .frame, .transactions, .records, .links,
    .quadrille, .doors] W = true) (q : Requester) (mode : Nat) (job : Bool) :
    Touch W a (State.commitCmd s q mode job) := by
  refine h.step hw ?_
  unfold State.commitCmd
  exact State.postStart_touch (State.commit_touch .refl (by decide) _ _ _) (by decide)

theorem State.wrCommit_touch (h : Touch W a s) (hw : Part.sub [.registers, .sent, .frame, .transactions, .records, .links,
    .quadrille, .doors] W = true) (q : Requester) (mode : Nat) (job : Bool) :
    Touch W a (State.wrCommit s q mode job) := by
  refine h.step hw ?_
  unfold State.wrCommit
  exact State.port_touch .refl _ (fun u hu => (State.commitCmd_touch hu (by decide) _ _ _))

theorem execTxnCommit_touch (h : Touch W a s) (hw : Part.sub [.clock, .registers, .sent, .frame, .transactions, .records, .links,
    .quadrille, .doors] W = true) (t : Nat) (q : Requester) (mode : Nat) (job : Bool) :
    ∀ u, execTxnCommit t q mode job s = .next u → Touch W a u := by
  refine outTouch_step h hw ?_
  unfold execTxnCommit
  exact outTouch_next (State.wrCommit_touch (State.at_touch .refl (by decide) _) (by decide) _ _ _)

end Sys2Proof.Machine
end

