-- ==== Sys2Proof/Laws/FrameChecks.lean ====
section
/-! SUPPORT. What each operation and each meaning of Machine/Checks.lean may change. -/

namespace Sys2Proof.Machine

variable {W : List Part} {a s : State}

theorem State.setPhase_touch (h : Touch W a s) (hw : Part.sub [.registers, .sent] W = true) (p : Nat) :
    Touch W a (State.setPhase s p) := by
  refine h.step hw ?_
  unfold State.setPhase
  exact touch_ite .refl (State.evt_touch (State.setf_touch .refl (by decide) _ _) (by decide) _)

theorem State.trackPass_touch (h : Touch W a s) (hw : Part.sub [.tracking] W = true) (c : Capture) (ls : List DupLane) :
    Touch W a (State.trackPass s c ls) := by
  refine h.step hw ?_
  unfold State.trackPass
  exact touch_ite .refl (touch_ite (State.setTrk_touch .refl (by decide) _ _) (State.setTrk_touch .refl (by decide) _ _))

theorem State.clean_touch (h : Touch W a s) (hw : Part.sub [.registers, .tracking] W = true) (kind unit : Nat) :
    Touch W a (State.clean s kind unit) := by
  refine h.step hw ?_
  unfold State.clean
  exact touch_lastClean (State.inc_touch .refl (by decide) _) (by decide) _

theorem State.hard_touch (h : Touch W a s) (hw : Part.sub [.registers, .sent, .frame, .records, .suspects, .proxies] W = true) (c
    kind unit detail : Nat) :
    Touch W a (State.hard s c kind unit detail) := by
  refine h.step hw ?_
  unfold State.hard
  exact touch_pxFails (State.suspect_touch (State.suspect_touch (State.raiseFrom_touch (State.inc_touch .refl (by decide) _)
    (by decide) _ _ _ _ _ _ _) (by decide) _ _) (by decide) _ _) (by decide) _

theorem State.named_touch (h : Touch W a s) (hw : Part.sub [.proxies] W = true) (A : Nat) :
    Touch W a (State.named s A) := by
  refine h.step hw ?_
  unfold State.named
  exact touch_ite (touch_pxFails .refl (by decide) _) .refl

theorem State.arrVisit_touch (h : Touch W a s) (hw : Part.sub [.registers, .sent, .frame, .tracking, .records, .suspects, .proxies]
    W = true) (c : Nat) (v : Word × Word) :
    Touch W a (State.arrVisit s c v) := by
  refine h.step hw ?_
  unfold State.arrVisit
  exact (by
      try dsimp -proj only
      split
      · exact .refl
      · exact touch_ite (State.trackPass_touch .refl (by decide) _ _) (touch_ite (State.hard_touch ((fun u hu => (State.setTrk_touch
          hu (by decide) _ _)) _ (State.trackPass_touch .refl (by decide) _ _)) (by decide) _ _ _ _) (touch_ite (State.named_touch
          (State.addScore_touch (State.inc_touch ((fun u hu => (State.setTrk_touch hu (by decide) _ _)) _ (State.trackPass_touch
          .refl (by decide) _ _)) (by decide) _) (by decide) _ _ _) (by decide) _) (State.clean_touch (State.trackPass_touch .refl
          (by decide) _ _) (by decide) _ _))))

theorem State.wideVisit_touch (h : Touch W a s) (hw : Part.sub [.registers, .sent, .frame, .tracking, .records, .suspects,
    .proxies] W = true) (c nb slot : Nat) (diff : Option Nat) :
    Touch W a (State.wideVisit s c nb slot diff) := by
  refine h.step hw ?_
  unfold State.wideVisit
  exact touch_ite .refl (by
      try dsimp -proj only
      split
      · exact State.clean_touch .refl (by decide) _ _
      · exact State.hard_touch .refl (by decide) _ _ _ _)

theorem execShadow_touch (h : Touch W a s) (hw : Part.sub [.clock, .registers, .sent, .frame, .slots, .results, .tracking,
    .records, .suspects, .proxies] W = true) (t core slot : Nat) (differ : List (Option Nat)) :
    ∀ u, execShadow t core slot differ s = .next u → Touch W a u := by
  refine outTouch_step h hw ?_
  unfold execShadow
  exact outTouch_ite (by
      try dsimp -proj only
      split
      · exact outTouch_next (State.at_touch .refl (by decide) _)
      · exact outTouch_next (touch_capture (by
            try dsimp -proj only
            split
            · exact touch_foldl _ (touch_foldl _ (State.mark_touch (State.at_touch .refl (by decide) _) (by decide) _ _) (fun u _ hu
                => (State.arrVisit_touch hu (by decide) _ _))) (fun u1 _ hu1 => (State.wideVisit_touch hu1 (by decide) _ _ _ _))
            · exact touch_foldl _ (State.mark_touch (State.at_touch .refl (by decide) _) (by decide) _ _) (fun u _ hu =>
                (State.arrVisit_touch hu (by decide) _ _)))
          (by decide) _))
    (outTouch_next (State.at_touch .refl (by decide) _))

theorem State.driftFlag_touch (h : Touch W a s) (hw : Part.sub [.registers, .sent, .frame, .records] W = true) (A reason : Nat) :
    Touch W a (State.driftFlag s A reason) := by
  refine h.step hw ?_
  unfold State.driftFlag
  exact State.raise_touch (State.flag_touch .refl (by decide) _ _ _ _) (by decide) _ _ _ _ _

theorem State.acceptWindow_touch (h : Touch W a s) (hw : Part.sub [.registers, .sent, .frame, .tracking, .records] W = true) (A :
    Nat) (w : TrkWin) (g p : Int × Int) :
    Touch W a (State.acceptWindow s A w g p) := by
  refine h.step hw ?_
  unfold State.acceptWindow
  exact State.when_touch (touch_trkPrev_trkNext (State.setf_touch (State.setf_touch (State.inc_touch .refl (by decide) _)
    (by decide) _ _) (by decide) _ _) (by decide) _ _) _ _ (fun u hu => (State.driftFlag_touch hu (by decide) _ _))

theorem State.judgeWindow_touch (h : Touch W a s) (hw : Part.sub [.registers, .sent, .frame, .tracking, .records, .free] W = true)
    (A : Nat) (w : TrkWin) :
    Touch W a (State.judgeWindow s A w) := by
  refine h.step hw ?_
  unfold State.judgeWindow
  exact (by
      try dsimp -proj only
      split
      · exact (fun u hu => (State.setTrk_touch (touch_trkPrev hu (by decide) _) (by decide) _ _)) _ (State.setf_touch
          (State.when_touch .refl _ _ (fun u1 hu1 => (State.used_touch hu1 (by decide) ))) (by decide) _ _)
      · exact touch_ite (State.acceptWindow_touch (State.setTrk_touch (State.setf_touch (State.when_touch .refl _ _ (fun u1 hu1 =>
          (State.used_touch hu1 (by decide) ))) (by decide) _ _) (by decide) _ _) (by decide) _ _ _ _) (State.when_touch
          (State.setf_touch ((fun u hu => (State.setTrk_touch (touch_trkPrev hu (by decide) _) (by decide) _ _)) _ (State.setf_touch
          (State.when_touch .refl _ _ (fun u1 hu1 => (State.used_touch hu1 (by decide) ))) (by decide) _ _)) (by decide) _ _) _ _ (fun
          u2 hu2 => (State.driftFlag_touch hu2 (by decide) _ _))))

theorem execTrackerWindow_touch (h : Touch W a s) (hw : Part.sub [.clock, .registers, .sent, .frame, .tracking, .records, .free] W
    = true) (t arr : Nat) :
    ∀ u, execTrackerWindow t arr s = .next u → Touch W a u := by
  refine outTouch_step h hw ?_
  unfold execTrackerWindow
  exact outTouch_ite (outTouch_ite (outTouch_next (State.setTrk_touch (State.inc_touch (State.at_touch .refl (by decide) _)
    (by decide) _) (by decide) _ _)) (outTouch_next (State.judgeWindow_touch (State.at_touch .refl (by decide) _) (by decide) _ _)))
    (outTouch_next (State.at_touch .refl (by decide) _))

theorem State.once_touch (h : Touch W a s) (hw : Part.sub [.slots] W = true) (m : Nat) (c : Bool) (k : State → State) (hf : ∀ u,
    Touch W a u → Touch W a (k u)) :
    Touch W a (State.once s m c k) := by
  unfold State.once
  exact touch_ite (hf _ (touch_done h (Part.sub_trans (by decide) hw) _)) h

theorem State.setRail_touch (h : Touch W a s) (hw : Part.sub [.registers] W = true) (n k : Nat) :
    Touch W a (State.setRail s n k) := by
  refine h.step hw ?_
  unfold State.setRail
  exact State.setf_touch (State.setf_touch .refl (by decide) _ _) (by decide) _ _

theorem State.railUp_touch (h : Touch W a s) (hw : Part.sub [.registers, .sent] W = true) (n : Nat) :
    Touch W a (State.railUp s n) := by
  refine h.step hw ?_
  unfold State.railUp
  exact touch_ite (State.evt_touch .refl (by decide) _) (State.setRail_touch .refl (by decide) _ _)

theorem State.freeSuspect_touch (h : Touch W a s) (hw : Part.sub [.registers] W = true) (i : Nat) :
    Touch W a (State.freeSuspect s i) := by
  refine h.step hw ?_
  unfold State.freeSuspect
  exact State.setf_touch (State.setf_touch (State.setf_touch (State.setf_touch .refl (by decide) _ _) (by decide) _ _) (by decide) _
    _) (by decide) _ _

theorem execSuspectExpire_touch (h : Touch W a s) (hw : Part.sub [.clock, .registers] W = true) (t entry : Nat) :
    ∀ u, execSuspectExpire t entry s = .next u → Touch W a u := by
  refine outTouch_step h hw ?_
  unfold execSuspectExpire
  exact outTouch_ite (outTouch_next (State.freeSuspect_touch (State.at_touch .refl (by decide) _) (by decide) _)) (outTouch_next
    (State.at_touch .refl (by decide) _))

theorem execScoreDecay_touch (h : Touch W a s) (hw : Part.sub [.clock, .slots, .suspects] W = true) (t : Nat) :
    ∀ u, execScoreDecay t s = .next u → Touch W a u :=
  outTouch_next (State.once_touch (State.at_touch h (Part.sub_trans (by decide) hw) t) (Part.sub_trans (by decide) hw) _ _ _
    (fun _ hu => touch_score hu (Part.sub_trans (by decide) hw) _ (scanon_map_filter (fun _ => rfl))))

theorem execRailDecay_touch (h : Touch W a s) (hw : Part.sub [.clock, .registers, .suspects] W = true) (t region : Nat) :
    ∀ u, execRailDecay t region s = .next u → Touch W a u := by
  refine outTouch_step h hw ?_
  unfold execRailDecay
  exact outTouch_ite (outTouch_next (touch_lastSusp (State.setRail_touch (State.at_touch .refl (by decide) _) (by decide) _ _)
    (by decide) _)) (outTouch_next (State.at_touch .refl (by decide) _))

theorem State.satpArr_touch (h : Touch W a s) (hw : Part.sub [.registers, .sent] W = true) (A : Nat) :
    Touch W a (State.satpArr s A) := by
  refine h.step hw ?_
  unfold State.satpArr
  exact touch_ite .refl (State.when_touch (State.setf_touch .refl (by decide) _ _) _ _ (fun u hu => (State.evt_touch
    (State.setf_touch hu (by decide) _ _) (by decide) _)))

theorem execSatpCheck_touch (h : Touch W a s) (hw : Part.sub [.clock, .registers, .sent, .slots] W = true) (t : Nat) :
    ∀ u, execSatpCheck t s = .next u → Touch W a u := by
  refine outTouch_step h hw ?_
  unfold execSatpCheck
  exact outTouch_next (State.once_touch (State.at_touch .refl (by decide) _) (by decide) _ _ _ (fun u hu => (touch_foldl _ hu (fun
    u1 _ hu1 => (State.satpArr_touch hu1 (by decide) _)))))

theorem State.logRec_touch (h : Touch W a s) (hw : Part.sub [.registers, .memory, .sent] W = true) (r : ErrRec) :
    Touch W a (State.logRec s r) := by
  refine h.step hw ?_
  unfold State.logRec
  exact touch_ite .refl (touch_ite (State.evt_touch (State.inc_touch .refl (by decide) _) (by decide) _) (State.setf_touch
    (State.write_touch .refl (by decide) _ _) (by decide) _ _))

theorem State.faultRec_touch (h : Touch W a s) (hw : Part.sub [.registers, .memory, .sent, .frame, .transactions, .results,
    .degraded, .records, .requests, .completions, .admission, .prefixes, .sampling, .pages, .taint, .journal, .snapshots, .staged,
      .links, .quadrille, .membership, .doors] W = true) (r : ErrRec) :
    Touch W a (State.faultRec s r) := by
  refine h.step hw ?_
  unfold State.faultRec
  exact touch_ite (touch_ite (touch_qdr (State.setf_touch (touch_foldl _ .refl (fun u _ hu => (State.setf_touch hu (by decide) _
    _))) (by decide) _ _) (by decide) _) (State.sendAbort_touch (touch_qdr (touch_qdr (State.setf_touch (touch_foldl _ .refl (fun u
    _ hu => (State.setf_touch hu (by decide) _ _))) (by decide) _ _) (by decide) _) (by decide) _) (by decide) _)) (State.setf_touch
    (touch_foldl _ .refl (fun u _ hu => (State.setf_touch hu (by decide) _ _))) (by decide) _ _)

theorem State.fatalRec_touch (h : Touch W a s) (hw : Part.sub [.registers, .sent, .membership] W = true) (r : ErrRec) :
    Touch W a (State.fatalRec s r) := by
  refine h.step hw ?_
  unfold State.fatalRec
  exact touch_ite .refl (State.setPhase_touch (touch_halted .refl (by decide) _) (by decide) _)

theorem State.collect_touch (h : Touch W a s) (hw : Part.sub [.registers, .memory, .sent, .frame, .transactions, .results,
    .degraded, .records, .requests, .completions, .admission, .prefixes, .sampling, .pages, .taint, .journal, .snapshots, .staged,
      .links, .quadrille, .membership, .doors] W = true) (r0 : ErrRec) :
    Touch W a (State.collect s r0) := by
  refine h.step hw ?_
  unfold State.collect
  exact State.when_touch (State.evt_touch (State.when_touch (State.setf_touch (State.inc_touch (State.inc_touch (State.when_touch
    (touch_ite .refl (State.logRec_touch .refl (by decide) _)) _ _ (fun u hu => (touch_logSeen hu (by decide) _))) (by decide) _)
    (by decide) _) (by decide) _ _) _ _ (fun u1 hu1 => (State.faultRec_touch hu1 (by decide) _))) (by decide) _) _ _ (fun u2 hu2 =>
    (State.fatalRec_touch hu2 (by decide) _))

theorem execErrorRecord_touch (h : Touch W a s) (hw : Part.sub [.clock, .registers, .memory, .sent, .frame, .transactions,
    .results, .degraded, .records, .requests, .completions, .admission, .prefixes, .sampling, .pages, .taint, .journal, .snapshots,
      .staged, .links, .quadrille, .membership, .doors] W = true) (t idx : Nat) :
    ∀ u, execErrorRecord t idx s = .next u → Touch W a u := by
  refine outTouch_step h hw ?_
  unfold execErrorRecord
  exact (by
      try dsimp -proj only
      split
      · exact outTouch_next (State.at_touch .refl (by decide) _)
      · exact outTouch_next (State.collect_touch (touch_records (State.at_touch .refl (by decide) _) (by decide) _) (by decide) _))

theorem execSysErrRead_touch (h : Touch W a s) (hw : Part.sub [.clock, .readback] W = true) (t w : Nat) :
    ∀ u, execSysErrRead t w s = .next u → Touch W a u := by
  refine outTouch_step h hw ?_
  unfold execSysErrRead
  exact outTouch_ite (outTouch_next (State.at_touch .refl (by decide) _)) (outTouch_ite (outTouch_next (touch_lastRead_errCap
    (State.at_touch .refl (by decide) _) (by decide) _ _)) (outTouch_next (touch_lastRead (State.at_touch .refl (by decide) _)
    (by decide) _)))

end Sys2Proof.Machine
end

