-- ==== Sys2Proof/Laws/FrameMesh.lean ====
section
/-! SUPPORT. What each operation and each meaning of Machine/Mesh.lean may change. -/

namespace Sys2Proof.Machine

variable {W : List Part} {a s : State}

theorem State.badBeat_touch (h : Touch W a s) (hw : Part.sub [.registers, .scrub] W = true) (a1 link : Nat) :
    Touch W a (State.badBeat s a1 link) := by
  refine h.step hw ?_
  unfold State.badBeat
  exact touch_poison (State.inc_touch .refl (by decide) _) (by decide) _

theorem State.carryPoison_touch (h : Touch W a s) (hw : Part.sub [.scrub] W = true) (src dst n : Nat) :
    Touch W a (State.carryPoison s src dst n) := by
  refine h.step hw ?_
  unfold State.carryPoison
  exact touch_poison .refl (by decide) _

theorem State.streamShort_touch (h : Touch W a s) (hw : Part.sub [.frame, .records] W = true) (core desc : Nat) :
    Touch W a (State.streamShort s core desc) := by
  refine h.step hw ?_
  unfold State.streamShort
  exact State.raise_touch .refl (by decide) _ _ _ _ _

theorem State.routeRead_touch (h : Touch W a s) (hw : Part.sub [.registers, .sent, .frame, .scrub, .records, .suspects, .free] W =
    true) (r : Route) (errs : List WordErr) (lines : List Nat) :
    Touch W a (State.routeRead s r errs lines).s := by
  refine h.step hw ?_
  unfold State.routeRead
  try dsimp only
  exact touch_ite_by Rd.s (State.readTier_touch .refl (by decide) _ _ _ _) (State.readSpd_touch .refl (by decide) _ _ _ _ _)

theorem execStreamRoute_touch (h : Touch W a s) (hw : Part.sub [.clock, .registers, .memory, .sent, .frame, .slots, .scrub,
    .records, .suspects, .free] W = true) (t core slot : Nat) (bad : List (Nat × Nat)) (errs : List WordErr) (lines : List Nat) :
    ∀ u, execStreamRoute t core slot bad errs lines s = .next u → Touch W a u := by
  refine outTouch_step h hw ?_
  unfold execStreamRoute
  exact (by
      try dsimp -proj only
      split
      · exact outTouch_next (State.at_touch .refl (by decide) _)
      · exact outTouch_ite (outTouch_ite (outTouch_next (State.streamShort_touch (State.mark_touch (State.at_touch .refl (by decide)
          _) (by decide) _ _) (by decide) _ _)) (outTouch_next (touch_foldl _ (State.carryPoison_touch (touch_ite (State.write_touch
          (State.routeRead_touch (State.mark_touch (State.at_touch .refl (by decide) _) (by decide) _ _) (by decide) _ _ _)
          (by decide) _ _) (State.writeSpd_touch (State.routeRead_touch (State.mark_touch (State.at_touch .refl (by decide) _)
          (by decide) _ _) (by decide) _ _ _) (by decide) _ _ _ _)) (by decide) _ _ _) (fun u _ hu => (State.badBeat_touch hu
          (by decide) _ _))))) (outTouch_next (State.at_touch .refl (by decide) _)))

theorem execCdcSlip_touch (h : Touch W a s) (hw : Part.sub [.clock, .frame, .records] W = true) (t link : Nat) :
    ∀ u, execCdcSlip t link s = .next u → Touch W a u := by
  refine outTouch_step h hw ?_
  unfold execCdcSlip
  exact outTouch_ite (outTouch_next (State.raise_touch (State.at_touch .refl (by decide) _) (by decide) _ _ _ _ _)) (outTouch_next
    (State.at_touch .refl (by decide) _))

theorem State.pllLoss_touch (h : Touch W a s) (hw : Part.sub [.frame, .records, .clocks] W = true) (n : Nat) :
    Touch W a (State.pllLoss s n) := by
  refine h.step hw ?_
  unfold State.pllLoss
  exact touch_ite .refl (State.raise_touch (touch_pllLost .refl (by decide) _) (by decide) _ _ _ _ _)

theorem execPllUnlock_touch (h : Touch W a s) (hw : Part.sub [.clock, .frame, .records, .clocks] W = true) (t region : Nat) :
    ∀ u, execPllUnlock t region s = .next u → Touch W a u := by
  refine outTouch_step h hw ?_
  unfold execPllUnlock
  exact outTouch_ite (outTouch_next (State.pllLoss_touch (State.at_touch .refl (by decide) _) (by decide) _)) (outTouch_next
    (State.at_touch .refl (by decide) _))

theorem State.epochUp_touch (h : Touch W a s) (hw : Part.sub [.registers] W = true) (k i : Nat) :
    Touch W a (State.epochUp s k i) := by
  refine h.step hw ?_
  unfold State.epochUp
  exact State.setf_touch .refl (by decide) _ _

theorem State.staleReply_touch (h : Touch W a s) (hw : Part.sub [.registers, .frame, .records] W = true) (k i old : Nat) :
    Touch W a (State.staleReply s k i old) := by
  refine h.step hw ?_
  unfold State.staleReply
  exact touch_ite (State.raise_touch .refl (by decide) _ _ _ _ _) (State.inc_touch .refl (by decide) _)

theorem State.larkspurDown_touch (h : Touch W a s) (hw : Part.sub [.registers, .transactions, .mail] W = true) :
    Touch W a (State.larkspurDown s) := by
  refine h.step hw ?_
  unfold State.larkspurDown
  exact touch_lspIn (State.setOpen_touch .refl (by decide) _ _) (by decide) _

theorem State.resetPart_touch (h : Touch W a s) (hw : Part.sub [.registers, .frame, .transactions, .records, .mail] W = true) (k i
    : Nat) (late : Bool) :
    Touch W a (State.resetPart s k i late) := by
  refine h.step hw ?_
  unfold State.resetPart
  exact State.when_touch (State.when_touch (State.setf_touch (State.epochUp_touch .refl (by decide) _ _) (by decide) _ _) _ _ (fun u
    hu => (State.larkspurDown_touch hu (by decide) ))) _ _ (fun u1 hu1 => (State.staleReply_touch hu1 (by decide) _ _ _))

theorem State.wrUnitReset_touch (h : Touch W a s) (hw : Part.sub [.registers, .sent, .frame, .transactions, .records, .mail] W =
    true) (q : Requester) (late : Bool) :
    Touch W a (State.wrUnitReset s q late) := by
  refine h.step hw ?_
  unfold State.wrUnitReset
  exact State.guarded_touch .refl (by decide) _ _ _ _ _ (fun u hu => (State.resetPart_touch hu (by decide) _ _ _))

theorem execUnitReset_touch (h : Touch W a s) (hw : Part.sub [.clock, .registers, .sent, .frame, .transactions, .records, .mail] W
    = true) (t : Nat) (q : Requester) (late : Bool) :
    ∀ u, execUnitReset t q late s = .next u → Touch W a u := by
  refine outTouch_step h hw ?_
  unfold execUnitReset
  exact outTouch_next (State.wrUnitReset_touch (State.at_touch .refl (by decide) _) (by decide) _ _)

theorem execUnitResetEnd_touch (h : Touch W a s) (hw : Part.sub [.clock, .registers] W = true) (t kind idx : Nat) :
    ∀ u, execUnitResetEnd t kind idx s = .next u → Touch W a u := by
  refine outTouch_step h hw ?_
  unfold execUnitResetEnd
  exact outTouch_ite (outTouch_next (State.setf_touch (State.at_touch .refl (by decide) _) (by decide) _ _)) (outTouch_next
    (State.at_touch .refl (by decide) _))

theorem State.writeEn_touch (h : Touch W a s) (hw : Part.sub [.registers] W = true) (c n v : Nat) :
    Touch W a (State.writeEn s c n v) := by
  refine h.step hw ?_
  unfold State.writeEn
  exact touch_ite (State.setf_touch .refl (by decide) _ _) (touch_ite (State.setf_touch .refl (by decide) _ _) (touch_ite
    (State.setf_touch (State.setf_touch .refl (by decide) _ _) (by decide) _ _) .refl))

theorem State.wrUnitEn_touch (h : Touch W a s) (hw : Part.sub [.registers, .sent] W = true) (q : Requester) (val : Word) :
    Touch W a (State.wrUnitEn s q val) := by
  refine h.step hw ?_
  unfold State.wrUnitEn
  exact State.guarded_touch .refl (by decide) _ _ _ _ _ (fun u hu => (touch_foldl _ hu (fun u1 _ hu1 => (State.writeEn_touch hu1
    (by decide) _ _ _))))

theorem execUnitEnWrite_touch (h : Touch W a s) (hw : Part.sub [.clock, .registers, .sent] W = true) (t : Nat) (q : Requester) (val
    : Word) :
    ∀ u, execUnitEnWrite t q val s = .next u → Touch W a u := by
  refine outTouch_step h hw ?_
  unfold execUnitEnWrite
  exact outTouch_next (State.wrUnitEn_touch (State.at_touch .refl (by decide) _) (by decide) _ _)

theorem State.drainTile_touch (h : Touch W a s) (hw : Part.sub [.registers, .sent, .frame, .lanes, .results, .records] W = true) (T
    : Nat) :
    Touch W a (State.drainTile s T) := by
  refine h.step hw ?_
  unfold State.drainTile
  exact State.setf_touch (touch_held (touch_foldl _ .refl (fun u _ hu => (State.merge_touch hu (by decide) _ _ _ _))) (by decide) _)
    (by decide) _ _

theorem execUnitDrainDone_touch (h : Touch W a s) (hw : Part.sub [.clock, .registers, .sent, .frame, .lanes, .results, .records] W
    = true) (t core n : Nat) :
    ∀ u, execUnitDrainDone t core n s = .next u → Touch W a u := by
  refine outTouch_step h hw ?_
  unfold execUnitDrainDone
  exact outTouch_ite (outTouch_ite (outTouch_next (State.evt_touch (State.setf_touch (State.setf_touch (touch_ite
    (State.drainTile_touch (State.setf_touch (State.at_touch .refl (by decide) _) (by decide) _ _) (by decide) _) (touch_ite
    (State.setf_touch (State.setf_touch (State.at_touch .refl (by decide) _) (by decide) _ _) (by decide) _ _) (touch_ite
    (touch_foldl _ (State.setf_touch (State.at_touch .refl (by decide) _) (by decide) _ _) (fun u _ hu => (State.drainTile_touch hu
    (by decide) _))) (State.setf_touch (State.at_touch .refl (by decide) _) (by decide) _ _)))) (by decide) _ _) (by decide) _ _)
    (by decide) _)) (outTouch_next (touch_ite (State.drainTile_touch (State.setf_touch (State.at_touch .refl (by decide) _)
    (by decide) _ _) (by decide) _) (touch_ite (State.setf_touch (State.setf_touch (State.at_touch .refl (by decide) _) (by decide)
    _ _) (by decide) _ _) (touch_ite (touch_foldl _ (State.setf_touch (State.at_touch .refl (by decide) _) (by decide) _ _) (fun u _
    hu => (State.drainTile_touch hu (by decide) _))) (State.setf_touch (State.at_touch .refl (by decide) _) (by decide) _ _))))))
    (outTouch_next (State.at_touch .refl (by decide) _))

end Sys2Proof.Machine
end

