-- ==== Sys2Proof/Laws/FrameValidate.lean ====
section
/-! SUPPORT. What each operation and each meaning of Machine/Validate.lean may change. -/

namespace Sys2Proof.Machine

variable {W : List Part} {a s : State}

theorem State.trial_touch (h : Touch W a s) (hw : Part.sub [.registers, .image] W = true) (im : Image) (c : Combo) :
    Touch W a (State.trial s im c) := by
  refine h.step hw ?_
  unfold State.trial
  exact State.putPatches_touch (State.setf_touch (State.setf_touch (touch_img .refl (by decide) _) (by decide) _ _) (by decide) _ _)
    (by decide) _

end Sys2Proof.Machine
end

