-- ==== Sys2Proof/Laws/FrameLoad.lean ====
section
/-! SUPPORT. What each operation and each meaning of Machine/Load.lean may change. -/

namespace Sys2Proof.Machine

variable {W : List Part} {a s : State}

theorem State.setImgId_touch (h : Touch W a s) (hw : Part.sub [.registers] W = true) (lo hi : Nat) :
    Touch W a (State.setImgId s lo hi) := by
  refine h.step hw ?_
  unfold State.setImgId
  exact State.setf_touch (State.setf_touch .refl (by decide) _ _) (by decide) _ _

theorem State.loadFail_touch (h : Touch W a s) (hw : Part.sub [.registers, .sent, .load] W = true) (err off : Nat) :
    Touch W a (State.loadFail s err off) := by
  refine h.step hw ?_
  unfold State.loadFail
  exact State.evt_touch (touch_loadArrs_staging_stageBase_stageLen_loadStop_loadFact (State.setImgId_touch (State.setf_touch
    (State.setf_touch (State.setf_touch .refl (by decide) _ _) (by decide) _ _) (by decide) _ _) (by decide) _ _) (by decide) _ _ _
    _ _ _) (by decide) _

theorem State.loadStep_touch (h : Touch W a s) (hw : Part.sub [.registers, .sent, .load] W = true) (f : State → State) (hf : ∀ u,
    Touch W a u → Touch W a (f u)) :
    Touch W a (State.loadStep s f) := by
  unfold State.loadStep
  exact touch_ite (State.loadFail_touch h (Part.sub_trans (by decide) hw) _ _) (hf _ h)

theorem State.load_touch (h : Touch W a s) (hw : Part.sub [.registers, .sent, .load] W = true) (img : Image) :
    Touch W a (State.load s img) := by
  refine h.step hw ?_
  unfold State.load
  exact touch_ite (State.setf_touch .refl (by decide) _ _) (touch_ite (State.loadFail_touch .refl (by decide) _ _) (touch_ite
    (State.loadFail_touch (touch_loadArrs_staging_stageBase_stageLen_loadStop_loadFact (State.setImgId_touch (State.setf_touch
    (State.setf_touch (State.setf_touch (State.setf_touch (State.setf_touch (State.setf_touch .refl (by decide) _ _) (by decide) _
    _) (by decide) _ _) (by decide) _ _) (by decide) _ _) (by decide) _ _) (by decide) _ _) (by decide) _ _ _ _ _ _) (by decide) _
    _) (touch_ite (State.loadFail_touch (touch_loadArrs_staging_stageBase_stageLen_loadStop_loadFact (State.setImgId_touch
    (State.setf_touch (State.setf_touch (State.setf_touch (State.setf_touch (State.setf_touch (State.setf_touch .refl (by decide) _
    _) (by decide) _ _) (by decide) _ _) (by decide) _ _) (by decide) _ _) (by decide) _ _) (by decide) _ _) (by decide) _ _ _ _ _
    _) (by decide) _ _) (touch_ite (State.loadFail_touch (touch_loadArrs_staging_stageBase_stageLen_loadStop_loadFact
    (State.setImgId_touch (State.setf_touch (State.setf_touch (State.setf_touch (State.setf_touch (State.setf_touch
    (State.setf_touch .refl (by decide) _ _) (by decide) _ _) (by decide) _ _) (by decide) _ _) (by decide) _ _) (by decide) _ _)
    (by decide) _ _) (by decide) _ _ _ _ _ _) (by decide) _ _) (touch_loadArrs_staging_stageBase_stageLen_loadStop_loadFact
    (State.setImgId_touch (State.setf_touch (State.setf_touch (State.setf_touch (State.setf_touch (State.setf_touch
    (State.setf_touch .refl (by decide) _ _) (by decide) _ _) (by decide) _ _) (by decide) _ _) (by decide) _ _) (by decide) _ _)
    (by decide) _ _) (by decide) _ _ _ _ _ _)))))

theorem execLoad_touch (h : Touch W a s) (hw : Part.sub [.clock, .registers, .sent, .load] W = true) (t : Nat) (q : Requester) (img
    : Image) :
    ∀ u, execLoad t q img s = .next u → Touch W a u := by
  refine outTouch_step h hw ?_
  unfold execLoad
  exact outTouch_next (State.guarded_touch (State.at_touch .refl (by decide) _) (by decide) _ _ _ _ _ (fun u hu => (State.load_touch
    hu (by decide) _)))

theorem State.loadAbort_touch (h : Touch W a s) (hw : Part.sub [.load] W = true) :
    Touch W a (State.loadAbort s) := by
  refine h.step hw ?_
  unfold State.loadAbort
  exact touch_ite (touch_loadStop .refl (by decide) _) .refl

theorem State.wrLoadAbort_touch (h : Touch W a s) (hw : Part.sub [.registers, .sent, .load] W = true) (q : Requester) :
    Touch W a (State.wrLoadAbort s q) := by
  refine h.step hw ?_
  unfold State.wrLoadAbort
  exact State.guarded_touch .refl (by decide) _ _ _ _ _ (fun u hu => (State.loadAbort_touch hu (by decide) ))

theorem execLoadAbort_touch (h : Touch W a s) (hw : Part.sub [.clock, .registers, .sent, .load] W = true) (t : Nat) (q : Requester) :
    ∀ u, execLoadAbort t q s = .next u → Touch W a u := by
  refine outTouch_step h hw ?_
  unfold execLoadAbort
  exact outTouch_next (State.wrLoadAbort_touch (State.at_touch .refl (by decide) _) (by decide) _)

theorem State.decryptFail_touch (h : Touch W a s) (hw : Part.sub [.registers, .memory, .sent, .load] W = true) (off : Nat) :
    Touch W a (State.decryptFail s off) := by
  refine h.step hw ?_
  unfold State.decryptFail
  exact State.loadFail_touch (State.write_touch .refl (by decide) _ _) (by decide) _ _

theorem State.loadArr_touch (h : Touch W a s) (hw : Part.sub [.registers, .sent, .programming, .load] W = true) (rec : Nat) :
    Touch W a (State.loadArr s rec) := by
  refine h.step hw ?_
  unfold State.loadArr
  exact touch_ite (State.inc_touch (touch_loadArrs .refl (by decide) _) (by decide) _) (State.progQueue_touch (touch_loadArrs .refl
    (by decide) _) (by decide) _ _ _)

theorem State.loadProgram_touch (h : Touch W a s) (hw : Part.sub [.registers, .memory, .sent, .programming, .load] W = true) (im :
    Image) :
    Touch W a (State.loadProgram s im) := by
  refine h.step hw ?_
  unfold State.loadProgram
  exact touch_foldl _ (State.setf_touch (State.when_touch (touch_foldl _ (State.setf_touch .refl (by decide) _ _) (fun u _ hu =>
    (State.write_touch hu (by decide) _ _))) _ _ (fun u1 hu1 => (State.write_touch hu1 (by decide) _ _))) (by decide) _ _) (fun u2 _
    hu2 => (State.loadArr_touch hu2 (by decide) _))

theorem State.loadValidate_touch (h : Touch W a s) (hw : Part.sub [.registers, .memory, .sent, .programming, .image, .load] W =
    true) (vet : Option Nat) (place : Nat) :
    Touch W a (State.loadValidate s vet place) := by
  refine h.step hw ?_
  unfold State.loadValidate
  exact (by
      try dsimp -proj only
      split
      · exact .refl
      · exact (by
            try dsimp -proj only
            split
            · exact State.loadProgram_touch (touch_topoDigest (State.setf_touch .refl (by decide) _ _) (by decide) _) (by decide) _
            · exact State.loadFail_touch (touch_topoDigest (State.setf_touch .refl (by decide) _ _) (by decide) _) (by decide) _ _))

theorem execHashDone_touch (h : Touch W a s) (hw : Part.sub [.clock, .registers, .memory, .sent, .programming, .image, .load] W =
    true) (t : Nat) (sig : Bool) (vet : Option Nat) (place : Nat) :
    ∀ u, execHashDone t sig vet place s = .next u → Touch W a u := by
  refine outTouch_step h hw ?_
  unfold execHashDone
  exact outTouch_ite (outTouch_next (State.at_touch .refl (by decide) _)) (outTouch_next (State.loadStep_touch (State.at_touch .refl
    (by decide) _) (by decide) _ (fun u hu => (touch_ite (State.loadFail_touch (touch_imgDigest (State.setf_touch hu (by decide) _
    _) (by decide) _) (by decide) _ _) (touch_ite (State.loadFail_touch (State.inc_touch (touch_imgDigest (State.setf_touch hu
    (by decide) _ _) (by decide) _) (by decide) _) (by decide) _ _) (touch_ite (State.loadValidate_touch (touch_imgDigest
    (State.setf_touch hu (by decide) _ _) (by decide) _) (by decide) _ _) (touch_ite (State.decryptFail_touch (touch_imgDigest
    (State.setf_touch hu (by decide) _ _) (by decide) _) (by decide) _) (touch_imgDigest (State.setf_touch hu (by decide) _ _)
    (by decide) _))))))))

theorem execDecryptDone_touch (h : Touch W a s) (hw : Part.sub [.clock, .registers, .memory, .sent, .programming, .image, .load] W
    = true) (t : Nat) (tag : Bool) (plain : List Nat) (vet : Option Nat) (place : Nat) :
    ∀ u, execDecryptDone t tag plain vet place s = .next u → Touch W a u := by
  refine outTouch_step h hw ?_
  unfold execDecryptDone
  exact outTouch_ite (outTouch_next (State.at_touch .refl (by decide) _)) (outTouch_next (State.loadStep_touch (State.at_touch .refl
    (by decide) _) (by decide) _ (fun u hu => (touch_ite (State.decryptFail_touch hu (by decide) _) (State.loadValidate_touch
    (State.write_touch hu (by decide) _ _) (by decide) _ _)))))

theorem execLoadProgrammed_touch (h : Touch W a s) (hw : Part.sub [.clock, .registers, .sent, .load] W = true) (t : Nat) :
    ∀ u, execLoadProgrammed t s = .next u → Touch W a u := by
  refine outTouch_step h hw ?_
  unfold execLoadProgrammed
  exact outTouch_ite (outTouch_next (State.loadStep_touch (State.at_touch .refl (by decide) _) (by decide) _ (fun u hu => (touch_ite
    (State.loadFail_touch hu (by decide) _ _) (touch_loadFact hu (by decide) _))))) (outTouch_next (State.at_touch .refl (by decide)
    _))

theorem execLoadDone_touch (h : Touch W a s) (hw : Part.sub [.clock, .registers, .memory, .sent, .load] W = true) (t : Nat) (facts
    : List (Nat × List Nat)) :
    ∀ u, execLoadDone t facts s = .next u → Touch W a u := by
  refine outTouch_step h hw ?_
  unfold execLoadDone
  exact outTouch_ite (outTouch_next (State.loadStep_touch (State.at_touch .refl (by decide) _) (by decide) _ (fun u hu =>
    (State.evt_touch (State.setf_touch (touch_loadArrs_loadFact (touch_foldl _ (State.setImgId_touch hu (by decide) _ _) (fun u1 _
    hu1 => (State.write_touch hu1 (by decide) _ _))) (by decide) _ _) (by decide) _ _) (by decide) _)))) (outTouch_next
    (State.at_touch .refl (by decide) _))

end Sys2Proof.Machine
end

