-- ==== Sys2Proof/Laws/FramePorts.lean ====
section
/-! SUPPORT. What each operation and each meaning of Machine/Ports.lean may change. -/

namespace Sys2Proof.Machine

variable {W : List Part} {a s : State}

theorem State.sendBeacon_touch (h : Touch W a s) (hw : Part.sub [.sent, .links] W = true) (p : Nat) :
    Touch W a (State.sendBeacon s p) := by
  refine h.step hw ?_
  unfold State.sendBeacon
  exact touch_ite .refl (touch_out (State.setPrt_touch .refl (by decide) _ _) (by decide) _)

theorem execBeaconSend_touch (h : Touch W a s) (hw : Part.sub [.clock, .sent, .links] W = true) (t : Nat) :
    ∀ u, execBeaconSend t s = .next u → Touch W a u := by
  refine outTouch_step h hw ?_
  unfold execBeaconSend
  exact outTouch_ite (outTouch_next (touch_foldl _ (State.at_touch .refl (by decide) _) (fun u _ hu => (State.sendBeacon_touch hu
    (by decide) _)))) (outTouch_next (State.at_touch .refl (by decide) _))

theorem State.spareLit_touch (h : Touch W a s) (hw : Part.sub [.registers] W = true) (p : Nat) :
    Touch W a (State.spareLit s p) := by
  refine h.step hw ?_
  unfold State.spareLit
  exact State.when_touch .refl _ _ (fun u hu => (State.setf_touch hu (by decide) _ _))

theorem execBeacon_touch (h : Touch W a s) (hw : Part.sub [.clock, .registers, .sent, .frame, .transactions, .records, .links,
    .quadrille, .doors] W = true) (t port : Nat) (f : Flit) :
    ∀ u, execBeacon t port f s = .next u → Touch W a u := by
  refine outTouch_step h hw ?_
  unfold execBeacon
  exact outTouch_ite (outTouch_ite (outTouch_next (State.postStart_touch (State.when_touch (State.rejudge_touch
    (State.spareLit_touch (State.setPrt_touch (State.setf_touch (State.setf_touch (State.setf_touch (State.rx_touch (State.at_touch
    .refl (by decide) _) (by decide) _ _ _ _) (by decide) _ _) (by decide) _ _) (by decide) _ _) (by decide) _ _) (by decide) _)
    (by decide) ) _ _ (fun u hu => (State.setPrt_touch hu (by decide) _ _))) (by decide) )) (outTouch_next (State.rx_touch
    (State.at_touch .refl (by decide) _) (by decide) _ _ _ _))) (outTouch_next (State.at_touch .refl (by decide) _))

theorem execPromenadeTimeout_touch (h : Touch W a s) (hw : Part.sub [.clock, .registers, .sent] W = true) (t : Nat) :
    ∀ u, execPromenadeTimeout t s = .next u → Touch W a u := by
  refine outTouch_step h hw ?_
  unfold execPromenadeTimeout
  exact (by
      try dsimp -proj only
      split
      · exact outTouch_ite (outTouch_next (State.rejudge_touch (State.at_touch .refl (by decide) _) (by decide) )) (outTouch_next
          (State.at_touch .refl (by decide) _))
      · exact outTouch_next (State.at_touch .refl (by decide) _))

theorem State.loadPlan_touch (h : Touch W a s) (hw : Part.sub [.registers, .sent, .frame, .transactions, .records, .links, .plan,
    .quadrille, .doors, .free] W = true) (a0 : Nat) :
    Touch W a (State.loadPlan s a0) := by
  refine h.step hw ?_
  unfold State.loadPlan
  exact State.postStart_touch (State.rejudge_touch (touch_ite (touch_planAt_plan_freeCount .refl (by decide) _ _ _) (touch_foldl _
    (touch_planAt_plan_freeCount .refl (by decide) _ _ _) (fun u _ hu => (State.setf_touch hu (by decide) _ _)))) (by decide) )
    (by decide)

theorem State.wrPlan_touch (h : Touch W a s) (hw : Part.sub [.registers, .sent, .frame, .transactions, .records, .links, .plan,
    .quadrille, .doors, .free] W = true) (q : Requester) (addr : Nat) :
    Touch W a (State.wrPlan s q addr) := by
  refine h.step hw ?_
  unfold State.wrPlan
  exact State.guarded_touch .refl (by decide) _ _ _ _ _ (fun u hu => (State.loadPlan_touch (State.setf_touch hu (by decide) _ _)
    (by decide) _))

theorem execCablePlanLoad_touch (h : Touch W a s) (hw : Part.sub [.clock, .registers, .sent, .frame, .transactions, .records,
    .links, .plan, .quadrille, .doors, .free] W = true) (t : Nat) (q : Requester) (addr : Nat) :
    ∀ u, execCablePlanLoad t q addr s = .next u → Touch W a u := by
  refine outTouch_step h hw ?_
  unfold execCablePlanLoad
  exact outTouch_next (State.wrPlan_touch (State.at_touch .refl (by decide) _) (by decide) _ _)

theorem State.portDark_touch (h : Touch W a s) (hw : Part.sub [.registers, .sent, .links, .pool] W = true) (p : Nat) :
    Touch W a (State.portDark s p) := by
  refine h.step hw ?_
  unfold State.portDark
  exact State.poolEpoch_touch (touch_tx (State.setPrt_touch (State.setf_touch (State.setf_touch (State.setf_touch (State.setf_touch
    (State.setf_touch .refl (by decide) _ _) (by decide) _ _) (by decide) _ _) (by decide) _ _) (by decide) _ _) (by decide) _ _)
    (by decide) _) (by decide) _

theorem execLossOfLight_touch (h : Touch W a s) (hw : Part.sub [.clock, .registers, .sent, .frame, .records, .links, .pool] W =
    true) (t port : Nat) :
    ∀ u, execLossOfLight t port s = .next u → Touch W a u := by
  refine outTouch_step h hw ?_
  unfold execLossOfLight
  exact outTouch_ite (outTouch_next (State.rejudge_touch (State.raise_touch (State.fabEvt_touch (State.inc_touch
    (State.portDark_touch (State.at_touch .refl (by decide) _) (by decide) _) (by decide) _) (by decide) _ _) (by decide) _ _ _ _ _)
    (by decide) )) (outTouch_next (State.at_touch .refl (by decide) _))

theorem execLightSteady_touch (h : Touch W a s) (hw : Part.sub [.clock, .registers] W = true) (t port : Nat) :
    ∀ u, execLightSteady t port s = .next u → Touch W a u := by
  refine outTouch_step h hw ?_
  unfold execLightSteady
  exact outTouch_ite (outTouch_next (State.setf_touch (State.at_touch .refl (by decide) _) (by decide) _ _)) (outTouch_next
    (State.at_touch .refl (by decide) _))

theorem State.trained_touch (h : Touch W a s) (hw : Part.sub [.registers, .sent, .links] W = true) (p st rtt far : Nat) :
    Touch W a (State.trained s p st rtt far) := by
  refine h.step hw ?_
  unfold State.trained
  exact State.sendBeacon_touch (State.setPrt_touch (State.setf_touch (State.setf_touch .refl (by decide) _ _) (by decide) _ _)
    (by decide) _ _) (by decide) _

theorem execPortUp_touch (h : Touch W a s) (hw : Part.sub [.clock, .registers, .sent, .links] W = true) (t port rtt far : Nat) :
    ∀ u, execPortUp t port rtt far s = .next u → Touch W a u := by
  refine outTouch_step h hw ?_
  unfold execPortUp
  exact outTouch_ite (outTouch_ite (outTouch_next (State.rejudge_touch (State.fabEvt_touch (State.setf_touch (State.at_touch .refl
    (by decide) _) (by decide) _ _) (by decide) _ _) (by decide) )) (outTouch_next (State.rejudge_touch (State.trained_touch
    (State.at_touch .refl (by decide) _) (by decide) _ _ _ _) (by decide) ))) (outTouch_next (State.at_touch .refl (by decide) _))

theorem State.writePortEn_touch (h : Touch W a s) (hw : Part.sub [.registers] W = true) (p : Nat) (en : Bool) :
    Touch W a (State.writePortEn s p en) := by
  refine h.step hw ?_
  unfold State.writePortEn
  exact touch_ite (State.setf_touch .refl (by decide) _ _) (touch_ite (State.setf_touch .refl (by decide) _ _) (State.when_touch
    (State.setf_touch .refl (by decide) _ _) _ _ (fun u hu => (State.setf_touch hu (by decide) _ _))))

theorem State.wrPortEn_touch (h : Touch W a s) (hw : Part.sub [.registers, .sent] W = true) (q : Requester) (port : Nat) (en : Bool) :
    Touch W a (State.wrPortEn s q port en) := by
  refine h.step hw ?_
  unfold State.wrPortEn
  exact touch_ite (State.guarded_touch .refl (by decide) _ _ _ _ _ (fun u hu => (State.writePortEn_touch hu (by decide) _ _))) .refl

theorem execPortEnWrite_touch (h : Touch W a s) (hw : Part.sub [.clock, .registers, .sent] W = true) (t : Nat) (q : Requester)
    (port : Nat) (en : Bool) :
    ∀ u, execPortEnWrite t q port en s = .next u → Touch W a u := by
  refine outTouch_step h hw ?_
  unfold execPortEnWrite
  exact outTouch_next (State.wrPortEn_touch (State.at_touch .refl (by decide) _) (by decide) _ _ _)

theorem execPortDrainDone_touch (h : Touch W a s) (hw : Part.sub [.clock, .registers, .sent, .links, .pool] W = true) (t port : Nat) :
    ∀ u, execPortDrainDone t port s = .next u → Touch W a u := by
  refine outTouch_step h hw ?_
  unfold execPortDrainDone
  exact outTouch_ite (outTouch_next (State.rejudge_touch (State.when_touch (State.portDark_touch (State.setf_touch (State.at_touch
    .refl (by decide) _) (by decide) _ _) (by decide) _) _ _ (fun u hu => (State.setf_touch (State.setf_touch hu (by decide) _ _)
    (by decide) _ _))) (by decide) )) (outTouch_next (State.at_touch .refl (by decide) _))

theorem State.standIn_touch (h : Touch W a s) (hw : Part.sub [.registers, .sent, .links, .pool] W = true) (m old : Nat) :
    Touch W a (State.standIn s m old) := by
  refine h.step hw ?_
  unfold State.standIn
  exact touch_ite .refl (touch_ite (State.setf_touch (State.portDark_touch (State.portDark_touch .refl (by decide) _) (by decide) _)
    (by decide) _ _) (touch_ite (State.setPrt_touch (State.setf_touch (State.portDark_touch .refl (by decide) _) (by decide) _ _)
    (by decide) _ _) .refl))

theorem execStandinRetrainDone_touch (h : Touch W a s) (hw : Part.sub [.clock, .registers, .sent, .links, .pool] W = true) (t port
    rtt far : Nat) :
    ∀ u, execStandinRetrainDone t port rtt far s = .next u → Touch W a u := by
  refine outTouch_step h hw ?_
  unfold execStandinRetrainDone
  exact outTouch_ite (outTouch_next (State.rejudge_touch (State.setPrt_touch (State.trained_touch (State.at_touch .refl (by decide)
    _) (by decide) _ _ _ _) (by decide) _ _) (by decide) )) (outTouch_ite (outTouch_next (State.rejudge_touch (State.trained_touch
    (State.portDark_touch (State.at_touch .refl (by decide) _) (by decide) _) (by decide) _ _ _ _) (by decide) )) (outTouch_next
    (State.at_touch .refl (by decide) _)))

theorem execStandinFail_touch (h : Touch W a s) (hw : Part.sub [.clock, .registers, .sent, .frame, .records, .links] W = true) (t
    port : Nat) :
    ∀ u, execStandinFail t port s = .next u → Touch W a u := by
  refine outTouch_step h hw ?_
  unfold execStandinFail
  exact (by
      try dsimp -proj only
      split
      · exact outTouch_ite (outTouch_next (State.raise_touch (State.fabEvt_touch (State.setPrt_touch (State.at_touch .refl
          (by decide) _) (by decide) _ _) (by decide) _ _) (by decide) _ _ _ _ _)) (outTouch_next (State.at_touch .refl (by decide)
          _))
      · exact outTouch_next (State.at_touch .refl (by decide) _))

end Sys2Proof.Machine
end

