-- ==== Sys2Proof/Laws/FrameApply.lean ====
section
/-! SUPPORT. What each operation and each meaning of Machine/Apply.lean may change. -/

namespace Sys2Proof.Machine

variable {W : List Part} {a s : State}

theorem State.putBits_touch (h : Touch W a s) (hw : Part.sub [.registers] W = true) (k mask v : Nat) :
    Touch W a (State.putBits s k mask v) := by
  refine h.step hw ?_
  unfold State.putBits
  exact State.setReg_touch .refl (by decide) _ _

theorem State.clearBank_touch (h : Touch W a s) (hw : Part.sub [.registers, .memory, .scrub] W = true) (c k : Nat) :
    Touch W a (State.clearBank s c k) := by
  have hw' {K : List Part} (hk : Part.sub K [.registers, .memory, .scrub] = true) : Part.sub K W = true := Part.sub_trans hk hw
  exact State.setf_touch (touch_clearing (touch_scrubLog (touch_poison (touch_mem h (hw' (by decide)) _ (scanon_sublist
    List.filter_sublist)) (hw' (by decide)) _) (hw' (by decide)) _) (hw' (by decide)) _) (hw' (by decide)) _ _

theorem State.remap_touch (h : Touch W a s) (hw : Part.sub [.memory] W = true) (old : State) :
    Touch W a (State.remap s old) := by
  refine touch_mem h hw _ (fun _ => ?_)
  have hf (m m' : List Host.Cell) (f : List Host.Cell → Host.Cell → List Host.Cell)
      (hs : ∀ m p, scanon memDefault m = true → scanon memDefault (f m p) = true) (hc : scanon memDefault m' = true) :
      scanon memDefault (m.foldl f m') = true := by
    induction m generalizing m' with
    | nil => exact hc
    | cons p m ih => exact ih _ (hs _ _ hc)
  exact hf _ _ _ (fun _ _ hc => scanon_sset _ _ hc) (by decide)

theorem State.recountPages_touch (h : Touch W a s) (hw : Part.sub [.registers] W = true) :
    Touch W a (State.recountPages s) := by
  refine h.step hw ?_
  unfold State.recountPages
  exact State.setf_touch (State.setf_touch (State.setf_touch (State.setf_touch .refl (by decide) _ _) (by decide) _ _) (by decide) _
    _) (by decide) _ _

theorem State.coreEffect_touch (h : Touch W a s) (hw : Part.sub [.registers, .memory, .scrub] W = true) (old : State) (k : Nat) :
    Touch W a (State.coreEffect s old k) := by
  refine h.step hw ?_
  unfold State.coreEffect
  exact touch_ite (touch_foldl _ .refl (fun u _ hu => (State.when_touch hu _ _ (fun u1 hu1 => (State.clearBank_touch hu1 (by decide)
    _ _))))) (touch_ite (State.when_touch .refl _ _ (fun u2 hu2 => (State.setf_touch hu2 (by decide) _ _))) (touch_ite
    (State.when_touch .refl _ _ (fun u3 hu3 => (State.setf_touch hu3 (by decide) _ _))) .refl))

theorem State.regEffect_touch (h : Touch W a s) (hw : Part.sub [.registers, .memory, .sent, .frame, .transactions, .scrub,
    .prefixes, .taint, .links, .pool] W = true) (old : State) (k : Nat) :
    Touch W a (State.regEffect s old k) := by
  refine h.step hw ?_
  unfold State.regEffect
  exact touch_ite (State.coreEffect_touch .refl (by decide) _ _) (touch_ite .refl (touch_ite (touch_ownAt .refl (by decide) _)
    (touch_ite (State.rejudge_touch (touch_foldl _ .refl (fun u _ hu => (State.standIn_touch hu (by decide) _ _))) (by decide) )
    (touch_ite (touch_foldl _ .refl (fun u1 _ hu1 => (State.dropPrefix_touch hu1 (by decide) _))) (touch_ite (touch_foldl _ .refl
    (fun u2 _ hu2 => (State.setRail_touch hu2 (by decide) _ _))) (touch_ite (State.request_touch .refl (by decide) ) (touch_ite
    (State.remap_touch .refl (by decide) _) (touch_ite (State.rejudge_touch .refl (by decide) ) (touch_ite (State.jCount_touch .refl
    (by decide) ) (touch_ite (State.recountPages_touch .refl (by decide) ) .refl))))))))))

theorem State.memberGone_touch (h : Touch W a s) (hw : Part.sub [.registers, .memory, .sent, .requests, .admission, .journal,
    .quadrille] W = true) (l : Nat) :
    Touch W a (State.memberGone s l) := by
  refine h.step hw ?_
  unfold State.memberGone
  exact touch_ite .refl (State.adopt_touch (State.loseMember_touch .refl (by decide) _) (by decide) _)

theorem State.plantTree_touch (h : Touch W a s) (hw : Part.sub [.registers, .quadrille] W = true) (tp : Topo) :
    Touch W a (State.plantTree s tp) := by
  refine h.step hw ?_
  unfold State.plantTree
  exact State.showTree_touch (State.setf_touch (State.setf_touch (State.setf_touch (State.setf_touch (State.setf_touch (touch_qdr
    .refl (by decide) _) (by decide) _ _) (by decide) _ _) (by decide) _ _) (by decide) _ _) (by decide) _ _) (by decide) _ _

theorem State.memberBack_touch (h : Touch W a s) (hw : Part.sub [.registers, .admission, .quadrille] W = true) (l : Nat) :
    Touch W a (State.memberBack s l) := by
  refine h.step hw ?_
  unfold State.memberBack
  exact (by
      try dsimp -proj only
      split
      · exact .refl
      · exact touch_foldl _ (State.plantTree_touch (touch_qdr .refl (by decide) _) (by decide) _) (fun u _ hu =>
          (State.loseMember_touch hu (by decide) _)))

theorem State.powerDown_touch (h : Touch W a s) (hw : Part.sub [.registers] W = true) (c : Nat) :
    Touch W a (State.powerDown s c) := by
  refine h.step hw ?_
  unfold State.powerDown
  exact touch_foldl _ .refl (fun u _ hu => (State.setf_touch hu (by decide) _ _))

theorem State.rcvState_touch (h : Touch W a s) (hw : Part.sub [.registers, .sent] W = true) (old : State) (new : List Patch) :
    Touch W a (State.rcvState s old new) := by
  refine h.step hw ?_
  unfold State.rcvState
  exact touch_ite (State.setf_touch (State.setf_touch (touch_foldl _ .refl (fun u _ hu => (State.evt_touch (State.inc_touch
    (State.setf_touch (State.setf_touch hu (by decide) _ _) (by decide) _ _) (by decide) _) (by decide) _))) (by decide) _ _)
    (by decide) _ _) (touch_foldl _ .refl (fun u _ hu => (State.evt_touch (State.inc_touch (State.setf_touch (State.setf_touch hu
    (by decide) _ _) (by decide) _ _) (by decide) _) (by decide) _)))

theorem State.patchEffects_touch (h : Touch W a s) (hw : Part.sub [.registers, .memory, .sent, .fences, .requests, .admission,
    .journal, .quadrille] W = true) (old : State) :
    Touch W a (State.patchEffects s old) := by
  refine h.step hw ?_
  unfold State.patchEffects
  exact State.refreshUse_touch (State.rcvState_touch (touch_ite (touch_copied (touch_foldl _ (touch_foldl _ (touch_foldl _
    (touch_foldl _ (touch_fenced .refl (by decide) _) (fun u _ hu => (State.powerDown_touch hu (by decide) _))) (fun u1 _ hu1 =>
    (State.when_touch hu1 _ _ (fun u2 hu2 => (State.freeSuspect_touch hu2 (by decide) _))))) (fun u3 _ hu3 =>
    (State.memberGone_touch hu3 (by decide) _))) (fun u4 _ hu4 => (State.memberBack_touch hu4 (by decide) _))) (by decide) _)
    (touch_foldl _ (touch_foldl _ (touch_foldl _ (touch_foldl _ (touch_fenced .refl (by decide) _) (fun u _ hu =>
    (State.powerDown_touch hu (by decide) _))) (fun u1 _ hu1 => (State.when_touch hu1 _ _ (fun u2 hu2 => (State.freeSuspect_touch
    hu2 (by decide) _))))) (fun u3 _ hu3 => (State.memberGone_touch hu3 (by decide) _))) (fun u4 _ hu4 => (State.memberBack_touch
    hu4 (by decide) _)))) (by decide) _ _) (by decide)

theorem State.plainRegs_touch (h : Touch W a s) (hw : Part.sub [.registers] W = true) :
    Touch W a (State.plainRegs s) :=
  touch_foldl _ (touch_regs h hw _ (scanon_map_filter (fun _ => rfl))) (fun _ _ hu => State.setf_touch hu hw _ _)

theorem State.putEntry_touch (h : Touch W a s) (hw : Part.sub [.registers] W = true) (e : RegEntry) :
    Touch W a (State.putEntry s e) := by
  refine h.step hw ?_
  unfold State.putEntry
  exact touch_ite .refl (State.putBits_touch .refl (by decide) _ _ _)

theorem State.clearJob_touch (h : Touch W a s) (hw : Part.sub [.registers, .requests, .completions, .admission, .leaves, .prefixes,
    .sampling, .pages, .taint, .journal, .snapshots, .staged, .links, .membership, .mail] W = true) :
    Touch W a (State.clearJob s) := by
  refine h.step hw ?_
  unfold State.clearJob
  exact State.jCount_touch (State.countLive_touch (State.setDeferred_touch
    (touch_joinSeen_lspIn_prefixes_nextHandle_moving_cow_kvFail_taint_summaries_draftTok_chains_delivered_snaps_decLog_mirUsed_copied_fill_fillNext_staged
    (touch_reqs_posts_fwd_fwdIn_undecided_notices_leaves_evicts_arrivals_decisions_ctrlQ_freeRep_nextOrder .refl (by decide) _ _ _ _
    _ _ _ _ _ _ _ _ _) (by decide) _ _ _ _ _ _ _ _ _ _ _ _ _ _ _ _ _ _ _) (by decide) _) (by decide) ) (by decide)

theorem State.showServ_touch (h : Touch W a s) (hw : Part.sub [.registers, .memory] W = true) (sv : Serv) :
    Touch W a (State.showServ s sv) := by
  refine h.step hw ?_
  unfold State.showServ
  exact touch_foldl _ (State.setf_touch (State.setf_touch (State.setf_touch (State.setf_touch (State.setf_touch (touch_foldl _
    (State.setf_touch .refl (by decide) _ _) (fun u _ hu => (State.setf_touch (State.setf_touch hu (by decide) _ _) (by decide) _
    _))) (by decide) _ _) (by decide) _ _) (by decide) _ _) (by decide) _ _) (by decide) _ _) (fun u1 _ hu1 => (State.putPage_touch
    hu1 (by decide) _ _ _ _))

theorem State.setDrain_touch (h : Touch W a s) (hw : Part.sub [.registers, .sent, .service] W = true) (st : Nat) :
    Touch W a (State.setDrain s st) := by
  refine h.step hw ?_
  unfold State.setDrain
  exact touch_ite (touch_drain .refl (by decide) _) (State.evt_touch (State.setf_touch (touch_drain .refl (by decide) _) (by decide)
    _ _) (by decide) _)

theorem State.drainLeft_touch (h : Touch W a s) (hw : Part.sub [.registers, .sent, .doors, .service] W = true) :
    Touch W a (State.drainLeft s) := by
  refine h.step hw ?_
  unfold State.drainLeft
  exact touch_ite (State.reply_touch (touch_drain (State.setDrain_touch .refl (by decide) _) (by decide) _) (by decide) _ _ _)
    (State.setDrain_touch .refl (by decide) _)

theorem State.applyImage_touch (h : Touch W a s) (hw : Part.sub [.registers, .memory, .sent, .frame, .fences, .transactions,
    .scrub, .image, .load, .requests, .completions, .admission, .leaves, .prefixes, .sampling, .pages, .taint, .journal,
      .snapshots, .staged, .links, .quadrille, .membership, .pool, .yarrow, .mail, .service] W = true) (base : Nat) :
    Touch W a (State.applyImage s base) := by
  refine h.step hw ?_
  unfold State.applyImage
  exact (by
      try dsimp -proj only
      split
      · exact .refl
      · exact State.evt_touch (State.setPhase_touch (State.setf_touch (touch_drain (State.extend_touch (State.patchEffects_touch
          (State.plantTree_touch (State.setf_touch (State.setf_touch (State.setf_touch (State.setf_touch (State.setf_touch
          (State.jCount_touch (State.showServ_touch (State.clearJob_touch (touch_foldl _ (touch_foldl _ (State.putPatches_touch
          (State.setf_touch (State.setf_touch (State.setf_touch (State.setf_touch (State.setf_touch (State.setf_touch
          (touch_img_qdr_failSolo_staging (touch_foldl _ (touch_foldl _ (State.plainRegs_touch .refl (by decide) ) (fun u _ hu =>
          (State.putEntry_touch hu (by decide) _))) (fun u1 _ hu1 => (touch_foldl _ hu1 (fun u2 _ hu2 => (State.putBits_touch hu2
          (by decide) _ _ _))))) (by decide) _ _ _ _) (by decide) _ _) (by decide) _ _) (by decide) _ _) (by decide) _ _)
          (by decide) _ _) (by decide) _ _) (by decide) _) (fun u3 _ hu3 => (State.regEffect_touch hu3 (by decide) _ _))) (fun u4 _
          hu4 => (State.when_touch hu4 _ _ (fun u5 hu5 => (State.setf_touch hu5 (by decide) _ _))))) (by decide) ) (by decide) _)
          (by decide) ) (by decide) _ _) (by decide) _ _) (by decide) _ _) (by decide) _ _) (by decide) _ _) (by decide) _)
          (by decide) _) (by decide) _ _) (by decide) _) (by decide) _ _) (by decide) _) (by decide) _)

theorem State.removeImage_touch (h : Touch W a s) (hw : Part.sub [.registers, .memory, .sent, .frame, .fences, .transactions,
    .scrub, .image, .load, .requests, .completions, .admission, .leaves, .prefixes, .sampling, .pages, .taint, .journal,
      .snapshots, .staged, .links, .quadrille, .membership, .pool, .doors, .mail, .service] W = true) :
    Touch W a (State.removeImage s) := by
  refine h.step hw ?_
  unfold State.removeImage
  exact touch_ite .refl (touch_ite (State.drainLeft_touch (State.evt_touch (State.setPhase_touch (touch_foldl _
    (State.refreshUse_touch (State.setf_touch (State.setf_touch (State.setf_touch (State.setf_touch (State.setf_touch (touch_foldl _
    (State.showServ_touch (State.clearJob_touch (touch_foldl _ (State.setImgId_touch (State.setf_touch (State.setf_touch
    (State.setf_touch (touch_pav_fenced_img_qdr_failSolo_staging_stageBase_stageLen (State.plainRegs_touch .refl (by decide) )
    (by decide) _ _ _ _ _ _ _ _) (by decide) _ _) (by decide) _ _) (by decide) _ _) (by decide) _ _) (fun u _ hu =>
    (State.regEffect_touch hu (by decide) _ _))) (by decide) ) (by decide) _) (fun u1 _ hu1 => (State.setReg_touch hu1 (by decide) _
    _))) (by decide) _ _) (by decide) _ _) (by decide) _ _) (by decide) _ _) (by decide) _ _) (by decide) ) (fun u2 _ hu2 =>
    (State.setf_touch hu2 (by decide) _ _))) (by decide) _) (by decide) _) (by decide) ) (State.evt_touch (State.setPhase_touch
    (touch_foldl _ (State.refreshUse_touch (State.setf_touch (State.setf_touch (State.setf_touch (State.setf_touch (State.setf_touch
    (touch_foldl _ (State.showServ_touch (State.clearJob_touch (touch_foldl _ (State.setImgId_touch (State.setf_touch
    (State.setf_touch (State.setf_touch (touch_pav_fenced_img_qdr_failSolo_staging_stageBase_stageLen (State.plainRegs_touch .refl
    (by decide) ) (by decide) _ _ _ _ _ _ _ _) (by decide) _ _) (by decide) _ _) (by decide) _ _) (by decide) _ _) (fun u _ hu =>
    (State.regEffect_touch hu (by decide) _ _))) (by decide) ) (by decide) _) (fun u1 _ hu1 => (State.setReg_touch hu1 (by decide) _
    _))) (by decide) _ _) (by decide) _ _) (by decide) _ _) (by decide) _ _) (by decide) _ _) (by decide) ) (fun u2 _ hu2 =>
    (State.setf_touch hu2 (by decide) _ _))) (by decide) _) (by decide) _))

theorem State.takeShadows_touch (h : Touch W a s) (hw : Part.sub [.registers, .memory, .sent, .frame, .fences, .transactions,
    .scrub, .image, .load, .requests, .completions, .admission, .leaves, .prefixes, .sampling, .pages, .taint, .journal,
      .snapshots, .staged, .links, .quadrille, .membership, .pool, .doors, .yarrow, .mail, .service] W = true) (p : TxnPend) :
    Touch W a (State.takeShadows s p) := by
  refine h.step hw ?_
  unfold State.takeShadows
  exact (by
      try dsimp -proj only
      split
      · exact State.applyImage_touch .refl (by decide) _
      · exact touch_ite (State.removeImage_touch .refl (by decide) ) (State.setf_touch .refl (by decide) _ _)
      · exact touch_ite (State.patchEffects_touch (touch_ite (State.bindAdopted_touch (touch_foldl _ (touch_foldl _ .refl (fun u _
          hu => (State.putBits_touch hu (by decide) _ _ _))) (fun u1 _ hu1 => (State.regEffect_touch hu1 (by decide) _ _)))
          (by decide) _) (touch_foldl _ (touch_foldl _ .refl (fun u _ hu => (State.putBits_touch hu (by decide) _ _ _))) (fun u1 _
          hu1 => (State.regEffect_touch hu1 (by decide) _ _)))) (by decide) _) (touch_ite (State.bindAdopted_touch (touch_foldl _
          (touch_foldl _ .refl (fun u _ hu => (State.putBits_touch hu (by decide) _ _ _))) (fun u1 _ hu1 => (State.regEffect_touch
          hu1 (by decide) _ _))) (by decide) _) (touch_foldl _ (touch_foldl _ .refl (fun u _ hu => (State.putBits_touch hu
          (by decide) _ _ _))) (fun u1 _ hu1 => (State.regEffect_touch hu1 (by decide) _ _)))))

theorem State.leaveDone_touch (h : Touch W a s) (hw : Part.sub [.registers, .memory, .sent, .requests, .admission, .leaves,
    .journal, .quadrille] W = true) (p : TxnPend) :
    Touch W a (State.leaveDone s p) := by
  refine h.step hw ?_
  unfold State.leaveDone
  exact (by
      try dsimp -proj only
      split
      · exact touch_ite (touch_leaves .refl (by decide) _) (State.memberGone_touch (touch_leaves .refl (by decide) _) (by decide) _)
      · exact .refl)

theorem State.applyTxn_touch (h : Touch W a s) (hw : Part.sub [.registers, .memory, .sent, .frame, .fences, .transactions, .scrub,
    .records, .image, .load, .requests, .completions, .admission, .leaves, .prefixes, .sampling, .pages, .taint, .journal,
      .snapshots, .staged, .links, .quadrille, .membership, .pool, .doors, .yarrow, .mail, .service] W = true) (p : TxnPend) :
    Touch W a (State.applyTxn s p) := by
  refine h.step hw ?_
  unfold State.applyTxn
  exact (by
      try dsimp -proj only
      split
      · exact State.when_touch (State.endTxn_touch (State.setPend_touch .refl (by decide) _) (by decide) _ _ _) _ _ (fun u hu =>
          (State.raise_touch (State.evt_touch (State.inc_touch hu (by decide) _) (by decide) _) (by decide) _ _ _ _ _))
      · exact State.leaveDone_touch (State.endTxn_touch (State.takeShadows_touch (State.setPend_touch .refl (by decide) _)
          (by decide) _) (by decide) _ _ _) (by decide) _)

theorem State.applyDue_touch (h : Touch W a s) (hw : Part.sub [.registers, .memory, .sent, .frame, .fences, .transactions, .scrub,
    .records, .image, .load, .requests, .completions, .admission, .leaves, .prefixes, .sampling, .pages, .taint, .journal,
      .snapshots, .staged, .links, .quadrille, .membership, .pool, .doors, .yarrow, .mail, .service] W = true) (start join : Bool) :
    Touch W a (State.applyDue s start join) := by
  refine h.step hw ?_
  unfold State.applyDue
  exact touch_foldl _ .refl (fun u _ hu => (touch_ite hu (touch_ite (State.endTxn_touch (State.setPend_touch hu (by decide) _)
    (by decide) _ _ _) (State.applyTxn_touch hu (by decide) _))))

end Sys2Proof.Machine
end

