-- ==== Sys2Proof/Laws/FrameSec.lean ====
section
/-! SUPPORT. What each operation and each meaning of Machine/Sec.lean may change. -/

namespace Sys2Proof.Machine

variable {W : List Part} {a s : State}

theorem State.showFuses_touch (h : Touch W a s) (hw : Part.sub [.registers] W = true) :
    Touch W a (State.showFuses s) := by
  refine h.step hw ?_
  unfold State.showFuses
  exact touch_foldl _ (State.setf_touch (State.setf_touch (State.setf_touch (State.setf_touch (State.setf_touch (State.setf_touch
    .refl (by decide) _ _) (by decide) _ _) (by decide) _ _) (by decide) _ _) (by decide) _ _) (by decide) _ _) (fun u _ hu =>
    (State.setf_touch hu (by decide) _ _))

theorem State.showId_touch (h : Touch W a s) (hw : Part.sub [.registers] W = true) :
    Touch W a (State.showId s) := by
  refine h.step hw ?_
  unfold State.showId
  exact State.setf_touch (State.setf_touch .refl (by decide) _ _) (by decide) _ _

theorem State.putArea_touch (h : Touch W a s) (hw : Part.sub [.memory, .sent] W = true) (d off : Nat) (bs : List Nat) :
    Touch W a (State.putArea s d off bs) := by
  refine h.step hw ?_
  unfold State.putArea
  exact touch_ite (touch_out .refl (by decide) _) (State.write_touch .refl (by decide) _ _)

theorem State.withArea_touch (h : Touch W a s) (hw : Part.sub [.registers, .doors] W = true) (d off n : Nat) (f : State → State)
    (hf : ∀ u, Touch W a u → Touch W a (f u)) :
    Touch W a (State.withArea s d off n f) := by
  unfold State.withArea
  exact touch_ite (hf _ h) (State.reply_touch h (Part.sub_trans (by decide) hw) _ _ _)

theorem State.badSig_touch (h : Touch W a s) (hw : Part.sub [.registers, .doors] W = true) (d : Nat) :
    Touch W a (State.badSig s d) := by
  refine h.step hw ?_
  unfold State.badSig
  exact State.reply_touch (State.inc_touch .refl (by decide) _) (by decide) _ _ _

theorem execGetId_touch (h : Touch W a s) (hw : Part.sub [.clock, .registers, .doors] W = true) (t door : Nat) :
    ∀ u, execGetId t door s = .next u → Touch W a u := by
  refine outTouch_step h hw ?_
  unfold execGetId
  exact outTouch_next (State.secDoor_touch (State.at_touch .refl (by decide) _) (by decide) _ _ _ _ (fun u hu => (State.reply_touch
    hu (by decide) _ _ _)))

theorem execGetCert_touch (h : Touch W a s) (hw : Part.sub [.clock, .registers, .memory, .sent, .doors] W = true) (t door : Nat) :
    ∀ u, execGetCert t door s = .next u → Touch W a u := by
  refine outTouch_step h hw ?_
  unfold execGetCert
  exact outTouch_next (State.secDoor_touch (State.at_touch .refl (by decide) _) (by decide) _ _ _ _ (fun u hu =>
    (State.withArea_touch hu (by decide) _ _ _ _ (fun u1 hu1 => (State.reply_touch (State.putArea_touch hu1 (by decide) _ _ _)
    (by decide) _ _ _)))))

theorem execQuote_touch (h : Touch W a s) (hw : Part.sub [.clock, .registers, .memory, .sent, .doors] W = true) (t door : Nat) (sig
    : List Nat) :
    ∀ u, execQuote t door sig s = .next u → Touch W a u := by
  refine outTouch_step h hw ?_
  unfold execQuote
  exact outTouch_next (State.secDoor_touch (State.at_touch .refl (by decide) _) (by decide) _ _ _ _ (fun u hu => (touch_ite
    (State.reply_touch hu (by decide) _ _ _) (State.withArea_touch hu (by decide) _ _ _ _ (fun u1 hu1 => (State.reply_touch
    (State.inc_touch (State.putArea_touch hu1 (by decide) _ _ _) (by decide) _) (by decide) _ _ _))))))

theorem execGetMlog_touch (h : Touch W a s) (hw : Part.sub [.clock, .registers, .memory, .sent, .doors] W = true) (t door : Nat) :
    ∀ u, execGetMlog t door s = .next u → Touch W a u := by
  refine outTouch_step h hw ?_
  unfold execGetMlog
  exact outTouch_next (State.secDoor_touch (State.at_touch .refl (by decide) _) (by decide) _ _ _ _ (fun u hu =>
    (State.withArea_touch hu (by decide) _ _ _ _ (fun u1 hu1 => (State.reply_touch (State.putArea_touch hu1 (by decide) _ _ _)
    (by decide) _ _ _)))))

theorem execExtend_touch (h : Touch W a s) (hw : Part.sub [.clock, .registers, .doors, .yarrow] W = true) (t door : Nat) :
    ∀ u, execExtend t door s = .next u → Touch W a u := by
  refine outTouch_step h hw ?_
  unfold execExtend
  exact outTouch_next (State.secDoor_touch (State.at_touch .refl (by decide) _) (by decide) _ _ _ _ (fun u hu => (touch_ite
    (State.reply_touch hu (by decide) _ _ _) (State.reply_touch (State.extend_touch hu (by decide) _ _) (by decide) _ _ _))))

theorem State.newOwner_touch (h : Touch W a s) (hw : Part.sub [.registers, .fuses, .yarrow] W = true) (pk : List Nat) :
    Touch W a (State.newOwner s pk) := by
  refine h.step hw ?_
  unfold State.newOwner
  exact State.showFuses_touch (State.inc_touch (State.extend_touch (touch_fuses .refl (by decide) _) (by decide) _ _) (by decide) _)
    (by decide)

theorem execOwnerTransfer_touch (h : Touch W a s) (hw : Part.sub [.clock, .registers, .doors, .fuses, .yarrow] W = true) (t door :
    Nat) (sig : Bool) :
    ∀ u, execOwnerTransfer t door sig s = .next u → Touch W a u := by
  refine outTouch_step h hw ?_
  unfold execOwnerTransfer
  exact outTouch_next (State.secDoor_touch (State.at_touch .refl (by decide) _) (by decide) _ _ _ _ (fun u hu => (touch_ite
    (State.reply_touch hu (by decide) _ _ _) (State.withArea_touch hu (by decide) _ _ _ _ (fun u1 hu1 => (touch_ite
    (State.reply_touch hu1 (by decide) _ _ _) (touch_ite (State.reply_touch hu1 (by decide) _ _ _) (touch_ite (State.badSig_touch
    hu1 (by decide) _) (State.reply_touch (State.newOwner_touch hu1 (by decide) _) (by decide) _ _ _)))))))))

theorem execKeyImport_touch (h : Touch W a s) (hw : Part.sub [.clock, .registers, .doors, .fuses] W = true) (t door : Nat) (sig :
    Bool) (key : Option (List Nat)) :
    ∀ u, execKeyImport t door sig key s = .next u → Touch W a u := by
  refine outTouch_step h hw ?_
  unfold execKeyImport
  exact outTouch_next (State.secDoor_touch (State.at_touch .refl (by decide) _) (by decide) _ _ _ _ (fun u hu => (touch_ite
    (State.reply_touch hu (by decide) _ _ _) (State.withArea_touch hu (by decide) _ _ _ _ (fun u1 hu1 => (touch_ite
    (State.reply_touch hu1 (by decide) _ _ _) (touch_ite (State.badSig_touch hu1 (by decide) _) (by
      try dsimp -proj only
      split
      · exact State.reply_touch hu1 (by decide) _ _ _
      · exact State.reply_touch (touch_fuses hu1 (by decide) _) (by decide) _ _ _))))))))

theorem execKeyErase_touch (h : Touch W a s) (hw : Part.sub [.clock, .registers, .doors, .fuses] W = true) (t door : Nat) :
    ∀ u, execKeyErase t door s = .next u → Touch W a u := by
  refine outTouch_step h hw ?_
  unfold execKeyErase
  exact outTouch_next (State.secDoor_touch (State.at_touch .refl (by decide) _) (by decide) _ _ _ _ (fun u hu => (touch_ite
    (State.reply_touch hu (by decide) _ _ _) (State.reply_touch (touch_fuses hu (by decide) _) (by decide) _ _ _))))

theorem execRollAdvance_touch (h : Touch W a s) (hw : Part.sub [.clock, .registers, .doors, .fuses] W = true) (t door : Nat) (sig :
    Bool) :
    ∀ u, execRollAdvance t door sig s = .next u → Touch W a u := by
  refine outTouch_step h hw ?_
  unfold execRollAdvance
  exact outTouch_next (State.secDoor_touch (State.at_touch .refl (by decide) _) (by decide) _ _ _ _ (fun u hu =>
    (State.withArea_touch hu (by decide) _ _ _ _ (fun u1 hu1 => (touch_ite (State.reply_touch hu1 (by decide) _ _ _) (touch_ite
    (State.reply_touch hu1 (by decide) _ _ _) (touch_ite (State.badSig_touch hu1 (by decide) _) (State.reply_touch
    (State.showFuses_touch (touch_fuses hu1 (by decide) _) (by decide) ) (by decide) _ _ _))))))))

theorem State.showLsp_touch (h : Touch W a s) (hw : Part.sub [.registers] W = true) (ver svn : Nat) :
    Touch W a (State.showLsp s ver svn) := by
  refine h.step hw ?_
  unfold State.showLsp
  exact State.setf_touch (State.setf_touch (State.setf_touch .refl (by decide) _ _) (by decide) _ _) (by decide) _ _

theorem State.startLsp_touch (h : Touch W a s) (hw : Part.sub [.registers, .yarrow, .larkspur] W = true) (i : Nat) :
    Touch W a (State.startLsp s i) := by
  refine h.step hw ?_
  unfold State.startLsp
  exact (by
      try dsimp -proj only
      split
      · exact .refl
      · exact State.extend_touch (touch_lsp (State.showLsp_touch (State.setf_touch (State.setf_touch .refl (by decide) _ _)
          (by decide) _ _) (by decide) _ _) (by decide) _) (by decide) _ _)

theorem State.burnFloors_touch (h : Touch W a s) (hw : Part.sub [.registers, .fuses] W = true) :
    Touch W a (State.burnFloors s) := by
  refine h.step hw ?_
  unfold State.burnFloors
  exact State.showFuses_touch (touch_fuses .refl (by decide) _) (by decide)

theorem State.lspRuns_touch (h : Touch W a s) (hw : Part.sub [.registers, .larkspur] W = true) :
    Touch W a (State.lspRuns s) := by
  refine h.step hw ?_
  unfold State.lspRuns
  exact touch_lsp (State.setf_touch .refl (by decide) _ _) (by decide) _

theorem execKick_touch (h : Touch W a s) (hw : Part.sub [.clock, .registers, .doors, .larkspur] W = true) (t door : Nat) :
    ∀ u, execKick t door s = .next u → Touch W a u := by
  refine outTouch_step h hw ?_
  unfold execKick
  exact outTouch_next (State.secDoor_touch (State.at_touch .refl (by decide) _) (by decide) _ _ _ _ (fun u hu => (State.reply_touch
    (State.setf_touch (touch_lsp hu (by decide) _) (by decide) _ _) (by decide) _ _ _)))

theorem execWatchdogExpire_touch (h : Touch W a s) (hw : Part.sub [.clock, .registers, .sent, .transactions, .load, .yarrow,
    .larkspur, .mail] W = true) (t : Nat) :
    ∀ u, execWatchdogExpire t s = .next u → Touch W a u := by
  refine outTouch_step h hw ?_
  unfold execWatchdogExpire
  exact outTouch_ite (outTouch_next (State.when_touch (State.startLsp_touch (State.inc_touch (State.epochUp_touch
    (State.larkspurDown_touch (State.at_touch .refl (by decide) _) (by decide) ) (by decide) _ _) (by decide) _) (by decide) _) _ _
    (fun u hu => (State.loadFail_touch hu (by decide) _ _)))) (outTouch_next (State.at_touch .refl (by decide) _))

theorem execBootReadyTimeout_touch (h : Touch W a s) (hw : Part.sub [.clock, .registers, .transactions, .yarrow, .larkspur, .mail]
    W = true) (t : Nat) :
    ∀ u, execBootReadyTimeout t s = .next u → Touch W a u := by
  refine outTouch_step h hw ?_
  unfold execBootReadyTimeout
  exact outTouch_ite (outTouch_ite (outTouch_next (State.setf_touch (State.larkspurDown_touch (State.at_touch .refl (by decide) _)
    (by decide) ) (by decide) _ _)) (outTouch_next (State.startLsp_touch (touch_lsp (State.epochUp_touch (State.larkspurDown_touch
    (State.at_touch .refl (by decide) _) (by decide) ) (by decide) _ _) (by decide) _) (by decide) _))) (outTouch_next
    (State.at_touch .refl (by decide) _))

theorem execLarkspurUpdate_touch (h : Touch W a s) (hw : Part.sub [.clock, .registers, .doors, .larkspur] W = true) (t door : Nat)
    (sig : Bool) :
    ∀ u, execLarkspurUpdate t door sig s = .next u → Touch W a u := by
  refine outTouch_step h hw ?_
  unfold execLarkspurUpdate
  exact outTouch_next (State.secDoor_touch (State.at_touch .refl (by decide) _) (by decide) _ _ _ _ (fun u hu =>
    (State.withArea_touch hu (by decide) _ _ _ _ (fun u1 hu1 => (touch_ite (State.badSig_touch hu1 (by decide) _) (touch_ite
    (State.reply_touch hu1 (by decide) _ _ _) (touch_ite (State.reply_touch hu1 (by decide) _ _ _) (touch_lsp hu1 (by decide)
    _))))))))

theorem execLarkspurHalt_touch (h : Touch W a s) (hw : Part.sub [.clock, .registers, .transactions, .yarrow, .larkspur, .mail] W =
    true) (t : Nat) (answered : Bool) :
    ∀ u, execLarkspurHalt t answered s = .next u → Touch W a u := by
  refine outTouch_step h hw ?_
  unfold execLarkspurHalt
  exact outTouch_ite (outTouch_next (State.extend_touch (touch_lsp (State.setf_touch (State.epochUp_touch (State.larkspurDown_touch
    (State.at_touch .refl (by decide) _) (by decide) ) (by decide) _ _) (by decide) _ _) (by decide) _) (by decide) _ _))
    (outTouch_next (State.at_touch .refl (by decide) _))

theorem execLarkspurReady_touch (h : Touch W a s) (hw : Part.sub [.clock, .registers, .doors, .fuses, .larkspur] W = true) (t : Nat) :
    ∀ u, execLarkspurReady t s = .next u → Touch W a u := by
  refine outTouch_step h hw ?_
  unfold execLarkspurReady
  exact outTouch_ite (outTouch_next (State.at_touch .refl (by decide) _)) (by
      try dsimp -proj only
      split
      · exact outTouch_ite (outTouch_next (State.at_touch .refl (by decide) _)) (outTouch_next (State.reply_touch (State.inc_touch
          (State.burnFloors_touch (State.lspRuns_touch (State.epochUp_touch (State.showLsp_touch (State.setf_touch (touch_lsp_fuses
          (State.at_touch .refl (by decide) _) (by decide) _ _) (by decide) _ _) (by decide) _ _) (by decide) _ _) (by decide) )
          (by decide) ) (by decide) _) (by decide) _ _ _))
      · exact outTouch_ite (outTouch_next (State.when_touch (State.lspRuns_touch (State.at_touch .refl (by decide) _) (by decide) )
          _ _ (fun u hu => (State.burnFloors_touch hu (by decide) )))) (outTouch_next (State.at_touch .refl (by decide) _)))

theorem execUpdateRevert_touch (h : Touch W a s) (hw : Part.sub [.clock, .registers, .transactions, .doors, .yarrow, .larkspur,
    .mail] W = true) (t : Nat) :
    ∀ u, execUpdateRevert t s = .next u → Touch W a u := by
  refine outTouch_step h hw ?_
  unfold execUpdateRevert
  exact outTouch_ite (outTouch_next (State.reply_touch (State.inc_touch (State.lspRuns_touch (touch_lsp (State.startLsp_touch
    (State.epochUp_touch (State.larkspurDown_touch (State.at_touch .refl (by decide) _) (by decide) ) (by decide) _ _) (by decide)
    _) (by decide) _) (by decide) ) (by decide) _) (by decide) _ _ _)) (outTouch_next (State.at_touch .refl (by decide) _))

theorem execYarrowStage_touch (h : Touch W a s) (hw : Part.sub [.clock, .registers, .doors, .fuses] W = true) (t door : Nat) (rec :
    List Nat) (sig : Bool) :
    ∀ u, execYarrowStage t door rec sig s = .next u → Touch W a u := by
  refine outTouch_step h hw ?_
  unfold execYarrowStage
  exact outTouch_next (State.secDoor_touch (State.at_touch .refl (by decide) _) (by decide) _ _ _ _ (fun u hu =>
    (State.withArea_touch hu (by decide) _ _ _ _ (fun u1 hu1 => (touch_ite (State.badSig_touch hu1 (by decide) _) (touch_ite
    (State.reply_touch hu1 (by decide) _ _ _) (State.reply_touch (touch_fuses hu1 (by decide) _) (by decide) _ _ _)))))))

theorem execDebugChallenge_touch (h : Touch W a s) (hw : Part.sub [.clock, .registers, .doors, .yarrow, .free] W = true) (t door :
    Nat) :
    ∀ u, execDebugChallenge t door s = .next u → Touch W a u := by
  refine outTouch_step h hw ?_
  unfold execDebugChallenge
  exact outTouch_next (State.secDoor_touch (State.at_touch .refl (by decide) _) (by decide) _ _ _ _ (fun u hu => (State.reply_touch
    (touch_yar (State.used_touch (State.used_touch (State.used_touch (State.used_touch hu (by decide) ) (by decide) ) (by decide) )
    (by decide) ) (by decide) _) (by decide) _ _ _)))

theorem execNonceExpire_touch (h : Touch W a s) (hw : Part.sub [.clock, .yarrow] W = true) (t : Nat) :
    ∀ u, execNonceExpire t s = .next u → Touch W a u := by
  refine outTouch_step h hw ?_
  unfold execNonceExpire
  exact outTouch_ite (outTouch_next (touch_yar (State.at_touch .refl (by decide) _) (by decide) _)) (outTouch_next (State.at_touch
    .refl (by decide) _))

theorem State.unlock_touch (h : Touch W a s) (hw : Part.sub [.registers, .yarrow] W = true) (level : Nat) :
    Touch W a (State.unlock s level) := by
  refine h.step hw ?_
  unfold State.unlock
  exact State.extend_touch (touch_ite (touch_yar (State.setf_touch .refl (by decide) _ _) (by decide) _) (State.setf_touch .refl
    (by decide) _ _)) (by decide) _ _

theorem execDebugUnlock_touch (h : Touch W a s) (hw : Part.sub [.clock, .registers, .doors, .yarrow] W = true) (t door : Nat) (rec
    : List Nat) (sig : Bool) :
    ∀ u, execDebugUnlock t door rec sig s = .next u → Touch W a u := by
  refine outTouch_step h hw ?_
  unfold execDebugUnlock
  exact outTouch_next (State.secDoor_touch (State.at_touch .refl (by decide) _) (by decide) _ _ _ _ (fun u hu =>
    (State.withArea_touch hu (by decide) _ _ _ _ (fun u1 hu1 => (touch_ite (State.reply_touch hu1 (by decide) _ _ _) (touch_ite
    (State.reply_touch hu1 (by decide) _ _ _) (touch_ite (State.reply_touch hu1 (by decide) _ _ _) (touch_ite (State.reply_touch hu1
    (by decide) _ _ _) (touch_ite (State.badSig_touch hu1 (by decide) _) (State.reply_touch (State.unlock_touch hu1 (by decide) _)
    (by decide) _ _ _))))))))))

theorem execDebugKill_touch (h : Touch W a s) (hw : Part.sub [.clock, .registers, .doors, .fuses] W = true) (t door : Nat) (sig :
    Bool) :
    ∀ u, execDebugKill t door sig s = .next u → Touch W a u := by
  refine outTouch_step h hw ?_
  unfold execDebugKill
  exact outTouch_next (State.secDoor_touch (State.at_touch .refl (by decide) _) (by decide) _ _ _ _ (fun u hu =>
    (State.withArea_touch hu (by decide) _ _ _ _ (fun u1 hu1 => (touch_ite (State.reply_touch hu1 (by decide) _ _ _) (touch_ite
    (State.badSig_touch hu1 (by decide) _) (State.reply_touch (State.showFuses_touch (touch_fuses hu1 (by decide) _) (by decide) )
    (by decide) _ _ _)))))))

end Sys2Proof.Machine
end

