-- ==== Sys2Proof/Laws/FrameBoot.lean ====
section
/-! SUPPORT. What each operation and each meaning of Machine/Boot.lean may change. -/

namespace Sys2Proof.Machine

variable {W : List Part} {a s : State}

/-- What a register keeps without power differs from its reset value. -/
theorem keptReg_kept {p q : Nat × Word} (h : keptReg p = some q) : q.1 = p.1 ∧ (p.2 ≠ resetVal p.1 → q.2 ≠ resetVal q.1) := by
  unfold keptReg at h
  split at h
  · cases h; exact ⟨rfl, id⟩
  · split at h
    · rename_i hk
      split at h
      · cases h
      · rename_i hn
        cases h
        refine ⟨rfl, fun _ e => ?_⟩
        have e0 : resetVal p.1 = 0#64 := by
          have h1 : ¬ p.1 < 0x2000000 := by omega
          have h2 : p.1 % 0x8000 < 0x1000 := hk.2.2.1
          have h3 : p.1 % 0x8000 % 0x80 ≠ 0 := by omega
          simp only [resetVal, h1, hk.2.1, ↓reduceIte, resetCore, h2, h3]
        have e1 := congrArg BitVec.toNat e
        simp only [e0, BitVec.toNat_ofNat] at e1
        have := p.2.isLt
        omega
    · cases h

theorem State.wiped_touch (h : Touch W a s) (hw : Part.sub [.supply, .registers, .memory, .readback, .frame, .slots, .fences,
    .packets, .transactions, .programming, .configuration, .lanes, .results, .calibration, .scrub, .temperature, .tracking,
      .degraded, .repeats, .records, .suspects, .proxies, .clocks, .image, .load, .failures, .requests, .completions, .admission,
        .leaves, .prefixes, .sampling, .pages, .taint, .journal, .snapshots, .staged, .links, .plan, .quadrille, .membership,
          .pool, .doors, .yarrow, .audit, .boot, .larkspur, .mail, .service, .heat] W = true) (p : Power) :
    Touch W a (State.wiped s p) := by
  refine h.step hw ⟨fun q hq => ?_, fun c => ?_⟩
  · cases q <;> first | exact absurd (by decide) hq | exact rfl
  · simp only [State.canon, Bool.and_eq_true] at c
    simp only [State.canon, State.wiped, Bool.and_eq_true]
    exact ⟨⟨⟨scanon_filterMap (fun p q e => keptReg_kept e) c.1.1.1, rfl⟩, rfl⟩, rfl⟩

theorem execInputFault_touch (h : Touch W a s) (hw : Part.sub [.clock, .supply, .registers, .memory, .readback, .frame, .slots,
    .fences, .packets, .transactions, .programming, .configuration, .lanes, .results, .calibration, .scrub, .temperature,
      .tracking, .degraded, .repeats, .records, .suspects, .proxies, .clocks, .image, .load, .failures, .requests, .completions,
        .admission, .leaves, .prefixes, .sampling, .pages, .taint, .journal, .snapshots, .staged, .links, .plan, .quadrille,
          .membership, .pool, .doors, .yarrow, .audit, .boot, .larkspur, .mail, .service, .heat] W = true) (t : Nat) :
    ∀ u, execInputFault t s = .next u → Touch W a u := by
  refine outTouch_step h hw ?_
  unfold execInputFault
  exact outTouch_ite (outTouch_next (State.wiped_touch (State.at_touch .refl (by decide) _) (by decide) _)) (outTouch_next
    (State.at_touch .refl (by decide) _))

theorem execRailFault_touch (h : Touch W a s) (hw : Part.sub [.clock, .supply, .registers, .memory, .readback, .frame, .slots,
    .fences, .packets, .transactions, .programming, .configuration, .lanes, .results, .calibration, .scrub, .temperature,
      .tracking, .degraded, .repeats, .records, .suspects, .proxies, .clocks, .image, .load, .failures, .requests, .completions,
        .admission, .leaves, .prefixes, .sampling, .pages, .taint, .journal, .snapshots, .staged, .links, .plan, .quadrille,
          .membership, .pool, .doors, .yarrow, .audit, .boot, .larkspur, .mail, .service, .heat] W = true) (t rail : Nat) (written
            : Bool) :
    ∀ u, execRailFault t rail written s = .next u → Touch W a u := by
  refine outTouch_step h hw ?_
  unfold execRailFault
  exact outTouch_ite (outTouch_next (State.wiped_touch (touch_ite (State.setf_touch (State.setf_touch (State.setf_touch
    (State.at_touch .refl (by decide) _) (by decide) _ _) (by decide) _ _) (by decide) _ _) (State.at_touch .refl (by decide) _))
    (by decide) _)) (outTouch_next (State.at_touch .refl (by decide) _))

theorem execShutdownRailsOff_touch (h : Touch W a s) (hw : Part.sub [.clock, .supply, .registers, .memory, .readback, .frame,
    .slots, .fences, .packets, .transactions, .programming, .configuration, .lanes, .results, .calibration, .scrub, .temperature,
      .tracking, .degraded, .repeats, .records, .suspects, .proxies, .clocks, .image, .load, .failures, .requests, .completions,
        .admission, .leaves, .prefixes, .sampling, .pages, .taint, .journal, .snapshots, .staged, .links, .plan, .quadrille,
          .membership, .pool, .doors, .yarrow, .audit, .boot, .larkspur, .mail, .service, .heat] W = true) (t : Nat) :
    ∀ u, execShutdownRailsOff t s = .next u → Touch W a u := by
  refine outTouch_step h hw ?_
  unfold execShutdownRailsOff
  exact outTouch_ite (outTouch_next (State.wiped_touch (State.at_touch .refl (by decide) _) (by decide) _)) (outTouch_next
    (State.at_touch .refl (by decide) _))

theorem execLatchClear_touch (h : Touch W a s) (hw : Part.sub [.clock, .supply, .registers, .memory, .readback, .frame, .slots,
    .fences, .packets, .transactions, .programming, .configuration, .lanes, .results, .calibration, .scrub, .temperature,
      .tracking, .degraded, .repeats, .records, .suspects, .proxies, .clocks, .image, .load, .failures, .requests, .completions,
        .admission, .leaves, .prefixes, .sampling, .pages, .taint, .journal, .snapshots, .staged, .links, .plan, .quadrille,
          .membership, .pool, .doors, .yarrow, .audit, .boot, .larkspur, .mail, .service, .heat] W = true) (t : Nat) :
    ∀ u, execLatchClear t s = .next u → Touch W a u := by
  refine outTouch_step h hw ?_
  unfold execLatchClear
  exact outTouch_ite (outTouch_next (State.wiped_touch (State.at_touch .refl (by decide) _) (by decide) _)) (outTouch_next
    (State.at_touch .refl (by decide) _))

theorem execVcoreFail_touch (h : Touch W a s) (hw : Part.sub [.clock, .registers, .sent, .frame, .records, .clocks] W = true) (t
    region : Nat) :
    ∀ u, execVcoreFail t region s = .next u → Touch W a u := by
  refine outTouch_step h hw ?_
  unfold execVcoreFail
  exact outTouch_ite (outTouch_next (State.pllLoss_touch (State.evt_touch (State.setf_touch (State.at_touch .refl (by decide) _)
    (by decide) _ _) (by decide) _) (by decide) _)) (outTouch_next (State.at_touch .refl (by decide) _))

theorem State.wrReset_touch (h : Touch W a s) (hw : Part.sub [.supply, .registers, .memory, .sent, .readback, .frame, .slots,
    .fences, .packets, .transactions, .programming, .configuration, .lanes, .results, .calibration, .scrub, .temperature,
      .tracking, .degraded, .repeats, .records, .suspects, .proxies, .clocks, .image, .load, .failures, .requests, .completions,
        .admission, .leaves, .prefixes, .sampling, .pages, .taint, .journal, .snapshots, .staged, .links, .plan, .quadrille,
          .membership, .pool, .doors, .yarrow, .audit, .boot, .larkspur, .mail, .service, .heat] W = true) (q : Requester) (key :
            Nat) :
    Touch W a (State.wrReset s q key) := by
  refine h.step hw ?_
  unfold State.wrReset
  exact State.guarded_touch .refl (by decide) _ _ _ _ _ (fun u hu => (touch_ite (State.wiped_touch hu (by decide) _) hu))

theorem execPackageReset_touch (h : Touch W a s) (hw : Part.sub [.clock, .supply, .registers, .memory, .sent, .readback, .frame,
    .slots, .fences, .packets, .transactions, .programming, .configuration, .lanes, .results, .calibration, .scrub, .temperature,
      .tracking, .degraded, .repeats, .records, .suspects, .proxies, .clocks, .image, .load, .failures, .requests, .completions,
        .admission, .leaves, .prefixes, .sampling, .pages, .taint, .journal, .snapshots, .staged, .links, .plan, .quadrille,
          .membership, .pool, .doors, .yarrow, .audit, .boot, .larkspur, .mail, .service, .heat] W = true) (t : Nat) (q :
            Requester) (key : Nat) :
    ∀ u, execPackageReset t q key s = .next u → Touch W a u := by
  refine outTouch_step h hw ?_
  unfold execPackageReset
  exact outTouch_next (State.wrReset_touch (State.at_touch .refl (by decide) _) (by decide) _ _)

theorem State.extendFree_touch (h : Touch W a s) (hw : Part.sub [.registers, .yarrow, .free] W = true) (i : Nat) :
    Touch W a (State.extendFree s i) := by
  refine h.step hw ?_
  unfold State.extendFree
  exact State.extend_touch (touch_freeCount .refl (by decide) _) (by decide) _ _

theorem State.badRecord__touch (h : Touch W a s) (hw : Part.sub [.registers, .frame, .records, .audit] W = true) :
    Touch W a (State.badRecord_ s) := by
  refine h.step hw ?_
  unfold State.badRecord_
  exact touch_foldl _ (State.raise_touch (touch_audit .refl (by decide) _) (by decide) _ _ _ _ _) (fun u _ hu => (State.setf_touch
    hu (by decide) _ _))

theorem State.yarrowRuns_touch (h : Touch W a s) (hw : Part.sub [.registers, .yarrow, .larkspur] W = true) (y : Nat) (lOk : List Nat) :
    Touch W a (State.yarrowRuns s y lOk) := by
  refine h.step hw ?_
  unfold State.yarrowRuns
  exact (by
      try dsimp -proj only
      split
      · exact State.setf_touch (touch_lsp_yar (State.extend_touch (State.setf_touch (State.setf_touch .refl (by decide) _ _)
          (by decide) _ _) (by decide) _ _) (by decide) _ _) (by decide) _ _
      · exact touch_lsp (State.startLsp_touch (touch_lsp_yar (State.extend_touch (State.setf_touch (State.setf_touch .refl
          (by decide) _ _) (by decide) _ _) (by decide) _ _) (by decide) _ _) (by decide) _) (by decide) _)

theorem State.railsUp_touch (h : Touch W a s) (hw : Part.sub [.registers] W = true) :
    Touch W a (State.railsUp s) := by
  refine h.step hw ?_
  unfold State.railsUp
  exact State.setf_touch (State.setf_touch (State.setf_touch (State.setf_touch (touch_foldl _ .refl (fun u _ hu => (State.setf_touch
    (State.setf_touch hu (by decide) _ _) (by decide) _ _))) (by decide) _ _) (by decide) _ _) (by decide) _ _) (by decide) _ _

theorem State.stacksUp_touch (h : Touch W a s) (hw : Part.sub [.registers, .sent, .frame, .programming, .records, .links, .heat] W
    = true) (hbm : List Nat) (reads : List (Nat × Int)) :
    Touch W a (State.stacksUp s hbm reads) := by
  refine h.step hw ?_
  unfold State.stacksUp
  exact State.setPhase_touch (State.setf_touch (State.crossCheck_touch (State.sampleAll_touch (touch_foldl _ (touch_foldl _
    (touch_crossings (State.railsUp_touch .refl (by decide) ) (by decide) _) (fun u _ hu => (State.setf_touch hu (by decide) _ _)))
    (fun u1 _ hu1 => (State.setf_touch hu1 (by decide) _ _))) (by decide) _ _) (by decide) ) (by decide) _ _) (by decide) _

theorem State.powerUp_touch (h : Touch W a s) (hw : Part.sub [.clock, .supply, .registers, .memory, .sent, .readback, .frame,
    .slots, .fences, .packets, .transactions, .programming, .configuration, .lanes, .results, .calibration, .scrub, .temperature,
      .tracking, .degraded, .repeats, .records, .suspects, .proxies, .clocks, .image, .load, .failures, .requests, .completions,
        .admission, .leaves, .prefixes, .sampling, .pages, .taint, .journal, .snapshots, .staged, .links, .plan, .quadrille,
          .membership, .pool, .doors, .yarrow, .audit, .boot, .larkspur, .mail, .service, .heat, .free] W = true) (t : Nat) (yOk
            lOk hbm : List Nat) (record : Bool) (reads : List (Nat × Int)) :
    Touch W a (State.powerUp s t yOk lOk hbm record reads) := by
  refine h.step hw ?_
  unfold State.powerUp
  exact (by
      try dsimp -proj only
      split
      · exact touch_power (State.setf_touch (State.showId_touch (State.showFuses_touch (State.extendFree_touch (touch_now
          (State.wiped_touch .refl (by decide) _) (by decide) _) (by decide) _) (by decide) ) (by decide) ) (by decide) _ _)
          (by decide) _
      · exact touch_ite (State.extendFree_touch (State.stacksUp_touch (State.extend_touch (State.yarrowRuns_touch
          (State.showId_touch (State.showFuses_touch (State.extendFree_touch (touch_now (State.wiped_touch .refl (by decide) _)
          (by decide) _) (by decide) _) (by decide) ) (by decide) ) (by decide) _ _) (by decide) _ _) (by decide) _ _) (by decide)
          _) (State.badRecord__touch (State.extendFree_touch (State.stacksUp_touch (State.extend_touch (State.yarrowRuns_touch
          (State.showId_touch (State.showFuses_touch (State.extendFree_touch (touch_now (State.wiped_touch .refl (by decide) _)
          (by decide) _) (by decide) _) (by decide) ) (by decide) ) (by decide) _ _) (by decide) _ _) (by decide) _ _) (by decide)
          _) (by decide) ))

theorem execPowerOn_touch (h : Touch W a s) (hw : Part.sub [.clock, .supply, .registers, .memory, .sent, .readback, .frame, .slots,
    .fences, .packets, .transactions, .programming, .configuration, .lanes, .results, .calibration, .scrub, .temperature,
      .tracking, .degraded, .repeats, .records, .suspects, .proxies, .clocks, .image, .load, .failures, .requests, .completions,
        .admission, .leaves, .prefixes, .sampling, .pages, .taint, .journal, .snapshots, .staged, .links, .plan, .quadrille,
          .membership, .pool, .doors, .yarrow, .audit, .boot, .larkspur, .mail, .service, .heat, .free] W = true) (t : Nat) (yOk
            lOk hbm : List Nat) (record : Bool) (reads : List (Nat × Int)) :
    ∀ u, execPowerOn t yOk lOk hbm record reads s = .next u → Touch W a u := by
  refine outTouch_step h hw ?_
  unfold execPowerOn
  exact outTouch_ite (outTouch_next (State.powerUp_touch .refl (by decide) _ _ _ _ _ _)) (outTouch_next (State.at_touch .refl
    (by decide) _))

theorem execSelfTestDone_touch (h : Touch W a s) (hw : Part.sub [.clock, .failures, .boot] W = true) (t : Nat) (convs : List (Nat ×
    Nat)) (cores routers : List Nat) :
    ∀ u, execSelfTestDone t convs cores routers s = .next u → Touch W a u := by
  refine outTouch_step h hw ?_
  unfold execSelfTestDone
  exact outTouch_ite (outTouch_next (touch_failTile_failCore_boot (State.at_touch .refl (by decide) _) (by decide) _ _ _))
    (outTouch_next (State.at_touch .refl (by decide) _))

theorem execTransitEnter_touch (h : Touch W a s) (hw : Part.sub [.clock, .registers, .sent, .doors, .boot, .service] W = true) (t :
    Nat) :
    ∀ u, execTransitEnter t s = .next u → Touch W a u := by
  refine outTouch_step h hw ?_
  unfold execTransitEnter
  exact outTouch_ite (outTouch_next (touch_ite (State.drainLeft_touch (touch_drain (State.evt_touch (State.setPhase_touch
    (touch_boot (touch_ite (touch_foldl _ (State.setf_touch (State.at_touch .refl (by decide) _) (by decide) _ _) (fun u _ hu =>
    (State.setf_touch (State.setf_touch hu (by decide) _ _) (by decide) _ _))) (State.setf_touch (State.at_touch .refl (by decide)
    _) (by decide) _ _)) (by decide) _) (by decide) _) (by decide) _) (by decide) _) (by decide) ) (touch_drain (State.evt_touch
    (State.setPhase_touch (touch_boot (touch_ite (touch_foldl _ (State.setf_touch (State.at_touch .refl (by decide) _) (by decide) _
    _) (fun u _ hu => (State.setf_touch (State.setf_touch hu (by decide) _ _) (by decide) _ _))) (State.setf_touch (State.at_touch
    .refl (by decide) _) (by decide) _ _)) (by decide) _) (by decide) _) (by decide) _) (by decide) _))) (outTouch_next
    (State.at_touch .refl (by decide) _))

theorem execFunctionReset_touch (h : Touch W a s) (hw : Part.sub [.clock, .registers] W = true) (t : Nat) :
    ∀ u, execFunctionReset t s = .next u → Touch W a u :=
  outTouch_next (touch_regs (State.at_touch h (Part.sub_trans (by decide) hw) t) (Part.sub_trans (by decide) hw) _
    (scanon_sublist List.filter_sublist))

theorem State.sendPending_touch (h : Touch W a s) (hw : Part.sub [.registers, .sent] W = true) (v : Nat) :
    Touch W a (State.sendPending s v) := by
  refine h.step hw ?_
  unfold State.sendPending
  exact touch_ite (State.msix_touch .refl (by decide) _) .refl

theorem execMsixUnmask_touch (h : Touch W a s) (hw : Part.sub [.clock, .registers, .sent] W = true) (t v : Nat) :
    ∀ u, execMsixUnmask t v s = .next u → Touch W a u := by
  refine outTouch_step h hw ?_
  unfold execMsixUnmask
  dsimp -proj only
  split
  · exact outTouch_next ((State.at_touch .refl (by decide) _).trans (State.gate_some .refl (by decide) _ _ (by assumption)))
  · exact outTouch_ite (outTouch_next (State.sendPending_touch (State.setf_touch (State.at_touch .refl (by decide) _) (by decide) _ _)
      (by decide) _)) (outTouch_next (State.at_touch .refl (by decide) _))

end Sys2Proof.Machine
end

