-- ==== Sys2Proof/Laws/FrameAccess.lean ====
section
/-! SUPPORT. What each operation and each meaning of Machine/Access.lean may change. -/

namespace Sys2Proof.Machine

variable {W : List Part} {a s : State}

theorem State.wrNone_touch (h : Touch W a s) (hw : Part.sub [.registers, .sent] W = true) (q : Requester) (a0 : Nat) :
    Touch W a (State.wrNone s q a0) := by
  refine h.step hw ?_
  unfold State.wrNone
  exact State.guarded_touch .refl (by decide) _ _ _ _ _ (fun u hu => hu)

theorem State.wrScale_touch (h : Touch W a s) (hw : Part.sub [.registers, .sent, .transactions] W = true) (q : Requester) (T a0 v :
    Nat) :
    Touch W a (State.wrScale s q T a0 v) := by
  refine h.step hw ?_
  unfold State.wrScale
  exact State.guarded_touch .refl (by decide) _ _ _ _ _ (fun u hu => (State.shadow_touch hu (by decide) _ _ _ _ _))

theorem touch_some_ite {c : Prop} [Decidable c] {x y : Option State} (hx : ∀ u, x = some u → Touch W a u)
    (hy : ∀ u, y = some u → Touch W a u) : ∀ u, (if c then x else y) = some u → Touch W a u := by split <;> assumption

theorem touch_some {v : State} (h : Touch W a v) : ∀ u, some v = some u → Touch W a u := fun _ e => Option.some.inj e ▸ h

theorem touch_none : ∀ u, none = some u → Touch W a u := fun _ e => nomatch e

theorem State.writeCore_some (h : Touch W a s) (hw : Part.sub [.registers, .memory, .sent, .transactions, .programming,
    .configuration, .lanes, .calibration, .scrub, .tracking] W = true) (q : Requester) (k v : Nat) :
    ∀ u, s.writeCore q k v = some u → Touch W a u := by
  have hw' {K : List Part} (hk : Part.sub K [.registers, .memory, .sent, .transactions, .programming, .configuration, .lanes,
    .calibration, .scrub, .tracking] = true) : Part.sub K W = true := Part.sub_trans hk hw
  unfold State.writeCore
  refine touch_some_ite (touch_some_ite (touch_some (touch_ite (State.wrForceFlag_touch h (hw' (by decide)) ..)
    (State.wrNone_touch h (hw' (by decide)) ..))) (touch_some_ite (touch_some ?_) touch_none)) ?_
  · split
    · exact State.wrProgram_touch h (hw' (by decide)) ..
    · exact State.wrErase_touch h (hw' (by decide)) ..
    · exact State.wrProgAbort_touch h (hw' (by decide)) ..
    · exact State.wrNone_touch h (hw' (by decide)) ..
  · exact touch_some_ite (touch_some (State.wrTrim_touch h (hw' (by decide)) ..))
      (touch_some_ite (touch_some (State.wrScale_touch h (hw' (by decide)) ..))
      (touch_some_ite (touch_some (State.wrAccClr_touch h (hw' (by decide)) ..))
      (touch_some_ite (touch_some (State.wrSpdData_touch h (hw' (by decide)) ..))
      (touch_some_ite (touch_some (State.wrValidate_touch h (hw' (by decide)) ..))
      (touch_some_ite (touch_some (State.wrGTrack_touch h (hw' (by decide)) ..)) touch_none)))))

theorem State.writeHub_some (h : Touch W a s) (hw : Part.sub [.supply, .registers, .memory, .sent, .readback, .frame, .slots,
    .fences, .packets, .transactions, .programming, .configuration, .lanes, .results, .calibration, .scrub, .temperature,
      .tracking, .degraded, .repeats, .records, .suspects, .proxies, .clocks, .image, .load, .failures, .requests, .completions,
        .admission, .leaves, .prefixes, .sampling, .pages, .taint, .journal, .snapshots, .staged, .links, .plan, .quadrille,
          .membership, .pool, .doors, .yarrow, .audit, .boot, .larkspur, .mail, .service, .heat, .free] W = true) (q : Requester)
            (k v : Nat) :
    ∀ u, s.writeHub q k v = some u → Touch W a u := by
  have hw' {K : List Part} (hk : Part.sub K [.supply, .registers, .memory, .sent, .readback, .frame, .slots, .fences, .packets,
    .transactions, .programming, .configuration, .lanes, .results, .calibration, .scrub, .temperature, .tracking, .degraded,
      .repeats, .records, .suspects, .proxies, .clocks, .image, .load, .failures, .requests, .completions, .admission, .leaves,
        .prefixes, .sampling, .pages, .taint, .journal, .snapshots, .staged, .links, .plan, .quadrille, .membership, .pool, .doors,
          .yarrow, .audit, .boot, .larkspur, .mail, .service, .heat, .free] = true) : Part.sub K W = true := Part.sub_trans hk hw
  unfold State.writeHub
  refine touch_some_ite (touch_some (State.wrReset_touch h (hw' (by decide)) ..))
    (touch_some_ite (touch_some (touch_ite (State.wrLoadAbort_touch h (hw' (by decide)) ..) (State.wrNone_touch h (hw' (by decide))
      ..)))
    (touch_some_ite (touch_some (State.wrPlan_touch h (hw' (by decide)) ..))
    (touch_some_ite (touch_some (State.wrPortEn_touch h (hw' (by decide)) ..))
    (touch_some_ite (touch_some (State.wrFchEn_touch h (hw' (by decide)) ..))
    (touch_some_ite (touch_some ?_)
    (touch_some_ite (touch_some (State.wrUnitReset_touch h (hw' (by decide)) ..))
    (touch_some_ite (touch_some (State.wrUnitEn_touch h (hw' (by decide)) ..))
    (touch_some_ite (touch_some (State.wrXchk_touch h (hw' (by decide)) ..))
    (touch_some_ite (touch_some (State.wrTrkClr_touch h (hw' (by decide)) ..)) touch_none)))))))))
  split
  · exact State.wrPoolRead_touch h (hw' (by decide)) ..
  · exact State.wrPoolWrite_touch h (hw' (by decide)) ..
  · exact State.wrPoolAbort_touch h (hw' (by decide)) ..
  · exact State.wrNone_touch h (hw' (by decide)) ..

theorem State.takeWrite_touch (h : Touch W a s) (hw : Part.sub [.registers, .sent, .transactions] W = true) (q : Requester) (a0 v :
    Nat) (r : RegRow) :
    Touch W a (State.takeWrite s q a0 v r) := by
  refine h.step hw ?_
  unfold State.takeWrite
  exact touch_ite (State.when_touch (State.putBits_touch (State.putBits_touch .refl (by decide) _ _ _) (by decide) _ _ _) _ _ (fun u
    hu => (State.msix_touch hu (by decide) _))) (State.shadow_touch (State.when_touch (State.putBits_touch (State.putBits_touch
    .refl (by decide) _ _ _) (by decide) _ _ _) _ _ (fun u hu => (State.msix_touch hu (by decide) _))) (by decide) _ _ _ _ _)

theorem State.wrPlain_touch (h : Touch W a s) (hw : Part.sub [.registers, .sent, .transactions] W = true) (q : Requester) (a0 v :
    Nat) (r : RegRow) :
    Touch W a (State.wrPlain s q a0 v r) := by
  refine h.step hw ?_
  unfold State.wrPlain
  exact touch_ite (by
      try dsimp -proj only
      split
      · exact State.gate_some .refl (by decide) _ _ (by assumption)
      · exact touch_ite (State.putBits_touch .refl (by decide) _ _ _) (State.reject_touch .refl (by decide) _ _ _))
    (State.guarded_touch .refl (by decide) _ _ _ _ _ (fun u hu => (State.takeWrite_touch hu (by decide) _ _ _ _)))

theorem State.gate_getD (h : Touch W a s) (hw : Part.sub [.registers, .sent] W = true) (q : Requester) (k : Nat) {u : State}
    (hu : Touch W a u) : Touch W a ((s.gate q k).getD u) := by
  cases e : s.gate q k with
  | none => exact hu
  | some v => exact State.gate_some h hw q k e

theorem State.writeReg_touch (h : Touch W a s) (hw : Part.sub [.supply, .registers, .memory, .sent, .readback, .frame, .slots,
    .fences, .packets, .transactions, .programming, .configuration, .lanes, .results, .calibration, .scrub, .temperature,
      .tracking, .degraded, .repeats, .records, .suspects, .proxies, .clocks, .image, .load, .failures, .requests, .completions,
        .admission, .leaves, .prefixes, .sampling, .pages, .taint, .journal, .snapshots, .staged, .links, .plan, .quadrille,
          .membership, .pool, .doors, .yarrow, .audit, .boot, .larkspur, .mail, .service, .heat, .free] W = true) (q : Requester)
            (k v : Nat) :
    Touch W a (State.writeReg s q k v) := by
  unfold State.writeReg
  split
  · exact State.gate_getD h (Part.sub_trans (by decide) hw) q k h
  · split
    · rename_i e
      split at e
      · exact State.writeHub_some h (Part.sub_trans (by decide) hw) _ _ _ _ e
      · exact State.writeCore_some h (Part.sub_trans (by decide) hw) _ _ _ _ e
    · exact State.wrPlain_touch h (Part.sub_trans (by decide) hw) ..

theorem State.writePort_touch (h : Touch W a s) (hw : Part.sub [.registers, .sent, .frame, .transactions, .records, .links,
    .quadrille, .doors] W = true) (q : Requester) (o v : Nat) :
    Touch W a (State.writePort s q o v) := by
  refine h.step hw ?_
  unfold State.writePort
  exact touch_ite (by
      try dsimp -proj only
      split
      · exact State.wrBegin_touch .refl (by decide) _ _
      · exact State.wrCommit_touch .refl (by decide) _ _ _
      · exact State.wrRollback_touch .refl (by decide) _ _
      · exact .refl) (touch_ite (State.port_touch .refl _ (fun u hu => (State.setf_touch hu (by decide) _ _))) .refl)

theorem State.writeDoor_touch (h : Touch W a s) (hw : Part.sub [.registers, .doors] W = true) (d o v : Nat) :
    Touch W a (State.writeDoor s d o v) := by
  refine h.step hw ?_
  unfold State.writeDoor
  exact touch_ite (touch_ite (State.setf_touch .refl (by decide) _ _) (touch_ite (State.ring_touch .refl (by decide) _) .refl))
    .refl

theorem State.writeQp_touch (h : Touch W a s) (hw : Part.sub [.registers, .memory, .sent, .frame, .records, .requests,
    .completions, .admission, .journal] W = true) (p o v : Nat) :
    Touch W a (State.writeQp s p o v) := by
  refine h.step hw ?_
  unfold State.writeQp
  exact touch_ite (State.wrQpCfg_touch .refl (by decide) _ _) (touch_ite (State.wrSqTail_touch .refl (by decide) _ _ _) (touch_ite
    (State.wrCqHead_touch .refl (by decide) _ _ _) .refl))

theorem State.writeMsix_touch (h : Touch W a s) (hw : Part.sub [.registers, .sent] W = true) (a0 v n : Nat) :
    Touch W a (State.writeMsix s a0 v n) := by
  refine h.step hw ?_
  unfold State.writeMsix
  exact State.sendPending_touch (touch_ite (State.setReg_touch .refl (by decide) _ _) (State.setf_touch .refl (by decide) _ _))
    (by decide) _

theorem State.writeCfg_touch (h : Touch W a s) (hw : Part.sub [.registers, .sent] W = true) (v : Nat) :
    Touch W a (State.writeCfg s v) := by
  refine h.step hw ?_
  unfold State.writeCfg
  exact touch_foldl _ (State.setf_touch .refl (by decide) _ _) (fun u _ hu => (State.sendPending_touch hu (by decide) _))

theorem State.writeBar2_touch (h : Touch W a s) (hw : Part.sub [.registers, .memory, .sent, .frame, .transactions, .records,
    .requests, .completions, .admission, .journal, .links, .quadrille, .doors] W = true) (o v n : Nat) :
    Touch W a (State.writeBar2 s o v n) := by
  refine h.step hw ?_
  unfold State.writeBar2
  refine touch_ite (touch_ite .refl (touch_ite (State.writePort_touch .refl (by decide) _ _ _)
    (touch_ite (State.writeDoor_touch .refl (by decide) _ _ _) .refl))) ?_
  split
  · exact State.gate_some .refl (by decide) _ _ (by assumption)
  · exact touch_ite (State.write_touch .refl (by decide) _ _) (touch_ite (State.writeMsix_touch .refl (by decide) _ _ _)
      (touch_ite (State.writeQp_touch .refl (by decide) _ _ _) .refl))

theorem State.writeBus_touch (h : Touch W a s) (hw : Part.sub [.registers, .sent, .frame, .transactions, .records, .links,
    .quadrille, .doors] W = true) (q : Requester) (a0 v : Nat) :
    Touch W a (State.writeBus s q a0 v) := by
  refine h.step hw ?_
  unfold State.writeBus
  exact touch_ite (State.writePort_touch .refl (by decide) _ _ _) (by
      try dsimp -proj only
      split
      · exact State.writeDoor_touch .refl (by decide) _ _ _
      · exact .refl)

theorem State.writeKey_touch (h : Touch W a s) (hw : Part.sub [.supply, .registers, .memory, .sent, .readback, .frame, .slots,
    .fences, .packets, .transactions, .programming, .configuration, .lanes, .results, .calibration, .scrub, .temperature,
      .tracking, .degraded, .repeats, .records, .suspects, .proxies, .clocks, .image, .load, .failures, .requests, .completions,
        .admission, .leaves, .prefixes, .sampling, .pages, .taint, .journal, .snapshots, .staged, .links, .plan, .quadrille,
          .membership, .pool, .doors, .yarrow, .audit, .boot, .larkspur, .mail, .service, .heat, .free] W = true) (q : Requester)
            (k v n : Nat) :
    Touch W a (State.writeKey s q k v n) := by
  have hw' {K : List Part} (hk : Part.sub K [.supply, .registers, .memory, .sent, .readback, .frame, .slots, .fences, .packets,
    .transactions, .programming, .configuration, .lanes, .results, .calibration, .scrub, .temperature, .tracking, .degraded,
      .repeats, .records, .suspects, .proxies, .clocks, .image, .load, .failures, .requests, .completions, .admission, .leaves,
        .prefixes, .sampling, .pages, .taint, .journal, .snapshots, .staged, .links, .plan, .quadrille, .membership, .pool, .doors,
          .yarrow, .audit, .boot, .larkspur, .mail, .service, .heat, .free] = true) : Part.sub K W = true := Part.sub_trans hk hw
  unfold State.writeKey
  exact touch_ite (touch_ite (State.writeReg_touch h (hw' (by decide)) ..) (State.gate_getD h (hw' (by decide)) q k
      (State.when_touch h _ _ (fun u hu => State.hostErr_touch hu (hw' (by decide)) _))))
    (touch_ite h (touch_ite (touch_ite (State.writeBar2_touch h (hw' (by decide)) ..) h)
      (touch_ite (touch_ite (State.writeCfg_touch h (hw' (by decide)) ..) h) (State.writeBus_touch h (hw' (by decide)) ..))))

theorem execRegisterWrite_touch (h : Touch W a s) (hw : Part.sub [.clock, .supply, .registers, .memory, .sent, .readback, .frame,
    .slots, .fences, .packets, .transactions, .programming, .configuration, .lanes, .results, .calibration, .scrub, .temperature,
      .tracking, .degraded, .repeats, .records, .suspects, .proxies, .clocks, .image, .load, .failures, .requests, .completions,
        .admission, .leaves, .prefixes, .sampling, .pages, .taint, .journal, .snapshots, .staged, .links, .plan, .quadrille,
          .membership, .pool, .doors, .yarrow, .audit, .boot, .larkspur, .mail, .service, .heat, .free] W = true) (t : Nat) (q :
            Requester) (addr : Nat) (val : Word) (bytes : Nat) :
    ∀ u, execRegisterWrite t q addr val bytes s = .next u → Touch W a u := by
  refine outTouch_step h hw ?_
  unfold execRegisterWrite
  exact outTouch_next (State.writeKey_touch (State.at_touch .refl (by decide) _) (by decide) _ _ _ _)

end Sys2Proof.Machine
end

