-- ==== Sys2Proof/Laws/FrameTick.lean ====
section
/-! SUPPORT. What each operation and each meaning of Machine/Tick.lean may change. -/

namespace Sys2Proof.Machine

variable {W : List Part} {a s : State}

theorem State.mapRegs_touch (h : Touch W a s) (hw : Part.sub [.registers] W = true) (p : Nat → Bool) (f : Nat → Nat) :
    Touch W a (State.mapRegs s p f) :=
  touch_regs h hw _ (scanon_map_filter (fun x => by split <;> rfl))

theorem State.decayCounts_touch (h : Touch W a s) (hw : Part.sub [.registers] W = true) :
    Touch W a (State.decayCounts s) := by
  refine h.step hw ?_
  unfold State.decayCounts
  exact State.mapRegs_touch .refl (by decide) _ _

theorem State.banksOff_touch (h : Touch W a s) (hw : Part.sub [.registers] W = true) :
    Touch W a (State.banksOff s) := by
  refine h.step hw ?_
  unfold State.banksOff
  exact State.mapRegs_touch .refl (by decide) _ _

theorem State.applyTrims_touch (h : Touch W a s) (hw : Part.sub [.registers, .calibration] W = true) :
    Touch W a (State.applyTrims s) := by
  refine h.step hw ?_
  unfold State.applyTrims
  exact touch_trimNext_swTrim (touch_foldl _ .refl (fun u _ hu => (touch_ite hu (State.setfi_touch (State.setfi_touch hu (by decide)
    _ _) (by decide) _ _)))) (by decide) _ _

theorem State.gainArr_touch (h : Touch W a s) (hw : Part.sub [.registers, .sent, .frame, .records, .free] W = true) (A : Nat) :
    Touch W a (State.gainArr s A) := by
  refine h.step hw ?_
  unfold State.gainArr
  exact touch_ite (State.driftFlag_touch (State.evt_touch (State.setf_touch (by
      try dsimp -proj only
      split
      · exact (by
            try dsimp -proj only
            split
            · exact State.setf_touch .refl (by decide) _ _
            · exact .refl)
      · exact touch_ite (State.setf_touch (State.used_touch (by
            try dsimp -proj only
            split
            · exact State.setf_touch .refl (by decide) _ _
            · exact .refl) (by decide) ) (by decide) _ _) (by
            try dsimp -proj only
            split
            · exact State.setf_touch (by
                  try dsimp -proj only
                  split
                  · exact State.setf_touch .refl (by decide) _ _
                  · exact .refl) (by decide) _ _
            · exact State.setf_touch (State.used_touch (by
                  try dsimp -proj only
                  split
                  · exact State.setf_touch .refl (by decide) _ _
                  · exact .refl) (by decide) ) (by decide) _ _))
    (by decide) _ _) (by decide) _) (by decide) _ _) (State.setf_touch (by
      try dsimp -proj only
      split
      · exact (by
            try dsimp -proj only
            split
            · exact State.setf_touch .refl (by decide) _ _
            · exact .refl)
      · exact touch_ite (State.setf_touch (State.used_touch (by
            try dsimp -proj only
            split
            · exact State.setf_touch .refl (by decide) _ _
            · exact .refl) (by decide) ) (by decide) _ _) (by
            try dsimp -proj only
            split
            · exact State.setf_touch (by
                  try dsimp -proj only
                  split
                  · exact State.setf_touch .refl (by decide) _ _
                  · exact .refl) (by decide) _ _
            · exact State.setf_touch (State.used_touch (by
                  try dsimp -proj only
                  split
                  · exact State.setf_touch .refl (by decide) _ _
                  · exact .refl) (by decide) ) (by decide) _ _))
    (by decide) _ _)

theorem State.gains_touch (h : Touch W a s) (hw : Part.sub [.registers, .sent, .frame, .tracking, .records, .free] W = true) :
    Touch W a (State.gains s) := by
  refine h.step hw ?_
  unfold State.gains
  exact touch_ite (touch_trkNext (touch_foldl _ .refl (fun u _ hu => (State.gainArr_touch hu (by decide) _))) (by decide) _) .refl

theorem State.railSteps_touch (h : Touch W a s) (hw : Part.sub [.registers, .sent, .suspects] W = true) :
    Touch W a (State.railSteps s) := by
  refine h.step hw ?_
  unfold State.railSteps
  exact touch_foldl _ (touch_railPend .refl (by decide) _) (fun u _ hu => (State.railUp_touch hu (by decide) _))

theorem State.writeTaint_touch (h : Touch W a s) (hw : Part.sub [.memory, .taint] W = true) :
    Touch W a (State.writeTaint s) := by
  refine h.step hw ?_
  unfold State.writeTaint
  exact touch_taint (State.write_touch .refl (by decide) _ _) (by decide) _

theorem State.resumePatches_touch (h : Touch W a s) (hw : Part.sub [.registers, .quadrille] W = true) :
    Touch W a (State.resumePatches s) := by
  refine h.step hw ?_
  unfold State.resumePatches
  exact touch_ite .refl (touch_ite (touch_qdr .refl (by decide) _) (State.putPatches_touch .refl (by decide) _))

theorem State.resume_touch (h : Touch W a s) (hw : Part.sub [.registers, .memory, .sent, .frame, .fences, .requests, .admission,
    .journal, .quadrille] W = true) :
    Touch W a (State.resume s) := by
  refine h.step hw ?_
  unfold State.resume
  exact touch_ite .refl (touch_pav_qdr (State.patchEffects_touch (State.resumePatches_touch (touch_foldl _ (State.setf_touch
    (State.setf_touch (State.evt_touch (State.inc_touch (State.setf_touch (State.setf_touch .refl (by decide) _ _) (by decide) _ _)
    (by decide) _) (by decide) _) (by decide) _ _) (by decide) _ _) (fun u _ hu => (State.adopt_touch (State.loseMember_touch hu
    (by decide) _) (by decide) _))) (by decide) ) (by decide) _) (by decide) _ _)

theorem State.nextFrame_touch (h : Touch W a s) (hw : Part.sub [.registers] W = true) :
    Touch W a (State.nextFrame s) := by
  refine h.step hw ?_
  unfold State.nextFrame
  exact State.setf_touch (State.setf_touch .refl (by decide) _ _) (by decide) _ _

theorem State.freshFrame_touch (h : Touch W a s) (hw : Part.sub [.registers, .frame, .slots, .packets, .results, .scrub, .degraded,
    .repeats, .sampling, .staged, .links] W = true) :
    Touch W a (State.freshFrame s) := by
  refine h.step hw ?_
  unfold State.freshFrame
  exact State.banksOff_touch
    (touch_pav_held_satRec_capture_lastPass_clearing_wcCount_pktCount_ran_degrade_wideRep_done_summaries_fill_fillNext_ports .refl
    (by decide) _ _ _ _ _ _ _ _ _ _ _ _ _ _ _ _) (by decide)

theorem State.freshBarrier_touch (h : Touch W a s) (hw : Part.sub [.staged, .quadrille] W = true) :
    Touch W a (State.freshBarrier s) := by
  refine h.step hw ?_
  unfold State.freshBarrier
  exact touch_staged_qdr .refl (by decide) _ _

theorem State.takeLevel_touch (h : Touch W a s) (hw : Part.sub [.registers, .frame] W = true) (latched : Option Nat) :
    Touch W a (State.takeLevel s latched) := by
  refine h.step hw ?_
  unfold State.takeLevel
  exact touch_pav (touch_ite (by
      try dsimp -proj only
      split
      · exact State.setf_touch .refl (by decide) _ _
      · exact .refl) (State.setf_touch (by
      try dsimp -proj only
      split
      · exact State.setf_touch .refl (by decide) _ _
      · exact .refl) (by decide) _ _)) (by decide) _

theorem State.advanceHorizon_touch (h : Touch W a s) (hw : Part.sub [.registers] W = true) :
    Touch W a (State.advanceHorizon s) := by
  refine h.step hw ?_
  unfold State.advanceHorizon
  exact State.setf_touch .refl (by decide) _ _

theorem State.serveStep_touch (h : Touch W a s) (hw : Part.sub [.registers, .memory, .sent, .transactions, .requests, .completions,
    .admission, .prefixes, .pages, .taint, .journal, .snapshots, .links] W = true) :
    Touch W a (State.serveStep s) := by
  refine h.step hw ?_
  unfold State.serveStep
  exact touch_ite (State.rejectFwd_touch .refl (by decide) _ _) (touch_ite (State.rejectFwd_touch .refl (by decide) _ _)
    (State.serveTick_touch (touch_ite (State.rejectFwd_touch .refl (by decide) _ _) .refl) (by decide) ))

theorem State.commitLeave_touch (h : Touch W a s) (hw : Part.sub [.registers, .transactions, .leaves] W = true) (m f : Nat) :
    Touch W a (State.commitLeave s m f) := by
  refine h.step hw ?_
  unfold State.commitLeave
  exact State.setPend_touch (touch_leaves .refl (by decide) _) (by decide) _

theorem State.retryLeaves_touch (h : Touch W a s) (hw : Part.sub [.registers, .transactions, .leaves] W = true) :
    Touch W a (State.retryLeaves s) := by
  refine h.step hw ?_
  unfold State.retryLeaves
  exact touch_ite (touch_foldl _ .refl (fun u _ hu => (State.commitLeave_touch hu (by decide) _ _))) .refl

theorem State.rejoinCopy_touch (h : Touch W a s) (hw : Part.sub [.journal, .links] W = true) :
    Touch W a (State.rejoinCopy s) := by
  refine h.step hw ?_
  unfold State.rejoinCopy
  exact (by
      try dsimp -proj only
      split
      · exact touch_ite (touch_ite (touch_ctrlQ_copied .refl (by decide) _ _) (touch_ctrlQ_copied .refl (by decide) _ _)) .refl
      · exact .refl)

theorem State.drainTick_touch (h : Touch W a s) (hw : Part.sub [.registers, .sent, .doors, .service] W = true) :
    Touch W a (State.drainTick s) := by
  refine h.step hw ?_
  unfold State.drainTick
  exact touch_ite (touch_ite (State.setDrain_touch (State.setPhase_touch (touch_drain (touch_drain .refl (by decide) _) (by decide)
    _) (by decide) _) (by decide) _) (State.drainLeft_touch (touch_drain .refl (by decide) _) (by decide) )) .refl

theorem State.tick_touch (h : Touch W a s) (hw : Part.sub [.registers, .memory, .sent, .frame, .slots, .fences, .packets,
    .transactions, .results, .calibration, .scrub, .tracking, .degraded, .repeats, .records, .suspects, .image, .load, .requests,
      .completions, .admission, .leaves, .prefixes, .sampling, .pages, .taint, .journal, .snapshots, .staged, .links, .quadrille,
        .membership, .pool, .doors, .yarrow, .mail, .service, .free] W = true) (cut start join : Bool) :
    Touch W a (State.tick s cut start join) := by
  refine h.step hw ?_
  unfold State.tick
  exact State.rejoinCopy_touch (State.retryLeaves_touch (State.railSteps_touch (State.gains_touch (State.applyTrims_touch
    (State.decayCounts_touch (State.serveStep_touch (State.drainTick_touch (State.advanceHorizon_touch (State.takeLevel_touch
    (State.freshBarrier_touch (State.applyDue_touch (State.when_touch (State.resume_touch (State.freshFrame_touch
    (State.nextFrame_touch (State.when_touch (State.when_touch .refl _ _ (fun u hu => (State.writeTaint_touch
    (State.tellDegraded_touch hu (by decide) ) (by decide) ))) _ _ (fun u1 hu1 => (State.evt_touch hu1 (by decide) _))) (by decide)
    ) (by decide) ) (by decide) ) _ _ (fun u2 hu2 => (State.removeImage_touch hu2 (by decide) ))) (by decide) _ _) (by decide) )
    (by decide) _) (by decide) ) (by decide) ) (by decide) ) (by decide) ) (by decide) ) (by decide) ) (by decide) ) (by decide) )
    (by decide)

theorem execTick_touch (h : Touch W a s) (hw : Part.sub [.clock, .registers, .memory, .sent, .frame, .slots, .fences, .packets,
    .transactions, .results, .calibration, .scrub, .tracking, .degraded, .repeats, .records, .suspects, .image, .load, .requests,
      .completions, .admission, .leaves, .prefixes, .sampling, .pages, .taint, .journal, .snapshots, .staged, .links, .quadrille,
        .membership, .pool, .doors, .yarrow, .mail, .service, .free] W = true) (t : Nat) :
    ∀ u, execTick t s = .next u → Touch W a u := by
  refine outTouch_step h hw ?_
  unfold execTick
  exact outTouch_ite (outTouch_next (State.tick_touch (State.at_touch .refl (by decide) _) (by decide) _ _ _)) (outTouch_next
    (State.at_touch .refl (by decide) _))

theorem execTxnApply_touch (h : Touch W a s) (hw : Part.sub [.clock, .registers, .memory, .sent, .frame, .fences, .transactions,
    .scrub, .records, .image, .load, .requests, .completions, .admission, .leaves, .prefixes, .sampling, .pages, .taint, .journal,
      .snapshots, .staged, .links, .quadrille, .membership, .pool, .doors, .yarrow, .mail, .service] W = true) (t : Nat) :
    ∀ u, execTxnApply t s = .next u → Touch W a u := by
  refine outTouch_step h hw ?_
  unfold execTxnApply
  exact outTouch_ite (outTouch_next (State.applyDue_touch (State.at_touch .refl (by decide) _) (by decide) _ _)) (outTouch_next
    (State.at_touch .refl (by decide) _))

theorem execApplyTick_touch (h : Touch W a s) (hw : Part.sub [.clock, .registers, .memory, .sent, .frame, .slots, .fences,
    .packets, .transactions, .results, .calibration, .scrub, .tracking, .degraded, .repeats, .records, .suspects, .image, .load,
      .requests, .completions, .admission, .leaves, .prefixes, .sampling, .pages, .taint, .journal, .snapshots, .staged, .links,
        .quadrille, .membership, .pool, .doors, .yarrow, .mail, .service, .free] W = true) (t : Nat) :
    ∀ u, execApplyTick t s = .next u → Touch W a u := by
  refine outTouch_step h hw ?_
  unfold execApplyTick
  exact outTouch_ite (outTouch_next (touch_joinSeen_qdr (State.tick_touch (State.at_touch .refl (by decide) _) (by decide) _ _ _)
    (by decide) _ _)) (outTouch_next (State.at_touch .refl (by decide) _))

end Sys2Proof.Machine
end

