-- ==== Sys2Proof/Laws/FrameMgt.lean ====
section
/-! SUPPORT. What each operation and each meaning of Machine/Mgt.lean may change. -/

namespace Sys2Proof.Machine

variable {W : List Part} {a s : State}

theorem execStatus_touch (h : Touch W a s) (hw : Part.sub [.clock, .registers, .doors] W = true) (t : Nat) :
    ∀ u, execStatus t s = .next u → Touch W a u := by
  refine outTouch_step h hw ?_
  unfold execStatus
  exact outTouch_next (State.mgtDoor_touch (State.at_touch .refl (by decide) _) (by decide) _ _ (fun u hu => (State.reply_touch hu
    (by decide) _ _ _)))

theorem State.tryWrite_touch (h : Touch W a s) (hw : Part.sub [.registers] W = true) (f : State → State) (hf : ∀ u, Touch W a u →
    Touch W a (f u)) :
    Touch W a (State.tryWrite s f).1 := by
  unfold State.tryWrite
  try dsimp only
  exact touch_ite_by Prod.fst (State.setf_touch (hf _ (State.setf_touch h (Part.sub_trans (by decide) hw) _ _)) (Part.sub_trans
    (by decide) hw) _ _) (hf _ (State.setf_touch h (Part.sub_trans (by decide) hw) _ _))

theorem State.tryWrite_pair (h : Touch W a s) (hw : Part.sub [.registers] W = true) (f : State → State) (hf : ∀ u, Touch W a u →
    Touch W a (f u)) {u y} (e : State.tryWrite s f = (u, y)) :
    Touch W a u := by
  have := State.tryWrite_touch h hw f hf
  rwa [e] at this

theorem State.mgtWrites_touch (h : Touch W a s) (hw : Part.sub [.registers, .doors] W = true) (fs : List (State → State))
    (k : State → State) (hfs : ∀ f ∈ fs, ∀ u, Touch W a u → Touch W a (f u)) (hk : ∀ u, Touch W a u → Touch W a (k u)) :
    Touch W a (State.mgtWrites s fs k) := by
  induction fs generalizing s with
  | nil => exact hk _ h
  | cons f fs ih =>
    have ht := State.tryWrite_touch h (Part.sub_trans (by decide) hw) f (hfs f List.mem_cons_self)
    unfold State.mgtWrites
    split
    · rename_i e; rw [e] at ht
      exact State.reply_touch ht (Part.sub_trans (by decide) hw) ..
    · rename_i e; rw [e] at ht
      exact ih ht (fun f hf => hfs f (List.mem_cons_of_mem _ hf))

theorem execImgLoad_touch (h : Touch W a s) (hw : Part.sub [.clock, .supply, .registers, .memory, .sent, .readback, .frame, .slots,
    .fences, .packets, .transactions, .programming, .configuration, .lanes, .results, .calibration, .scrub, .temperature,
      .tracking, .degraded, .repeats, .records, .suspects, .proxies, .clocks, .image, .load, .failures, .requests, .completions,
        .admission, .leaves, .prefixes, .sampling, .pages, .taint, .journal, .snapshots, .staged, .links, .plan, .quadrille,
          .membership, .pool, .doors, .yarrow, .audit, .boot, .larkspur, .mail, .service, .heat, .free] W = true) (t : Nat) (img :
            Image) :
    ∀ u, execImgLoad t img s = .next u → Touch W a u := by
  have hw' {K : List Part} (hk : Part.sub K [.clock, .supply, .registers, .memory, .sent, .readback, .frame, .slots, .fences,
    .packets, .transactions, .programming, .configuration, .lanes, .results, .calibration, .scrub, .temperature, .tracking,
      .degraded, .repeats, .records, .suspects, .proxies, .clocks, .image, .load, .failures, .requests, .completions, .admission,
        .leaves, .prefixes, .sampling, .pages, .taint, .journal, .snapshots, .staged, .links, .plan, .quadrille, .membership,
          .pool, .doors, .yarrow, .audit, .boot, .larkspur, .mail, .service, .heat, .free] = true) : Part.sub K W = true :=
            Part.sub_trans hk hw
  refine outTouch_next (State.mgtDoor_touch (State.at_touch h (hw' (by decide)) _) (hw' (by decide)) _ _ (fun v hv => ?_))
  refine touch_ite (State.reply_touch hv (hw' (by decide)) ..) ?_
  refine State.mgtWrites_touch hv (hw' (by decide)) _ _ (fun f hf u hu => ?_) (fun u hu => ?_)
  · simp only [List.mem_cons, List.not_mem_nil, or_false] at hf
    rcases hf with rfl | rfl | rfl
    · exact State.writeReg_touch hu (hw' (by decide)) ..
    · exact State.writeReg_touch hu (hw' (by decide)) ..
    · exact State.guarded_touch hu (hw' (by decide)) _ _ _ _ _ (fun _ hx => State.load_touch hx (hw' (by decide)) _)
  · exact touch_ite (State.reply_touch hu (hw' (by decide)) ..) (touch_ite (State.reply_touch hu (hw' (by decide)) ..) hu)

theorem execImgAbort_touch (h : Touch W a s) (hw : Part.sub [.clock, .registers, .sent, .load, .doors] W = true) (t : Nat) :
    ∀ u, execImgAbort t s = .next u → Touch W a u := by
  have hw' {K : List Part} (hk : Part.sub K [.clock, .registers, .sent, .load, .doors] = true) : Part.sub K W = true :=
    Part.sub_trans hk hw
  refine outTouch_next (State.mgtDoor_touch (State.at_touch h (hw' (by decide)) _) (hw' (by decide)) _ _ (fun v hv => ?_))
  refine State.mgtWrites_touch hv (hw' (by decide)) _ _ (fun f hf u hu => ?_) (fun u hu => State.reply_touch hu (hw' (by decide)) ..)
  simp only [List.mem_cons, List.not_mem_nil, or_false] at hf
  subst hf
  exact State.wrLoadAbort_touch hu (hw' (by decide)) _

theorem execRegWrite_touch (h : Touch W a s) (hw : Part.sub [.clock, .supply, .registers, .memory, .sent, .readback, .frame,
    .slots, .fences, .packets, .transactions, .programming, .configuration, .lanes, .results, .calibration, .scrub, .temperature,
      .tracking, .degraded, .repeats, .records, .suspects, .proxies, .clocks, .image, .load, .failures, .requests, .completions,
        .admission, .leaves, .prefixes, .sampling, .pages, .taint, .journal, .snapshots, .staged, .links, .plan, .quadrille,
          .membership, .pool, .doors, .yarrow, .audit, .boot, .larkspur, .mail, .service, .heat, .free] W = true) (t : Nat) :
    ∀ u, execRegWrite t s = .next u → Touch W a u := by
  have hw' {K : List Part} (hk : Part.sub K [.clock, .supply, .registers, .memory, .sent, .readback, .frame, .slots, .fences,
    .packets, .transactions, .programming, .configuration, .lanes, .results, .calibration, .scrub, .temperature, .tracking,
      .degraded, .repeats, .records, .suspects, .proxies, .clocks, .image, .load, .failures, .requests, .completions, .admission,
        .leaves, .prefixes, .sampling, .pages, .taint, .journal, .snapshots, .staged, .links, .plan, .quadrille, .membership,
          .pool, .doors, .yarrow, .audit, .boot, .larkspur, .mail, .service, .heat, .free] = true) : Part.sub K W = true :=
            Part.sub_trans hk hw
  refine outTouch_next (State.mgtDoor_touch (State.at_touch h (hw' (by decide)) _) (hw' (by decide)) _ _ (fun v hv => ?_))
  extract_lets id
  have h1 : Touch W a (v.begin .larkspur id) := State.begin_touch hv (hw' (by decide)) ..
  refine touch_ite (State.reply_touch h1 (hw' (by decide)) ..) ?_
  have ht := State.tryWrite_touch h1 (hw' (by decide)) (fun s => s.writeReg .larkspur (s.reqWord 1 1) (s.reqWord 1 2))
    (fun u hu => State.writeReg_touch hu (hw' (by decide)) ..)
  split
  · rename_i e
    rw [e] at ht
    exact State.reply_touch (State.setOpen_touch ht (hw' (by decide)) ..) (hw' (by decide)) ..
  · rename_i e
    rw [e] at ht
    extract_lets _ s2 s3
    have h2 : Touch W a s2 := touch_mgtTxn (State.setf_touch ht (hw' (by decide)) ..) (hw' (by decide)) _
    clear_value s2
    have h3 : Touch W a s3 := State.commitCmd_touch h2 (hw' (by decide)) ..
    clear_value s3
    exact touch_ite h3 (State.reply_touch (touch_mgtTxn (State.setOpen_touch h3 (hw' (by decide)) ..) (hw' (by decide)) _)
      (hw' (by decide)) ..)

theorem execCablePlan_touch (h : Touch W a s) (hw : Part.sub [.clock, .registers, .sent, .frame, .transactions, .records, .links,
    .plan, .quadrille, .doors, .free] W = true) (t : Nat) :
    ∀ u, execCablePlan t s = .next u → Touch W a u := by
  have hw' {K : List Part} (hk : Part.sub K [.clock, .registers, .sent, .frame, .transactions, .records, .links, .plan, .quadrille,
    .doors, .free] = true) : Part.sub K W = true := Part.sub_trans hk hw
  refine outTouch_next (State.mgtDoor_touch (State.at_touch h (hw' (by decide)) _) (hw' (by decide)) _ _ (fun v hv => ?_))
  refine State.mgtWrites_touch hv (hw' (by decide)) _ _ (fun f hf u hu => ?_) (fun u hu => State.reply_touch hu (hw' (by decide)) ..)
  simp only [List.mem_cons, List.not_mem_nil, or_false] at hf
  subst hf
  exact State.wrPlan_touch hu (hw' (by decide)) ..

theorem execAudit_touch (h : Touch W a s) (hw : Part.sub [.clock, .registers, .doors, .audit] W = true) (t : Nat) :
    ∀ u, execAudit t s = .next u → Touch W a u := by
  refine outTouch_step h hw ?_
  unfold execAudit
  exact outTouch_next (State.mgtDoor_touch (State.at_touch .refl (by decide) _) (by decide) _ _ (fun u hu => (touch_ite
    (State.reply_touch hu (by decide) _ _ _) (touch_ite (State.reply_touch hu (by decide) _ _ _) (touch_audit hu (by decide) _)))))

theorem State.auditArray_touch (h : Touch W a s) (hw : Part.sub [.registers, .analog] W = true) (A : Nat) :
    Touch W a (State.auditArray s A) := by
  refine h.step hw ?_
  unfold State.auditArray
  exact State.setf_touch (State.setf_touch (touch_cells .refl (by decide) _) (by decide) _ _) (by decide) _ _

theorem execAuditDone_touch (h : Touch W a s) (hw : Part.sub [.clock, .registers, .frame, .analog, .records, .doors, .audit] W =
    true) (t : Nat) (items arrs : List Nat) :
    ∀ u, execAuditDone t items arrs s = .next u → Touch W a u := by
  refine outTouch_step h hw ?_
  unfold execAuditDone
  exact outTouch_ite (outTouch_next (State.reply_touch (touch_audit (touch_foldl _ (touch_foldl _ (State.at_touch .refl (by decide)
    _) (fun u _ hu => (State.auditArray_touch hu (by decide) _))) (fun u1 _ hu1 => (State.raise_touch hu1 (by decide) _ _ _ _ _)))
    (by decide) _) (by decide) _ _ _)) (outTouch_next (State.at_touch .refl (by decide) _))

theorem State.lspPut_touch (h : Touch W a s) (hw : Part.sub [.registers, .memory] W = true) (off : Nat) (bs : List Nat) :
    Touch W a (State.lspPut s off bs) := by
  refine h.step hw ?_
  unfold State.lspPut
  exact touch_ite (State.setf_touch (State.inc_touch .refl (by decide) _) (by decide) _ _) (State.write_touch .refl (by decide) _ _)

theorem execTelemetry_touch (h : Touch W a s) (hw : Part.sub [.clock, .registers, .memory, .doors] W = true) (t : Nat) (rest : List
    Nat) :
    ∀ u, execTelemetry t rest s = .next u → Touch W a u := by
  refine outTouch_step h hw ?_
  unfold execTelemetry
  exact outTouch_next (State.mgtDoor_touch (State.at_touch .refl (by decide) _) (by decide) _ _ (fun u hu => (State.withArea_touch
    hu (by decide) _ _ _ _ (fun u1 hu1 => (State.reply_touch (State.lspPut_touch hu1 (by decide) _ _) (by decide) _ _ _)))))

theorem State.requestDrain_touch (h : Touch W a s) (hw : Part.sub [.registers, .sent, .load, .doors, .service] W = true) (door :
    Bool) (waitMs : Nat) :
    Touch W a (State.requestDrain s door waitMs) := by
  have ha {u : State} (hu : Touch W a u) (st : Nat) : Touch W a (if door then u.reply 1 st [] else u) :=
    touch_ite (State.reply_touch hu (Part.sub_trans (by decide) hw) ..) hu
  unfold State.requestDrain
  exact touch_ite (ha h _) (touch_ite (touch_drain (touch_drain h (Part.sub_trans (by decide) hw) _) (Part.sub_trans (by decide)
    hw) _) (touch_ite
    (State.drainLeft_touch (State.loadAbort_touch (touch_drain h (Part.sub_trans (by decide) hw) _) (Part.sub_trans (by decide)
      hw)) (Part.sub_trans (by decide) hw))
    (touch_ite (ha (touch_drain h (Part.sub_trans (by decide) hw) _) _) (touch_drain (touch_drain h (Part.sub_trans (by decide) hw)
      _) (Part.sub_trans (by decide) hw) _))))

theorem execDrain_touch (h : Touch W a s) (hw : Part.sub [.clock, .registers, .sent, .load, .doors, .service] W = true) (t : Nat) :
    ∀ u, execDrain t s = .next u → Touch W a u := by
  refine outTouch_step h hw ?_
  unfold execDrain
  exact outTouch_next (State.mgtDoor_touch (State.at_touch .refl (by decide) _) (by decide) _ _ (fun u hu => (touch_ite
    (State.reply_touch hu (by decide) _ _ _) (State.requestDrain_touch hu (by decide) _ _))))

theorem State.handover_touch (h : Touch W a s) (hw : Part.sub [.registers, .sent, .transactions, .leaves, .links, .service] W = true) :
    Touch W a (State.handover s) := by
  refine h.step hw ?_
  unfold State.handover
  exact State.commitLeave_touch (State.toAll_touch (State.setDrain_touch .refl (by decide) _) (by decide) _) (by decide) _ _

theorem execDrainHandover_touch (h : Touch W a s) (hw : Part.sub [.clock, .registers, .sent, .transactions, .leaves, .links,
    .service] W = true) (t : Nat) :
    ∀ u, execDrainHandover t s = .next u → Touch W a u := by
  refine outTouch_step h hw ?_
  unfold execDrainHandover
  exact outTouch_ite (outTouch_next (State.handover_touch (State.at_touch .refl (by decide) _) (by decide) )) (outTouch_next
    (State.at_touch .refl (by decide) _))

theorem execDrainWaitExpire_touch (h : Touch W a s) (hw : Part.sub [.clock, .registers, .sent, .transactions, .leaves, .links,
    .service] W = true) (t : Nat) :
    ∀ u, execDrainWaitExpire t s = .next u → Touch W a u := by
  refine outTouch_step h hw ?_
  unfold execDrainWaitExpire
  exact outTouch_ite (outTouch_next (State.handover_touch (State.at_touch .refl (by decide) _) (by decide) )) (outTouch_next
    (State.at_touch .refl (by decide) _))

theorem execLeaveNotice_touch (h : Touch W a s) (hw : Part.sub [.clock, .registers, .transactions, .completions, .leaves] W = true)
    (t : Nat) :
    ∀ u, execLeaveNotice t s = .next u → Touch W a u := by
  refine outTouch_step h hw ?_
  unfold execLeaveNotice
  exact (by
      try dsimp -proj only
      split
      · exact outTouch_next (State.at_touch .refl (by decide) _)
      · exact outTouch_ite (outTouch_next (State.commitLeave_touch (touch_notices (State.at_touch .refl (by decide) _) (by decide)
          _) (by decide) _ _)) (outTouch_next (State.at_touch .refl (by decide) _)))

theorem execButtonPress_touch (h : Touch W a s) (hw : Part.sub [.clock, .registers, .service] W = true) (t stamp : Nat) :
    ∀ u, execButtonPress t stamp s = .next u → Touch W a u := by
  refine outTouch_step h hw ?_
  unfold execButtonPress
  exact outTouch_ite (outTouch_next (touch_drain (State.setf_touch (State.at_touch .refl (by decide) _) (by decide) _ _) (by decide)
    _)) (outTouch_next (State.at_touch .refl (by decide) _))

theorem State.holdDrain_touch (h : Touch W a s) (hw : Part.sub [.registers, .sent, .load, .doors, .service] W = true) (p a2 : Nat) :
    Touch W a (State.holdDrain s p a2) := by
  refine h.step hw ?_
  unfold State.holdDrain
  exact touch_ite .refl (State.requestDrain_touch (touch_drain .refl (by decide) _) (by decide) _ _)

theorem execButtonRelease_touch (h : Touch W a s) (hw : Part.sub [.clock, .registers, .sent, .load, .doors, .service] W = true) (t
    stamp : Nat) :
    ∀ u, execButtonRelease t stamp s = .next u → Touch W a u := by
  refine outTouch_step h hw ?_
  unfold execButtonRelease
  exact (by
      try dsimp -proj only
      split
      · exact outTouch_next (State.at_touch .refl (by decide) _)
      · exact outTouch_next (touch_drain (State.setf_touch (State.when_touch (State.holdDrain_touch (State.at_touch .refl
          (by decide) _) (by decide) _ _) _ _ (fun u hu => (State.evt_touch (State.inc_touch hu (by decide) _) (by decide) _)))
          (by decide) _ _) (by decide) _))

theorem execDrainRequest_touch (h : Touch W a s) (hw : Part.sub [.clock, .registers, .sent, .load, .doors, .service] W = true) (t :
    Nat) :
    ∀ u, execDrainRequest t s = .next u → Touch W a u := by
  refine outTouch_step h hw ?_
  unfold execDrainRequest
  exact (by
      try dsimp -proj only
      split
      · exact outTouch_next (State.at_touch .refl (by decide) _)
      · exact outTouch_next (State.holdDrain_touch (State.at_touch .refl (by decide) _) (by decide) _ _))

theorem execAttnFlashEnd_touch (h : Touch W a s) (hw : Part.sub [.clock, .service] W = true) (t : Nat) :
    ∀ u, execAttnFlashEnd t s = .next u → Touch W a u := by
  refine outTouch_step h hw ?_
  unfold execAttnFlashEnd
  exact outTouch_ite (outTouch_next (touch_drain (State.at_touch .refl (by decide) _) (by decide) _)) (outTouch_next (State.at_touch
    .refl (by decide) _))

theorem State.settleDoor_touch (h : Touch W a s) (hw : Part.sub [.registers, .doors] W = true) (d : Nat) :
    Touch W a (State.settleDoor s d) := by
  refine h.step hw ?_
  unfold State.settleDoor
  exact (by
      try dsimp -proj only
      split
      · exact .refl
      · exact touch_ite (touch_ite (State.reply_touch .refl (by decide) _ _ _) .refl) (touch_ite (touch_ite .refl
          (State.mgtDoor_touch .refl (by decide) _ _ (fun u hu => (State.reply_touch hu (by decide) _ _ _)))) (touch_ite .refl
          (State.secDoor_touch .refl (by decide) _ _ _ _ (fun u1 hu1 => (State.reply_touch hu1 (by decide) _ _ _))))))

theorem execMailboxDone_touch (h : Touch W a s) (hw : Part.sub [.clock, .registers, .sent, .doors] W = true) (t door : Nat) :
    ∀ u, execMailboxDone t door s = .next u → Touch W a u := by
  refine outTouch_step h hw ?_
  unfold execMailboxDone
  exact outTouch_ite (outTouch_next (State.at_touch .refl (by decide) _)) (outTouch_ite (outTouch_next (State.bellDone_touch
    (State.settleDoor_touch (State.at_touch .refl (by decide) _) (by decide) _) (by decide) _)) (outTouch_next
    (State.settleDoor_touch (State.at_touch .refl (by decide) _) (by decide) _)))

end Sys2Proof.Machine
end

