-- ==== Sys2Proof/Laws/RegFrame.lean ====
section
/-! SUPPORT. Which registers the shared operations may change (`regsBut`), and what an event, a counter and an interrupt leave in
their own fields. -/

namespace Sys2Proof.Machine

variable {K L : List Nat} {a b s : State}

theorem regsBut.refl : regsBut K a a := fun _ _ => rfl

theorem regsBut.trans (h : regsBut K a b) (h' : regsBut K b s) : regsBut K a s := fun k hk => (h' k hk).trans (h k hk)

theorem regsBut.mono (h : regsBut K a b) (hs : ∀ k, k ∈ K → k ∈ L) : regsBut L a b := fun k hk => h k (fun hk' => hk (hs k hk'))

/-- A state with the same registers. -/
theorem regsBut.congr (h : regsBut K a b) (e : s.regs = b.regs) : regsBut K a s := fun k hk => by
  rw [← h k hk]; simp only [State.reg, e]

/-- A field of a register outside the list is as before. -/
theorem regsBut.f (h : regsBut K a b) {F : Fld} (hF : F.a ∉ K) : b.f F = a.f F := by simp only [State.f, h F.a hF]

theorem regsBut.setReg (h : regsBut K a s) {k : Nat} (hk : k ∈ K) (v : Word) : regsBut K a (s.setReg k v) := fun j hj => by
  have e : j ≠ k := fun e => hj (by rw [e]; exact hk)
  rw [State.reg_setReg_ne s v e, h j hj]

theorem regsBut.setf (h : regsBut K a s) {F : Fld} (hk : F.a ∈ K) (x : Nat) : regsBut K a (s.setf F x) := h.setReg hk _

theorem regsBut.setfi (h : regsBut K a s) {F : Fld} (hk : F.a ∈ K) (x : Int) : regsBut K a (s.setfi F x) := h.setReg hk _

theorem regsBut.add (h : regsBut K a s) {F : Fld} (hk : F.a ∈ K) (n : Nat) : regsBut K a (s.add F n) := h.setReg hk _

theorem regsBut.inc (h : regsBut K a s) {F : Fld} (hk : F.a ∈ K) : regsBut K a (s.inc F) := h.setReg hk _

theorem regsBut.when (h : regsBut K a s) {c : Bool} {f : State → State} (hf : c = true → regsBut K a (f s)) : regsBut K a (s.when c f) := by
  unfold State.when
  split
  · exact hf ‹_›
  · exact h

theorem regsBut.msix (h : regsBut K a s) (hk : bar2 + 0x9000 ∈ K) (v : Nat) : regsBut K a (s.msix v) := by
  unfold State.msix
  split
  · exact h.setf hk 1
  · exact (h.setf (F := MSIX_PEND v) hk 0).congr rfl

theorem regsBut.latch (h : regsBut K a s) (h1 : 0x30 ∈ K) (h2 : bar2 + 0x9000 ∈ K) (n : Nat) : regsBut K a (s.latch n) := by
  unfold State.latch
  have h' : regsBut K a (s.setf ⟨0x30, n, 1⟩ 1) := h.setf h1 1
  exact h'.when (fun _ => h'.msix h2 62)

/-- An event changes its own register, SYS_EVTLATCH and the pending bits (R510). -/
theorem regsBut.evt (h : regsBut K a s) {F : Fld} (hk : ∀ k ∈ F.evtKeys, k ∈ K) : regsBut K a (s.evt F) := by
  have h0 : F.a ∈ K := hk _ (by simp [Fld.evtKeys])
  have h1 : 0x30 ∈ K := hk _ (by simp [Fld.evtKeys])
  have h2 : bar2 + 0x9000 ∈ K := hk _ (by simp [Fld.evtKeys])
  unfold State.evt
  split
  · exact h
  · have h' := (h.setf h0 1).latch h1 h2 (if F.a < 0x2000000 then groupOf F.a else 16)
    exact h'.when (fun _ => h'.msix h2 63)

theorem regsBut.hostErr (h : regsBut K a s) {F : Fld} (h0 : F.a ∈ K) (hk : ∀ k ∈ SYS_EVT_HOST_ERR.evtKeys, k ∈ K) :
    regsBut K a (s.hostErr F) := (h.inc h0).evt hk

theorem regsBut.raiseFrom (h : regsBut K a s) (sev cause kind unit detail flags sfrom : Nat) :
    regsBut K a (s.raiseFrom sev cause kind unit detail flags sfrom) := h.congr rfl

theorem regsBut.raise (h : regsBut K a s) (sev cause kind unit detail : Nat) : regsBut K a (s.raise sev cause kind unit detail) := h.congr rfl

/-- An event bit reads 1 once it is set. -/
theorem State.evt_sets (s : State) (F : Fld) (hw : F.w = 1) (hF : F.lo + F.w ≤ 64) (h0 : F.a ≠ 0x30) (h1 : F.a ≠ bar2 + 0x9000) :
    (s.evt F).f F = 1 := by
  unfold State.evt
  by_cases hb : s.b F = true
  · rw [if_pos hb]; simpa [State.b] using hb
  · rw [if_neg hb]
    have e : (s.setf F 1).f F = 1 := (State.f_setf_same _ F 1 hF).trans (by simp [hw])
    have h : regsBut [0x30, bar2 + 0x9000] (s.setf F 1) ((s.setf F 1).latch (if F.a < 0x2000000 then groupOf F.a else 16)) :=
      regsBut.refl.latch (by simp) (by simp) _
    have h' := h.when (c := F.a == 0x20 && s.reg 0x20 == 0) (f := (·.msix 63)) (fun _ => h.msix (by simp) 63)
    exact (h'.f (by simp [h0, h1])).trans e

/-- A counter field after counting. -/
theorem State.add_f_same (s : State) (F : Fld) (n : Nat) (h : F.lo + F.w ≤ 64) : (s.add F n).f F = min (s.f F + n) (2 ^ F.w - 1) := by
  unfold State.add
  rw [State.f_setf_same _ F _ h, Nat.mod_eq_of_lt]
  have := Nat.two_pow_pos F.w
  omega

theorem State.inc_f_same (s : State) (F : Fld) (h : F.lo + F.w ≤ 64) : (s.inc F).f F = min (s.f F + 1) (2 ^ F.w - 1) := s.add_f_same F 1 h

end Sys2Proof.Machine
end

