-- ==== Sys2Proof/WellFormed.lean ====
section
/-! DEFINITION. Which commands are well formed: the stamp fits the 64-bit time base (R51), and every operand that numbers a part of the
package lies within the package (R1, R90, R377). -/

namespace Sys2Proof

/-- A stamp of the time base (R51). -/
def stampOk (t : Nat) : Bool := decide (t < 2 ^ 64)

/-- A list of bytes. -/
def bytesOk (bs : List Nat) : Bool := bs.all (fun b => decide (b < 256))

/-- A bit error lies at a word of a scratchpad (R145, R147). -/
def errOk (e : WordErr) : Bool :=
  decide (e.core < 1024) && decide (e.off < 2 ^ 20) && e.off % 8 == 0 && e.link.all (fun l => decide (l < 4096))

/-- The checks on a command's operands. -/
def Instr.wf (i : Instr) : Bool :=
  match i with
  | .registerWrite t _ _ _ bytes => stampOk t && decide (1 ≤ bytes) && decide (bytes ≤ 8)
  | .txnBegin t _ id => stampOk t && decide (id < 2 ^ 32)
  | .txnCommit t _ mode _ => stampOk t && decide (mode < 4)
  | .txnRollback t _ id => stampOk t && decide (id < 2 ^ 32)
  | .txnApply t => stampOk t
  | .tick t => stampOk t
  | .pausePass t => stampOk t
  | .wakePass t tile => stampOk t && decide (tile < 8192)
  | .waitTest t core slot => stampOk t && decide (core < 1024) && decide (slot < 65536)
  | .waitTimeout t => stampOk t
  | .heldSend t => stampOk t
  | .localFrameEnd t => stampOk t
  | .arrivePost t => stampOk t
  | .idleInterval t => stampOk t
  | .tilePass t core slot _ errs => stampOk t && decide (core < 1024) && decide (slot < 65536) && errs.all errOk
  | .repairSlot t core slot _ errs => stampOk t && decide (core < 1024) && decide (slot < 65536) && errs.all errOk
  | .readout t core slot errs => stampOk t && decide (core < 1024) && decide (slot < 65536) && errs.all errOk
  | .spill t core slot => stampOk t && decide (core < 1024) && decide (slot < 65536)
  | .fill t core slot errs => stampOk t && decide (core < 1024) && decide (slot < 65536) && errs.all errOk
  | .scrub t core slot => stampOk t && decide (core < 1024) && decide (slot < 65536)
  | .wideTask t core slot errs => stampOk t && decide (core < 1024) && decide (slot < 65536) && errs.all errOk
  | .correctionTask t core slot errs => stampOk t && decide (core < 1024) && decide (slot < 65536) && errs.all errOk
  | .attend t core slot errs _ => stampOk t && decide (core < 1024) && decide (slot < 65536) && errs.all errOk
  | .attnMerge t core slot errs => stampOk t && decide (core < 1024) && decide (slot < 65536) && errs.all errOk
  | .shardSummary t core slot errs => stampOk t && decide (core < 1024) && decide (slot < 65536) && errs.all errOk
  | .sampleDraw t slot _ _ => stampOk t && decide (slot < 1024)
  | .streamRoute t core slot _ errs _ => stampOk t && decide (core < 1024) && decide (slot < 65536) && errs.all errOk
  | .fabSend t core slot errs => stampOk t && decide (core < 1024) && decide (slot < 65536) && errs.all errOk
  | .fabRecv t core slot => stampOk t && decide (core < 1024) && decide (slot < 65536)
  | .controlSlot t core slot => stampOk t && decide (core < 1024) && decide (slot < 65536)
  | .cowCopy t core slot => stampOk t && decide (core < 1024) && decide (slot < 65536)
  | .pageMigrate t core slot => stampOk t && decide (core < 1024) && decide (slot < 65536)
  | .migrateDone t _ => stampOk t
  | .shadow t core slot _ => stampOk t && decide (core < 1024) && decide (slot < 65536)
  | .suspectExpire t entry => stampOk t && decide (entry < 16)
  | .scoreDecay t => stampOk t
  | .railDecay t region => stampOk t && decide (region < 32)
  | .satpCheck t => stampOk t
  | .trackerWindow t arr => stampOk t && decide (arr < 32768)
  | .gTrackWrite t _ arr val => stampOk t && decide (arr < 32768) && decide (val < 65536)
  | .trimWrite t _ tile off gain range => stampOk t && decide (tile < 8192) && decide (off < 256) && decide (gain < 256) && decide (range < 8)
  | .forceFlag t _ arr => stampOk t && decide (arr < 32768)
  | .program t _ arr src => stampOk t && decide (arr < 32768) && decide (src < 4398046511104)
  | .erase t _ arr => stampOk t && decide (arr < 32768)
  | .progAbort t _ arr => stampOk t && decide (arr < 32768)
  | .programStart t region => stampOk t && decide (region < 32)
  | .progResume t region => stampOk t && decide (region < 32)
  | .progDone t arr _ _ _ => stampOk t && decide (arr < 32768)
  | .eraseDone t arr => stampOk t && decide (arr < 32768)
  | .progConfigLoad t arr => stampOk t && decide (arr < 32768)
  | .validate t _ arr => stampOk t && decide (arr < 32768)
  | .factValidSet t arr => stampOk t && decide (arr < 32768)
  | .accClr t _ tile mask => stampOk t && decide (tile < 8192) && decide (mask < 65536)
  | .spdDataRead t _ core err => stampOk t && decide (core < 1024) && err.all errOk
  | .spdDataWrite t _ core _ => stampOk t && decide (core < 1024)
  | .sqDoorbell t pair tail _ => stampOk t && decide (pair < 256) && decide (tail < 4096)
  | .cqDoorbell t pair head _ => stampOk t && decide (pair < 256) && decide (head < 4096)
  | .qpEnable t pair _ => stampOk t && decide (pair < 256)
  | .commandArrive t => stampOk t
  | .newReq t => stampOk t
  | .continueReq t => stampOk t
  | .pause t => stampOk t
  | .resume t => stampOk t
  | .cancel t => stampOk t
  | .fork t => stampOk t
  | .deferExpire t => stampOk t
  | .accept t => stampOk t
  | .tokens t => stampOk t
  | .doneReq t => stampOk t
  | .expired t => stampOk t
  | .ttlExpire t scope tag => stampOk t && decide (scope < 2 ^ 20) && decide (tag < 2 ^ 64)
  | .pauseEffect t scope tag => stampOk t && decide (scope < 2 ^ 20) && decide (tag < 2 ^ 64)
  | .idlePause t scope tag => stampOk t && decide (scope < 2 ^ 20) && decide (tag < 2 ^ 64)
  | .resumeDone t scope tag => stampOk t && decide (scope < 2 ^ 20) && decide (tag < 2 ^ 64)
  | .load t _ _ => stampOk t
  | .loadAbort t _ => stampOk t
  | .hashDone t _ _ _ => stampOk t
  | .decryptDone t _ plain _ _ => stampOk t && bytesOk plain
  | .loadProgrammed t => stampOk t
  | .loadDone t _ => stampOk t
  | .applyTick t => stampOk t
  | .startWaitExpire t => stampOk t
  | .cdcSlip t link => stampOk t && decide (link < 4096)
  | .pllUnlock t region => stampOk t && decide (region < 32)
  | .unitReset t _ _ => stampOk t
  | .unitResetEnd t kind idx => stampOk t && decide (kind < 4) && decide (idx < 8192)
  | .unitEnWrite t _ _ => stampOk t
  | .unitDrainDone t core n => stampOk t && decide (core < 1024) && decide (n < 18)
  | .dataFlit t port f _ => stampOk t && decide (port < 72) && bytesOk f.payload
  | .ackFlit t port f _ => stampOk t && decide (port < 72) && bytesOk f.payload
  | .ctrlFlit t port f _ _ => stampOk t && decide (port < 72) && bytesOk f.payload
  | .linkTimerExpire t port => stampOk t && decide (port < 72)
  | .beaconSend t => stampOk t
  | .beacon t port f => stampOk t && decide (port < 72) && bytesOk f.payload
  | .promenadeTimeout t => stampOk t
  | .cablePlanLoad t _ addr => stampOk t && decide (addr < 2 ^ 42)
  | .lossOfLight t port => stampOk t && decide (port < 72)
  | .lightSteady t port => stampOk t && decide (port < 72)
  | .portUp t port _ far => stampOk t && decide (port < 72) && decide (far < 65536)
  | .portEnWrite t _ port _ => stampOk t && decide (port < 72)
  | .portDrainDone t port => stampOk t && decide (port < 72)
  | .standinRetrainDone t port _ far => stampOk t && decide (port < 72) && decide (far < 65536)
  | .standinFail t port => stampOk t && decide (port < 72)
  | .arrive t port f => stampOk t && decide (port < 72) && bytesOk f.payload
  | .partialTimeout t => stampOk t
  | .windowClose t => stampOk t
  | .held t port f => stampOk t && decide (port < 72) && bytesOk f.payload
  | .complete t port f => stampOk t && decide (port < 72) && bytesOk f.payload
  | .rootLost t => stampOk t
  | .abort t port f => stampOk t && decide (port < 72) && bytesOk f.payload
  | .abortAck t port f => stampOk t && decide (port < 72) && bytesOk f.payload
  | .abortAckTimeout t => stampOk t
  | .restoreDone t _ => stampOk t
  | .restoreWindowClose t => stampOk t
  | .startVote t port f => stampOk t && decide (port < 72) && bytesOk f.payload
  | .startGo t port f => stampOk t && decide (port < 72) && bytesOk f.payload
  | .read t port f _ => stampOk t && decide (port < 72) && bytesOk f.payload
  | .write t port f => stampOk t && decide (port < 72) && bytesOk f.payload
  | .readRsp t port f => stampOk t && decide (port < 72) && bytesOk f.payload
  | .writeRsp t port f => stampOk t && decide (port < 72) && bytesOk f.payload
  | .poolCmdRead t _ slot => stampOk t && decide (slot < 8)
  | .poolCmdWrite t _ slot => stampOk t && decide (slot < 8)
  | .poolCmdAbort t _ slot => stampOk t && decide (slot < 8)
  | .poolTimeout t slot => stampOk t && decide (slot < 8)
  | .fchEnWrite t _ ch _ => stampOk t && decide (ch < 16)
  | .channelDrainDone t ch => stampOk t && decide (ch < 16)
  | .tfLost t ch _ => stampOk t && decide (ch < 16)
  | .hbmLost t stack => stampOk t && decide (stack < 8)
  | .patrolScrub t stack _ => stampOk t && decide (stack < 8)
  | .bar4Read t _ n _ => stampOk t && decide (n ≤ 4096)
  | .bar4Write t _ data => stampOk t && bytesOk data
  | .errorRecord t _ => stampOk t
  | .getId t door => stampOk t && decide (door < 4)
  | .getCert t door => stampOk t && decide (door < 4)
  | .quote t door sig => stampOk t && decide (door < 4) && bytesOk sig && decide (sig.length = 7856)
  | .getMlog t door => stampOk t && decide (door < 4)
  | .extend t door => stampOk t && decide (door < 4)
  | .ownerTransfer t door _ => stampOk t && decide (door < 4)
  | .keyImport t door _ key => stampOk t && decide (door < 4) && key.all bytesOk
  | .keyErase t door => stampOk t && decide (door < 4)
  | .rollAdvance t door _ => stampOk t && decide (door < 4)
  | .larkspurUpdate t door _ => stampOk t && decide (door < 4)
  | .larkspurHalt t _ => stampOk t
  | .larkspurReady t => stampOk t
  | .updateRevert t => stampOk t
  | .yarrowStage t door rec _ => stampOk t && decide (door < 4) && bytesOk rec
  | .debugChallenge t door => stampOk t && decide (door < 4)
  | .nonceExpire t => stampOk t
  | .debugUnlock t door rec _ => stampOk t && decide (door < 4) && bytesOk rec
  | .debugKill t door _ => stampOk t && decide (door < 4)
  | .kick t door => stampOk t && decide (door < 4)
  | .watchdogExpire t => stampOk t
  | .bootReadyTimeout t => stampOk t
  | .status t => stampOk t
  | .imgLoad t _ => stampOk t
  | .imgAbort t => stampOk t
  | .regWrite t => stampOk t
  | .cablePlan t => stampOk t
  | .audit t => stampOk t
  | .auditDone t items arrs => stampOk t && decide (items.length = 4) && items.all (fun x => decide (x ≤ 2)) && arrs.all (fun A => decide (A < 32768))
  | .telemetry t rest => stampOk t && bytesOk rest
  | .drain t => stampOk t
  | .drainHandover t => stampOk t
  | .drainWaitExpire t => stampOk t
  | .leaveNotice t => stampOk t
  | .buttonPress t _ => stampOk t
  | .buttonRelease t _ => stampOk t
  | .drainRequest t => stampOk t
  | .powerOn t yOk lOk hbm _ reads => stampOk t && yOk.all (fun i => decide (i < 2)) && lOk.all (fun i => decide (i < 2)) && hbm.all (fun k => decide (k < 8)) && reads.all (fun x => decide (x.1 < 296))
  | .selfTestDone t convs cores routers => stampOk t && convs.all (fun x => decide (x.1 < 8192) && decide (x.2 < 560)) && cores.all (fun c => decide (c < 1024)) && routers.all (fun c => decide (c < 1024))
  | .transitEnter t => stampOk t
  | .packageReset t _ key => stampOk t && decide (key < 65536)
  | .inputFault t => stampOk t
  | .latchClear t => stampOk t
  | .vcoreFail t region => stampOk t && decide (region < 32)
  | .railFault t rail _ => stampOk t && decide (rail < 10)
  | .sensorSample t reads => stampOk t && reads.all (fun x => decide (x.1 < 296))
  | .shutdownRailsOff t => stampOk t
  | .xchkStart t _ => stampOk t
  | .hkScan t codes => stampOk t && codes.all (fun x => decide (x.1 < 48) && decide (x.2 < 4096))
  | .trkClr t _ ch => stampOk t && decide (ch < 48)
  | .functionReset t => stampOk t
  | .msixUnmask t v => stampOk t && decide (v < 64)
  | .sysErrRead t w => stampOk t && decide (w < 4)
  | .attnFlashEnd t => stampOk t
  | .channelTrainDone t ch up => stampOk t && decide (ch < 16) && up.all (fun z => decide (z ≤ 3))
  | .mailboxDone t door => stampOk t && decide (door < 4)
  | .larkspurTierWrite t _ data => stampOk t && bytesOk data

end Sys2Proof
end

