-- ==== Sys2Proof/Tests/Slice0.lean ====
section
/-! SUPPORT. Tests: ill-formed commands that each check refuses, published check values, single steps, and for every obligation with
hypotheses the states and operands that meet them, one for each of its clauses in order. Expected values are the spec's or those of the
standards it names; none comes from a run. -/

open Sys2Proof Sys2Proof.Machine

namespace Sys2Proof.Tests

set_option Elab.async false

/-! ### States and terms the tests are built from -/

/-- A package that has its supply. -/
def on : State := { power := .on }
/-- A state with register fields set. -/
def withF (s : State) (fs : List (Fld × Nat)) : State := fs.foldl (fun s x => s.setf x.1 x.2) s
/-- A package that has its supply, with register fields set. -/
def onF (fs : List (Fld × Nat)) : State := withF on fs
/-- An open transaction of a requester. -/
def openOf (q : Requester) : State := { on with txnOpen := [⟨q, 7, []⟩] }
/-- A pending transaction that sets nothing, at the next tick. -/
def pendNext (q : Requester) (id : Nat) : TxnPend := ⟨q, id, 0, false, 0, 0, false, .none, []⟩
/-- A slot entry (R30). -/
def ent (cls start len target desc : Nat) : Word := BitVec.ofNat 64 (cls * 2 ^ 60 + start * 2 ^ 47 + (len - 1) * 2 ^ 34 + target * 2 ^ 24 + desc)
/-- A core transfer's first word: its type, and the group's word address in the core's own scratchpad (R133). -/
def xferW (typ fmt word : Nat) : Word := BitVec.ofNat 64 (typ * 2 ^ 62 + word * 2 ^ 35 + fmt * 2 ^ 32)
/-- Core 0's slot table, one slot of each kind, due at once: the index is the class up to 10, then WIDE and STREAM slots of other kinds. -/
def slots0 : List Word :=
  [0, ent 1 0 4 0 0, ent 2 0 4 0 4, ent 3 0 4 0 0, ent 4 0 4 0 0, ent 5 0 4 0 0, ent 6 0 4 7 0, ent 7 0 4 0 0, ent 8 0 4 0 0, ent 9 0 4 0 0, ent 10 0 1 0 0,
   ent 2 0 4 0 0, ent 2 0 4 0 1, ent 2 0 4 0 2, ent 2 0 4 0 3, ent 3 0 4 0 1, ent 3 0 4 0 2, ent 3 0 4 3 3, ent 3 0 4 0 0x800000, ent 1 5 1 4 0, ent 2 0 4 0 5]
def sched0 : Sched :=
  { slots := [(0, slots0)], tile := [0], xfer := [(xferW 0 2 0, 0), (xferW 1 0 0, 0), (xferW 2 0 0, 0), (xferW 3 0 0, 0)],
    wide := [.corr 0, .attend ⟨0, 0, 0, 0, 0, 0, ⟨0, 0⟩, 0, ⟨0, 0⟩⟩, .merge ⟨0, 0, 0, [], [], ⟨0, 0⟩⟩, .shard ⟨0, 0, 0, 0, 0, false, ⟨0, 0⟩⟩, .task [] 0 [],
      .task [.load 0 .a8 ⟨0, 0⟩ 1 0] 8 []],
    shadow := [0], notes := [] }
/-- A job of three members, of which this package is the second, under the root's. -/
def topo0 : Topo :=
  { jobId := 9, members := [⟨100, .data, 0⟩, ⟨0xFFFFF, .data, 0⟩, ⟨102, .parity, 0⟩], self := 1, root := 0, standby := 1, parent := 3, depth := 1, kids := [(5, [2])],
    parentAt := 0, fbParent := 127, fbDepth := 0, heirs := [], admRoot := 1, sampler := 1, peer := 2, expect := [], startWait := 10 }
def img0 : Image :=
  { regList := [], bounds := [], scales := [], scheds := [sched0], patches := [], combos := [⟨0, []⟩], arrVisit := [], wideVisit := [], streams := [], w8At := [],
    topo := topo0, serv := ⟨[], 0, [], 0, [0], [], [[]]⟩, routes := [(0, 0, 0)], sends := [(BitVec.ofNat 64 (2 ^ 23), 0)], bufs := [⟨0, 0, 8, 100, 3⟩], recover := [],
    wideCopy := [], tfExpect := [] }
/-- A member in its job: the image is active, and no frame has run. -/
def act : State := { onF [(IMG_STATE_STATE, 6), (SYS_STATUS_PHASE, 5)] with img := some img0 }
def actF (fs : List (Fld × Nat)) : State := withF act fs
/-- A request with a step in batch slot 0 of frame 0. -/
def step0 : StepRun := ⟨0, 0, 10, 0, 1, false, true⟩
def reqStep : Req := { scope := 0, tag := 1, home := 0xFFFFF, pair := 0, maxNew := 8, input := [1], horizon := 1, sample := List.replicate 16 0, step := some step0 }
/-- Bytes listed in memory from an address up. -/
def cellsAt (a : Nat) : List Nat → List Host.Cell
  | [] => []
  | b :: bs => (a, BitVec.ofNat 8 b) :: cellsAt (a + 1) bs
/-- An image of nine 64-byte sections (the one of WIDE empty) staged at 4,096, plain or encrypted, with the owner's key hash in SIG. -/
def imgMem (enc : Bool) : List Host.Cell :=
  cellsAt 4096 [71, 82, 84, 73, 1] ++ cellsAt 4102 [9] ++ cellsAt 4104 [8, 90, 176, 176] ++ (if enc then [(4108, 1)] else []) ++ cellsAt 4112 [1] ++ cellsAt 4120 [2] ++ cellsAt 4128 [192, 3] ++
  cellsAt 4140 (if enc then [192, 186, 91, 107] else [184, 212, 142, 32]) ++ cellsAt 4160 [84, 79, 80, 79] ++ cellsAt 4168 [128, 1] ++ cellsAt 4176 [64] ++ cellsAt 4192 [77, 65, 80, 32] ++ cellsAt 4200 [192, 1] ++ cellsAt 4208 [64] ++
  cellsAt 4224 [65, 82, 82, 32] ++ cellsAt 4233 [2] ++ cellsAt 4256 [87, 73, 68, 69] ++ cellsAt 4264 [64, 2] ++ cellsAt 4272 [64] ++ cellsAt 4288 [83, 67, 72, 69] ++ cellsAt 4296 [128, 2] ++ cellsAt 4304 [64] ++
  cellsAt 4320 [82, 79, 85, 84] ++ cellsAt 4328 [192, 2] ++ cellsAt 4336 [64] ++ cellsAt 4352 [80, 65, 84, 67] ++ cellsAt 4361 [3] ++ cellsAt 4368 [64] ++ cellsAt 4384 [83, 69, 82, 86] ++ cellsAt 4392 [64, 3] ++ cellsAt 4400 [64] ++ cellsAt 4416 [83, 73, 71, 32] ++ cellsAt 4424 [128, 3] ++ cellsAt 4432 [64] ++ cellsAt 4992 [17, 17, 17, 17, 17, 17, 17, 17, 17, 17, 17, 17, 17, 17, 17, 17, 146, 1]
/-- The owner's key hash, and a package that it owns with an image staged at 4,096. -/
def ownerH : List Nat := List.replicate 32 0x11
def stagedF (enc : Bool) (fs : List (Fld × Nat)) : State :=
  { onF ((IMG_STAGE_BASE_4K, 1) :: fs) with mem := imgMem enc, fuses := { owners := [ownerH], keys := [(0, [1, 2])] }, stageBase := 4096, staging := some img0 }
/-- An image with nothing in its slot tables, which every check of the validator passes. -/
def imgV : Image :=
  { img0 with scheds := [⟨[], [], [], [], [], []⟩], routes := [], sends := [], bufs := [], topo := { topo0 with members := [⟨100, .data, 0⟩, ⟨0xFFFFF, .parity, 0⟩, ⟨102, .solo, 0⟩] } }
/-- A command of the host's queue 0 on a tag: its opcode, DEFER and third word. -/
def cmdF (op defer w2 : Nat) : Cmd :=
  { words := [BitVec.ofNat 64 (op * 2 ^ 56 + defer * 2 ^ 32), 1, BitVec.ofNat 64 w2, 0, 0, 0, 0, 0], pair := 0, scope := 0xFFFFF, home := 0xFFFFF, idx := 0, tokens := [],
    sample := [], mask := [], uncorr := false }
def reqA : Req := { reqStep with scope := 0xFFFFF, step := none }
/-- A completion of a type for queue pair 0. -/
def postF (typ : Nat) : Post := ⟨0xFFFFF, 1, 0, typ, 0, 0, [5], 0, 1⟩
/-- A live, ready queue pair 0 of a package in transit mode. -/
def qpOn (fs : List (Fld × Nat)) : State := onF ([(SYS_STATUS_PHASE, 3), (QP_CFG_EN 0, 1)] ++ fs)
/-- A flit of a type with a payload, as the next one of a port. -/
def flitF (typ : Nat) (p : List Nat) : Flit := sealFlit { typ := typ, payload := p }
/-- A flit for a package. -/
def flitTo (typ dst : Nat) (p : List Nat) : Flit := sealFlit { typ := typ, dst := dst, payload := p }
/-- A member whose port 3 is UP and whose far end has trained. -/
def linkF (fs : List (Fld × Nat)) : State := { actF ((FAB_PSTAT_STATE 3, 3) :: fs) with ports := [(3, { farEp := some 0 })] }
/-- A Quadrille message's flit. -/
def qF (m : Qmsg) : Flit := flitF 3 (qmsgBytes m)
/-- A member with a recovery entry for the loss of member 2. -/
def imgR : Image := { img0 with recover := [⟨8, 0xB, 0xFFFFFFFF, 2, 0, 0xFFFF⟩, ⟨8, 0xB, 2, 2, 0, 0xFFFF⟩, ⟨8, 0xB, 1, 1, 0, 0xFFFF⟩], patches := [⟨[], .other, [], [], 0⟩] }
/-- The root past its window, with member 2 missing. -/
def rootF (im : Image) : State :=
  { actF [(QDR_TREE_IS_ROOT, 1), (QDR_SELF_MEMBER_IDX, 1)] with img := some im, pav := { lfeDone := true }, qdr := { own := some { kind := 1 }, kids := [(5, [2])] } }
/-- A member in a round. -/
def roundF (x : Round) : State :=
  { linkF [(QDR_TREE_IS_ROOT, 1), (QDR_SELF_MEMBER_IDX, 1)] with img := some imgR, qdr := { round := some x, gone := [0] } }
/-- A package whose new image waits for its START round. -/
def startF (tp : Topo) (fs : List (Fld × Nat)) : State :=
  { onF ([(FAB_PSTAT_STATE 3, 3), (IMG_STATE_STATE, 5)] ++ fs) with staging := some { img0 with topo := tp }, ports := [(3, { farEp := some 0 })] }
/-- A START transaction of the host. -/
def startP : TxnPend := ⟨.host, 7, 2, true, 0, 0, true, .none, []⟩
/-- A Larkspur that runs. -/
def lspF (fs : List (Fld × Nat)) : State := onF ((MGT_LSTATE_STATE, 2) :: fs)
/-- A command of a door: its code and request words from word 1 on. -/
def cmdAt (s : State) (d cmd : Nat) (ws : List Nat) : State :=
  { withF s ((MBX_REQ_WORD d 0, cmd * 2 ^ 56 + 9) :: (List.range ws.length).map (fun i => (MBX_REQ_WORD d (i + 1), ws.getD i 0))) with bells := [⟨d, 5, false, false⟩] }
def secF (d cmd : Nat) (ws : List Nat) (fs : List (Fld × Nat)) : State := cmdAt (onF fs) d cmd ws
def mgtF (cmd : Nat) (ws : List Nat) (fs : List (Fld × Nat)) : State := cmdAt (lspF fs) 1 cmd ws
/-- A pooled-memory message's flit. -/
def poolF (m : Pool) : Flit := flitF 6 (poolBytes m)
/-- A package that pools its memory, with port 3 UP. -/
def poolS (fs : List (Fld × Nat)) : State := { onF ([(FAB_PSTAT_STATE 3, 3), (MEM_POOL_EN, 1), (FAB_ID_PKG_ID, 5), (MEM_PWIN_PAGES_4K 0, 16)] ++ fs) with ports := [(3, { farEp := some 0 })] }
/-- A command slot that asks package 1, next to it in the rack, for 64 bytes. -/
def pqS (fs : List (Fld × Nat)) : State :=
  poolS ([(FAB_ID_PKG_ID, 0), (FAB_PSTAT_STATE 0, 3), (MEM_PQADDR_GADDR 2, 2 ^ 44), (MEM_PQLEN_LEN 2, 64)] ++ fs)
/-- A record a command carries: the device's ID, then the bytes. -/
def recB (bs : List Nat) : List Nat := deviceId ++ bs
/-- Firmware images with empty bodies. -/
def fwHead (kind : List Nat) : List Nat := kind ++ [2, 0, 0, 0, 1, 0, 0, 0] ++ List.replicate 16 0 ++ sha256 [] ++ List.replicate 16224 0
def fwRec : List Nat := fwHead kindYar
def fwRecL : List Nat := fwHead kindLrk

/-- A record stored where a command of HOST_SEC names it. -/
def recAt (cmd : Nat) (fu : Fuses) (bs : List Nat) : State := { secF 0 cmd [4096] [] with fuses := fu }.write 4096 (recB bs)
theorem recAt_bytes (cmd : Nat) (fu : Fuses) (bs : List Nat) (n : Nat) (hw : (recAt cmd fu bs).reqWord 0 1 = 4096) (hn : n = 16 + bs.length)
    (h : ∀ x ∈ bs, x < 256) : recB bs = (recAt cmd fu bs).bytes ((recAt cmd fu bs).reqWord 0 1) n := by
  rw [hw, recAt, show n = (recB bs).length by simp [recB, hn]]
  refine (State.bytes_write _ _ _ ?_).symm
  intro x hx
  rcases List.mem_append.mp hx with hx | hx
  · exact deviceId_lt x hx
  · exact h x hx
theorem partNum_rec (bs : List Nat) (n : Nat) : partNum (recB bs) 16 n = partNum bs 0 n := congrArg leNat (part_after bs 0 n)
theorem part_rec (bs : List Nat) : part (recB bs) 32 32 = part bs 16 32 := part_after bs 16 32
theorem area_rec (s : State) (bs : List Nat) (o : Nat) (h : bs.length = 48) : recB bs = s.area 3 (recB bs) o 64 := by
  simp [State.area, recB, List.take_of_length_le, h]
theorem not_id {s : State} {a : Nat} (hb : s.byte a = (deviceId.getD 0 0 + 1) % 256) : s.bytes a 16 ≠ deviceId := by
  intro h
  have h0 : s.byte a = deviceId.getD 0 0 := by rw [← h]; rfl
  have h1 : deviceId.getD 0 0 < 256 := by
    apply deviceId_lt
    rw [← List.getElem_eq_getD (h := by simp)]
    exact List.getElem_mem _
  omega
set_option maxRecDepth 100000 in
theorem hdr0 : ({ mem := imgMem false } : State).headerOk 4096 = true := by decide +kernel
theorem staged_hdr (fs : List (Fld × Nat)) : (stagedF false fs).headerOk 4096 = true := hdr0
/-- Memory that holds a Larkspur image with an empty body, and what reads it back. -/
def fwMem : List Host.Cell := cellsAt 4096 (kindLrk ++ [2]) ++ cellsAt 4108 [1] ++ cellsAt 4128 (sha256 [])
theorem byte_write_one (s : State) (a x : Nat) : (s.write a [x]).byte a = x % 256 := by
  simpa using State.byte_write_in s a [x] (i := 0) (by simp)
theorem not_id_at (s : State) (d : Nat) (h : s.reqWord d 1 = 4096) :
    (s.write 4096 [deviceId.getD 0 0 + 1]).bytes ((s.write 4096 [deviceId.getD 0 0 + 1]).reqWord d 1) 16 ≠ deviceId := by
  have hw : (s.write 4096 [deviceId.getD 0 0 + 1]).reqWord d 1 = 4096 := by rw [State.reqWord, State.write_f]; exact h
  rw [hw]
  exact not_id (byte_write_one _ _ _)

/-! ### Ill-formed commands are refused -/

/-- A stamp past the 64-bit time base, and in order: bytes of an access, a transaction's ID and MODE, tile, core, slot, word error, batch
slot, suspect entry, region, array, source, trims, gate bits, queue pair and index, scope, tag, load bytes, link, part, unit, port, payload,
address, far epoch, pool slot, channel, stack, access length, door, signature length, audit item, firmware slot, sensor, converter, key,
rail, housekeeping channel and code. -/
theorem test_ill_formed_refused :
    (Instr.tick (2 ^ 64)).wf = false ∧ (Instr.registerWrite 0 .host 0 0 9).wf = false ∧ (Instr.registerWrite 0 .host 0 0 0).wf = false ∧
    (Instr.txnBegin 0 .host (2 ^ 32)).wf = false ∧ (Instr.txnCommit 0 .host 4 false).wf = false ∧ (Instr.wakePass 0 8192).wf = false ∧
    (Instr.waitTest 0 1024 0).wf = false ∧ (Instr.waitTest 0 0 65536).wf = false ∧ (Instr.readout 0 0 0 [⟨0, 4, false, none⟩]).wf = false ∧ (Instr.readout 0 0 0 [⟨0, 8, false, some 4096⟩]).wf = false ∧
    (Instr.readout 0 0 0 [⟨0, 2 ^ 20, false, none⟩]).wf = false ∧ (Instr.suspectExpire 0 16).wf = false ∧ (Instr.railDecay 0 32).wf = false ∧
    (Instr.erase 0 .host 32768).wf = false ∧ (Instr.program 0 .host 0 (2 ^ 42)).wf = false ∧ (Instr.trimWrite 0 .host 0 256 0 0).wf = false ∧
    (Instr.trimWrite 0 .host 0 0 0 8).wf = false ∧ (Instr.gTrackWrite 0 .host 0 65536).wf = false ∧ (Instr.accClr 0 .host 0 65536).wf = false ∧
    (Instr.qpEnable 0 256 0).wf = false ∧ (Instr.cqDoorbell 0 0 4096 true).wf = false ∧ (Instr.pauseEffect 0 (2 ^ 20) 0).wf = false ∧
    (Instr.pauseEffect 0 0 (2 ^ 64)).wf = false ∧ (Instr.decryptDone 0 true [256] none 0).wf = false ∧ (Instr.cdcSlip 0 4096).wf = false ∧
    (Instr.unitResetEnd 0 4 0).wf = false ∧ (Instr.unitDrainDone 0 0 18).wf = false ∧ (Instr.lossOfLight 0 72).wf = false ∧
    (Instr.arrive 0 0 { typ := 3, payload := [256] }).wf = false ∧ (Instr.cablePlanLoad 0 .host (2 ^ 42)).wf = false ∧
    (Instr.portUp 0 0 0 65536).wf = false ∧ (Instr.poolCmdAbort 0 .host 8).wf = false ∧ (Instr.fchEnWrite 0 .host 16 true).wf = false ∧
    (Instr.hbmLost 0 8).wf = false ∧ (Instr.bar4Read 0 0 4097 []).wf = false ∧ (Instr.getId 0 4).wf = false ∧ (Instr.quote 0 0 []).wf = false ∧
    (Instr.auditDone 0 [0, 0, 0, 3] []).wf = false ∧ (Instr.powerOn 0 [2] [] [] true []).wf = false ∧
    (Instr.sensorSample 0 [(296, 0)]).wf = false ∧ (Instr.selfTestDone 0 [(0, 560)] [] []).wf = false ∧
    (Instr.packageReset 0 .host 65536).wf = false ∧ (Instr.railFault 0 10 true).wf = false ∧ (Instr.trkClr 0 .host 48).wf = false ∧
    (Instr.hkScan 0 [(0, 4096)]).wf = false := by decide +kernel

/-- Commands at the edges of the same ranges are well formed. -/
theorem test_edges_well_formed :
    (Instr.tick (2 ^ 64 - 1)).wf = true ∧ (Instr.wakePass 0 8191).wf = true ∧ (Instr.waitTest 0 1023 65535).wf = true ∧
    (Instr.erase 0 .host 32767).wf = true ∧ (Instr.getId 0 3).wf = true ∧ (Instr.lossOfLight 0 71).wf = true := by decide +kernel

/-- No row of the table has bits, so no word spells a command. -/
theorem test_no_words : decodeTableWord 64 0x5A08 = none := rfl

/-! ### Check values of the digests (R100, R252, R304): those of the standards for "123456789" and "abc" -/

theorem test_crc16 : crc16 [0x31, 0x32, 0x33, 0x34, 0x35, 0x36, 0x37, 0x38, 0x39] = 0x29B1 := by decide +kernel
theorem test_crc32 : crc32 [0x31, 0x32, 0x33, 0x34, 0x35, 0x36, 0x37, 0x38, 0x39] = 0xCBF43926 := by decide +kernel
theorem test_sha256 : (sha256 [0x61, 0x62, 0x63]).take 8 = [0xBA, 0x78, 0x16, 0xBF, 0x8F, 0x01, 0xCF, 0xEA] := by decide +kernel

/-! ### Layouts as the rules write them -/

/-- A Quadrille message's payload reads back (R324): 224 bytes, KIND at 0, FRAME at 8. -/
theorem test_qmsg : qmsgOf (qmsgBytes { kind := 3, bcast := true, frame := 5, member := 2, cause := 5 }) =
    { kind := 3, bcast := true, frame := 5, member := 2, cause := 5 } ∧ (qmsgBytes { kind := 3 }).length = 224 := by decide +kernel
/-- A pooled-memory message reads back (R348). -/
theorem test_pool : poolOf (poolBytes ⟨2, 0, 1, 8, 5 * 2 ^ 44 + 128, 6, List.replicate 64 7⟩) = ⟨2, 0, 1, 8, 5 * 2 ^ 44 + 128, 6, List.replicate 64 7⟩ := by
  decide +kernel

/-! ### Single steps -/

/-- The state after a step, or the state before where there is none. -/
def after (i : Instr) (s : State) : State :=
  match step { s with pending := [i] } with
  | .next u => u
  | _ => s

/-- R263: BEGIN opens the transaction and shows its ID; the queue is empty afterwards. -/
theorem test_begin : (after (.txnBegin 3 .host 7) (onF [(SYS_STATUS_PHASE, 3)])).f (TXNP_STAT_OPEN 1) = 1 ∧
    (after (.txnBegin 3 .host 7) (onF [(SYS_STATUS_PHASE, 3)])).f (TXNP_STAT_OPEN_ID 1) = 7 ∧
    (after (.txnBegin 3 .host 7) (onF [(SYS_STATUS_PHASE, 3)])).pending = [] := by decide +kernel
/-- R41: a write by a requester that does not own the group is counted. -/
theorem test_not_owner : (after (.xchkStart 3 .yarrow) on).f PAV_REJ_COUNT = 1 ∧ (after (.xchkStart 3 .yarrow) on).f PAV_REJ_LAST_REQ = 3 := by
  decide +kernel
/-- R330: a training port comes UP; R306: its record of the round trip. -/
theorem test_port_up : (after (.portUp 3 63 100 9) (onF [(FAB_PSTAT_STATE 63, 2)])).f (FAB_PSTAT_STATE 63) = 3 ∧
    (after (.portUp 3 63 100 9) (onF [(FAB_PSTAT_STATE 63, 2)])).f (FAB_PSTAT_RTT_NS 63) = 100 := by decide +kernel
/-- R306: a port whose flit has gone out four times fails. -/
theorem test_link_fails : (after (.linkTimerExpire 900 3) { linkF [] with tx := [⟨3, { typ := 1, seq := 9 }, 4, 900, none⟩] }).f (FAB_PSTAT_STATE 3) = 4 := by
  decide +kernel
/-- R412: bytes of a Larkspur write stand in tier N, little byte first; past its end there is no byte. -/
theorem test_tier_write : (after (.larkspurTierWrite 3 4096 [1, 2]) (lspF [])).num 4096 2 = 0x201 := by decide +kernel
theorem test_tier_end : exec (.larkspurTierWrite 3 (2 ^ 39 - 1) [1, 2]) (lspF []) = .fault .badAddress := by rfl
/-- R462: clearing a tracker leaves the lowest at the largest code and the highest at 0. -/
theorem test_trk_clr : (after (.trkClr 3 .larkspur 47) (onF [(HKA_TRK_MIN 47, 5), (HKA_TRK_MAX 47, 9)])).f (HKA_TRK_MIN 47) = 0xFFF ∧
    (after (.trkClr 3 .larkspur 47) (onF [(HKA_TRK_MIN 47, 5), (HKA_TRK_MAX 47, 9)])).f (HKA_TRK_MAX 47) = 0 := by decide +kernel
/-- R457: the input fails and everything is off. -/
theorem test_input_fault : (after (.inputFault 3) on).power = .off := by decide +kernel
/-- Log entry 1: with no command waiting the block idles. -/
theorem test_idle : step State.reset = .next State.reset := rfl
/-- Reset meets the invariant. -/
theorem test_reset_canon : State.reset.canon = true := by decide +kernel

/-! ### Worked examples of the spec -/

/-- The example after R68: the four conversions (in 1/1,024 unit products), the recombined column, and the clipped one. -/
theorem test_recombined_column :
    (convert 10547 1, convert (-14950) 2, convert 38298 1, convert (-62669) 2) = ((5, false), (-4, false), (19, false), (-15, false)) ∧
    recombine 1 2 (5, 19, false) (-4, -15, false) = 188 ∧ convert (-134144) 2 = (-32, true) := by decide +kernel
/-- The example after R97: 2.6, −1.3, 0.75, 0.2, −0.25 and 27 zeros in the window [120, 130] give exponent 126 and codes 5, −3, 2, 0, −1; 0.001
alone underflows at exponent 120, and 0.01 is clamped there. -/
theorem test_a4_block :
    encBlock false 120 130 ([numOfInt 2726297 (-20), numOfInt (-1363148) (-20), numOfInt 3 (-2), numOfInt 209715 (-20), numOfInt (-1) (-2)] ++
      List.replicate 27 .zero) = ⟨0, 126, [5, -3, 2, 0, -1] ++ List.replicate 27 0⟩ ∧
    (encBlock false 120 130 (numOfInt 1048 (-20) :: List.replicate 31 .zero)).flag = 2 ∧
    encBlock false 120 130 (numOfInt 10485 (-20) :: List.replicate 31 .zero) = ⟨0, 120, 1 :: List.replicate 31 0⟩ := by decide +kernel
/-- The same packet's bytes (R98): elements, and the exponent byte 64. -/
theorem test_a4_bytes :
    (encPkt false [⟨0, 126, [5, -3, 2, 0, -1] ++ List.replicate 27 0⟩, Blk.zero, Blk.zero, Blk.zero]).take 4 = [0xD5, 0x02, 0x0F, 0] ∧
    (encPkt false [⟨0, 126, [5, -3, 2, 0, -1] ++ List.replicate 27 0⟩, Blk.zero, Blk.zero, Blk.zero]).getD 64 0 = 0x7E := by decide +kernel
/-- The example after R107: 0.001 as an A8 wide copy has exponent 115, code 66 and INFO 0b1001 for a primary UNDERFLOW. -/
theorem test_wide_copy :
    (wcPayload false (numOfInt 4294967 (-32) :: List.replicate 31 .zero)).2.1 = 115 ∧
    (wcRecord false (numOfInt 4294967 (-32) :: List.replicate 31 .zero) 2 1 0 0).getD 0 0 = 66 ∧
    (wcRecord false (numOfInt 4294967 (-32) :: List.replicate 31 .zero) 2 1 0 0).getD 65 0 = 9 := by decide +kernel
/-- The example after R122: the spill shift of 5,000,000,123 and −17. -/
theorem test_spill_shift : spillShift [5000000123, -17] = 2 := by decide +kernel
/-- The example after R175: G from G_TRACK and F_T, and a gained lane. -/
theorem test_gain : gainOf 22762 16604 = 23068 ∧ gained 23068 188 = 265 := by decide +kernel
/-- The example after R236: TOP_P keeps three candidates, and the draw u takes the third. -/
theorem test_sample :
    (topP (numOfInt 1 (-1)) [(0, numOfInt 4505707 (-24)), (1, numOfInt 3020268 (-24)), (2, numOfInt 1657555 (-24)), (3, numOfInt 1005374 (-24))]
      .zero []).map Prod.fst = [0, 1, 2] ∧
    pick (numOfInt 13824330 (-24)) [(0, numOfInt 8231388 (-24)), (1, numOfInt 5517674 (-24)), (2, numOfInt 3028153 (-24))] .zero = some 2 := by
  decide +kernel
/-- The examples of R312 and R350: rack slot 5 reaches slot 2 on port 28, slot 3 reaches slot 9 on port 5. -/
theorem test_rack_ports :
    (onF [(FAB_ID_PKG_ID, 5), (MEM_PQADDR_GADDR 0, 2 * 2 ^ 44), (FAB_PSTAT_STATE 28, 3)]).poolPort 0 = some 28 ∧
    (onF [(FAB_ID_PKG_ID, 3), (MEM_PQADDR_GADDR 0, 9 * 2 ^ 44), (FAB_PSTAT_STATE 5, 3)]).poolPort 0 = some 5 := by decide +kernel
/-- The example after R493: ARR_CFG of region 19, core 7, tile 5, array 2. -/
theorem test_array_block : arrBlock (4 * (8 * (32 * 19 + 7) + 5) + 2) = 0x03338B00 := by decide +kernel
/-- The example after R455: the codes of 48.5 V and 31.55 A read back as 48.496 V and 31.555 A. -/
theorem test_power_codes :
    ({ on with heat := { volt := 2483 } }.powerUpdate 2068 0).f PWR_IN_VOLT_MV = 48496 ∧
    ({ on with heat := { volt := 2483 } }.powerUpdate 2068 0).f PWR_IN_CURRENT_MA = 31555 := by decide +kernel
/-- The example after R138: two lanes read out as A4 with FUSE_POS 0 and 1. -/
def readoutLanesOf (pos : Nat) : List Sys2Proof.Machine.Num :=
  ((((({ on with acc := [(0, 1234567), (1, -300000)] }.setf (ACC_STAT_TAG_VALID 0 0) 1).setf (ACC_STAT_TAG 0 0) 119).setf (RING_SDATA_SCALE 0 0)
    0x3B000000).setf (RING_SDATA_SCALE 0 1) 0x3B000000).readoutLanes 0 (2 ^ 26 + 2 ^ 24 + pos * 2 ^ 23) [numOfInt (-5) (-1), numOfInt 1 0]).take 2
theorem test_readout : (readoutLanesOf 0).map (codeOf false 127) = [7, 0] ∧ (readoutLanesOf 1).map (codeOf false 127) = [7, 1] ∧
    blockFit false (readoutLanesOf 0) = some 127 := by decide +kernel
/-- R282 and R364: a beat that fails its CRC on the way from the north neighbour poisons what the reader takes, and adds 4 to the sender's score. -/
theorem test_noc_crc :
    (on.readSpd 8 1 0 64 [⟨0, 8, false, some 2⟩]).bad = true ∧ (on.readSpd 8 1 0 64 [⟨0, 8, false, some 2⟩]).s.f (CHK_NDATA_CRC_ERRS 2) = 1 ∧
    (on.readSpd 8 1 0 64 [⟨0, 8, false, some 2⟩]).s.score = [(3 * 2 ^ 32, 4)] ∧ (on.readSpd 8 1 0 64 [⟨0, 8, false, some 2⟩]).s.poison = [] ∧
    (on.readSpd 8 0 0 64 [⟨8, 8, false, some 2⟩]).s.poison = [⟨3 * 2 ^ 42 + 8 * 2 ^ 20 + 8, 0x11, 2⟩] := by decide +kernel

/-! ### The hypotheses of the obligations can be met

One theorem per obligation; its parts are the clauses that have hypotheses, in the order of the statement. -/

theorem wit_TransactionPortsAnswer :
    (∃ (q : Requester) (id : Nat) (s : State), s.power = .on ∧ s.openTxn q = none ∧ id % 2 ^ 32 ≠ 0) ∧
    (∃ (q : Requester) (id : Nat) (s : State), s.power = .on ∧ ((s.openTxn q).isSome = true ∨ id % 2 ^ 32 = 0)) ∧
    (∃ (q : Requester) (mode : Nat) (job : Bool) (x : TxnOpen) (s : State), s.power = .on ∧ s.newTopo = none ∧ s.openTxn q = some x ∧ s.commitRange q mode job (s.f (TXNP_FRAME_TARGET q.code)) = false ∧ s.commitLate mode job (s.f (TXNP_FRAME_TARGET q.code)) = false ∧ (s.pendOf q).length < 8) ∧
    (∃ (q : Requester) (s : State), s.power = .on ∧ s.newTopo = none ∧ s.openTxn q = none) ∧
    (∃ (q : Requester) (mode : Nat) (job : Bool) (s : State), s.power = .on ∧ s.newTopo = none ∧ (s.openTxn q).isSome = true ∧ (s.commitRange q mode job (s.f (TXNP_FRAME_TARGET q.code)) = true ∨ 8 ≤ (s.pendOf q).length)) ∧
    (∃ (q : Requester) (id : Nat) (s : State), s.power = .on ∧ ((s.openTxn q).any (fun x => x.id = id % 2 ^ 32) = true ∨ ((s.openTxn q).isSome = true ∧ (s.pendOf q).find? (fun (x : TxnPend) => x.id = id % 2 ^ 32) = none))) ∧
    (∃ (q : Requester) (id : Nat) (p : TxnPend) (s : State), s.power = .on ∧ (s.openTxn q).any (fun x => x.id = id % 2 ^ 32) = false ∧ (s.pendOf q).find? (fun (x : TxnPend) => x.id = id % 2 ^ 32) = some p ∧ ((p.mode = 1 → s.commitLate 1 p.job p.target = false))) ∧
    (∃ (q : Requester) (id : Nat) (s : State), s.power = .on ∧ s.openTxn q = none ∧ (s.pendOf q).find? (fun (x : TxnPend) => x.id = id % 2 ^ 32) = none) :=
  ⟨⟨.host, 7, on, by decide +kernel⟩,
   ⟨.host, 9, openOf .host, by decide +kernel⟩,
   ⟨.host, 0, false, ⟨.host, 7, []⟩, openOf .host, by decide +kernel⟩,
   ⟨.larkspur, openOf .host, by decide +kernel⟩,
   ⟨.host, 3, false, openOf .host, by decide +kernel⟩,
   ⟨.host, 7, openOf .host, by decide +kernel⟩,
   ⟨.host, 7, pendNext .host 7, { on with txnPend := [pendNext .host 7] }, by decide +kernel⟩,
   ⟨.host, 7, on, by decide +kernel⟩⟩

theorem wit_RegisterWritesAreChecked :
    (∃ (t : Nat) (q : Requester) (k : Nat) (v : Word) (r : RegRow) (s : State), ordinaryWrite (s.at t) q k v r ∧ r.sel = false ∧ s.owns q k = true ∧ s.rangeOk k v.toNat = true ∧ ((r.rwt ≠ 0 → (s.openTxn q).any (fun x => x.shadows.length < 4096) = true ∧ s.boundsOk q k v.toNat r.fs = true))) ∧
    (∃ (t : Nat) (q : Requester) (k : Nat) (v : Word) (r : RegRow) (s : State), ordinaryWrite (s.at t) q k v r ∧ r.sel = false ∧ s.owns q k = false) ∧
    (∃ (t : Nat) (q : Requester) (k : Nat) (v : Word) (r : RegRow) (s : State), ordinaryWrite (s.at t) q k v r ∧ r.sel = false ∧ s.owns q k = true ∧ r.rwt ≠ 0 ∧ s.openTxn q = none) ∧
    (∃ (t : Nat) (q : Requester) (k : Nat) (v : Word) (r : RegRow) (s : State), ordinaryWrite (s.at t) q k v r ∧ r.sel = false ∧ s.owns q k = true ∧ ((r.rwt ≠ 0 → (s.openTxn q).isSome = true)) ∧ (s.rangeOk k v.toNat = false ∨ (r.rwt ≠ 0 ∧ s.boundsOk q k v.toNat r.fs = false))) :=
  ⟨⟨5, .larkspur, 0x300000, 0x1234, (regRow 0x300000).getD (⟨0, 0, 0, 0, 0, 0, 0, false, []⟩), on, by unfold ordinaryWrite; decide +kernel⟩,
   ⟨5, .serving, 0x300000, 0x1234, (regRow 0x300000).getD (⟨0, 0, 0, 0, 0, 0, 0, false, []⟩), on, by unfold ordinaryWrite; decide +kernel⟩,
   ⟨5, .larkspur, 0x100000, 0x2C00300, (regRow 0x100000).getD (⟨0, 0, 0, 0, 0, 0, 0, false, []⟩), on, by unfold ordinaryWrite; decide +kernel⟩,
   ⟨5, .larkspur, 0x100000, 0, (regRow 0x100000).getD (⟨0, 0, 0, 0, 0, 0, 0, false, []⟩), openOf .larkspur, by unfold ordinaryWrite; decide +kernel⟩⟩

theorem wit_SelectorsAndPartialWrites :
    (∃ (t : Nat) (q : Requester) (k : Nat) (v : Word) (r : RegRow) (s : State), ordinaryWrite (s.at t) q k v r ∧ r.sel = true ∧ s.rangeOk k v.toNat = true) ∧
    (∃ (t k n : Nat) (s : State), k < 0x4000000 ∧ (¬ (n = 8 ∧ k % 8 = 0)) ∧ (s.at t).gate .host k = none) :=
  ⟨⟨5, .host, 0xA00050, 5, (regRow 0xA00050).getD (⟨0, 0, 0, 0, 0, 0, 0, false, []⟩), onF [(SYS_STATUS_PHASE, 3)], by unfold ordinaryWrite; decide +kernel⟩,
   ⟨5, 0x300000, 4, onF [(SYS_STATUS_PHASE, 3)], by decide +kernel⟩⟩

theorem wit_PavanePausesWakesAndHolds :
    (∃ (t : Nat) (s : State), 0 < s.f PAV_THR_LATCHED ∧ (s.at t).passNow = 16 * (s.pav.pauseBlocks + 1) ∧ (s.at t).passNow ≤ s.f PAV_CFG_N_PASSES) ∧
    (∃ (t tile : Nat) (s : State), s.active = true ∧ (s.at t).working = true ∧ s.pav.stopped = false ∧ s.stubbed (tile / 8) = false ∧ s.b (CNV_STAT_POWERED tile) = false ∧ ((s.at t).tileStarts (tile / 8) (tile % 8) (s.at t).passNow).contains ((s.at t).passNow + 1) = true) ∧
    (∃ (t core slot : Nat) (s : State), (s.at t).waitDue core slot = true ∧ ((s.at t).moveStaged (slotDesc (s.entry core slot))).bufFull (slotDesc (s.entry core slot)) = true) ∧
    (∃ (t core slot n : Nat) (s : State), (s.at t).waitDue core slot = true ∧ ((s.at t).moveStaged (slotDesc (s.entry core slot))).bufFull (slotDesc (s.entry core slot)) = false ∧ ((∀ w ∈ s.pav.waits, w.core = core → w.slot = slot → w.count < s.f PAV_WAIT_WAIT_LIMIT)) ∧ (n = (((s.pav.waits.find? (fun (w : Wait) => w.core = core ∧ w.slot = slot)).map Wait.count).getD 0))) ∧
    (∃ (w : Wait) (s : State), s.pav.waits.find? (fun (w : Wait) => decide (s.f PAV_WAIT_WAIT_LIMIT ≤ w.count)) = some w ∧ s.pav.waitDead = false) ∧
    (∃ (t : Nat) (s : State), s.active = false ∧ s.qdr.member = none ∧ s.pav.lfeDone = true ∧ s.pav.skipReq = true ∧ s.pav.idleRun = false ∧ s.pav.stopped = false ∧ s.f PAV_CFG_N_PASSES ≤ (s.at t).passNow ∧ s.paused (s.f PAV_CFG_N_PASSES) = true) :=
  ⟨⟨1024, onF [(PAV_THR_LATCHED, 2)], by decide +kernel⟩,
   ⟨256, 1, act, by decide +kernel⟩,
   ⟨0, 0, 10, { act with fill := [(0, 8)] }, by decide +kernel⟩,
   ⟨0, 0, 10, 0, actF [(PAV_WAIT_WAIT_LIMIT, 4)], by decide +kernel⟩,
   ⟨⟨0, 10, 4, false⟩, { actF [(PAV_WAIT_WAIT_LIMIT, 4)] with pav := { waits := [⟨0, 10, 4, false⟩] } }, by decide +kernel⟩,
   ⟨49152, { onF [(SYS_STATUS_PHASE, 3)] with pav := { lfeDone := true, skipReq := true } }, by decide +kernel⟩⟩

theorem wit_LocalFrameEndLatchesTheLevel :
    (∃ (w : Wait) (s : State), s.pav.waits.find? (fun (w : Wait) => decide (s.f QDR_CFG_HELD_PASSES ≤ w.count) && !w.told) = some w) ∧
    (∃ (t : Nat) (s : State), s.power = .on ∧ 2 ≤ s.f SYS_STATUS_PHASE ∧ s.pav.lfeDone = false ∧ s.pav.stopped = false ∧ s.pav.waitDead = false ∧ (s.at t).working = true ∧ s.f PAV_CFG_WORK_SPAN ≤ (s.at t).passNow) :=
  ⟨⟨⟨0, 10, 9, false⟩, { actF [(QDR_CFG_HELD_PASSES, 4), (QDR_TREE_PARENT, 3), (FAB_PSTAT_STATE 3, 3)] with pav := { waits := [⟨0, 10, 9, false⟩] } }, by decide +kernel⟩,
   ⟨45056, onF [(SYS_STATUS_PHASE, 3), (PAV_THR_REQUEST, 2)], by decide +kernel⟩⟩

theorem wit_EveryTickStartsTheFrameAfresh :
    (∃ (t : Nat) (s : State), s.canon = true ∧ (s.at t).tickReady = true ∧ s.active = false ∧ s.txnPend = [] ∧ s.qdr.member = none ∧ s.halted = false ∧ s.qdr.excluded = false ∧ s.drain.asked = false ∧ s.fwd = [] ∧ s.trimNext = [] ∧ s.railPend = [] ∧ s.joinSeen = none) ∧
    (∃ (t : Nat) (s : State), (s.at t).tickReady = true) ∧
    (∃ (t : Nat) (s : State), (s.at t).tickReady = false) ∧
    (∃ (s : State), s.inJob = false ∧ s.f PAV_CFG_N_PASSES > s.passNow) ∧
    (∃ (s : State), s.inJob = true ∧ s.qdr.done ≠ some s.barFrame) ∧
    (∃ (t : Nat) (s : State), (s.at t).boundary = true ∧ s.active = false ∧ s.qdr.startGo = true) :=
  ⟨⟨49152, { onF [(SYS_STATUS_PHASE, 3), (ARR_CHKCNT 0 0, 7)] with pav := { lfeDone := true, latched := 3 } }, by decide +kernel⟩,
   ⟨49152, { act with qdr := { done := some 0 }, ran := [(0, 1)] }, by decide +kernel⟩,
   ⟨49151, onF [(SYS_STATUS_PHASE, 3)], by decide +kernel⟩,
   ⟨onF [(SYS_STATUS_PHASE, 3)], by decide +kernel⟩,
   ⟨act, by decide +kernel⟩,
   ⟨64, { onF [(SYS_STATUS_PHASE, 3), (IMG_STATE_STATE, 5)] with qdr := { startGo := true, startSent := true }, staging := some img0 }, by decide +kernel⟩⟩

theorem wit_TransactionsApplyOrFail :
    (∃ (t : Nat) (p : TxnPend) (s : State), s.power = .on ∧ max s.now t = s.f PAV_TICK_TICK_STAMP ∧ s.txnPend = [p] ∧ s.txnDue false false p = true ∧ p.job = false ∧ (s.at t).txnFails p = none ∧ p.q ≠ .larkspur ∧ p.shadows = []) ∧
    (∃ (t : Nat) (p : TxnPend) (k m v x : Nat) (s : State), s.power = .on ∧ max s.now t = s.f PAV_TICK_TICK_STAMP ∧ s.txnPend = [p] ∧ s.txnDue false false p = true ∧ p.job = false ∧ (s.at t).txnFails p = none ∧ p.q ≠ .larkspur ∧ p.shadows = [⟨k, m, v, x⟩] ∧ ((0x100000 ≤ k ∧ k < 0x100020) ∨ (0x100068 ≤ k ∧ k < 0x100100))) ∧
    (∃ (t : Nat) (p : TxnPend) (code : Nat) (s : State), s.power = .on ∧ max s.now t = s.f PAV_TICK_TICK_STAMP ∧ s.txnPend = [p] ∧ s.txnDue false false p = true ∧ p.job = false ∧ (s.at t).txnFails p = some code ∧ p.q ≠ .larkspur) ∧
    (∃ (t : Nat) (s : State), (s.power ≠ .on ∨ max s.now t ≠ s.f PAV_TICK_TICK_STAMP)) :=
  ⟨⟨64, pendNext .host 7, { onF [(PAV_TICK_TICK_STAMP, 64)] with txnPend := [pendNext .host 7] }, by decide +kernel⟩,
   ⟨64, { pendNext .host 7 with shadows := [⟨0x100000, 0x3FFF0000, 0x2800000, 0⟩] }, 0x100000, 0x3FFF0000, 0x2800000, 0, { onF [(PAV_TICK_TICK_STAMP, 64)] with txnPend := [{ pendNext .host 7 with shadows := [⟨0x100000, 0x3FFF0000, 0x2800000, 0⟩] }] }, by decide +kernel⟩,
   ⟨64, { pendNext .host 7 with shadows := [⟨0x100000, 0x3FFF0000, 0x2BF0000, 0⟩] }, 8, { onF [(PAV_TICK_TICK_STAMP, 64)] with ownAt := [(1, 5)], txnPend := [{ pendNext .host 7 with shadows := [⟨0x100000, 0x3FFF0000, 0x2BF0000, 0⟩] }] }, by decide +kernel⟩,
   ⟨5, onF [(PAV_TICK_TICK_STAMP, 64)], by decide +kernel⟩⟩

theorem wit_TilePassesAccumulateOrHold :
    (∃ (t core slot : Nat) (s : State), core < 1024 ∧ (s.at t).slotDue core slot 1 = true ∧ s.f (ARR_STATE_STATE (s.slotArr core slot)) ∈ [0, 1, 4]) ∧
    (∃ (t core slot : Nat) (errs : List WordErr) (T A desc g : Nat) (p : List Blk) (s : State), core < 1024 ∧ (s.at t).slotDue core slot 1 = true ∧ A = s.slotArr core slot ∧ T = s.passTile core slot ∧ desc = s.passDesc core slot ∧ g = bits desc 24 4 ∧ (s.f (ARR_STATE_STATE A) = 2 ∨ s.f (ARR_STATE_STATE A) = 3) ∧ p = (((s.at t).passHead core slot).passPkts core A desc errs).2) ∧
    (∃ (t core slot : Nat) (s : State), (s.at t).slotDue core slot 1 = false) :=
  ⟨⟨0, 0, 1, act, by decide +kernel⟩,
   ⟨0, 0, 1, [], 0, 0, 0, 0, (((actF [(ARR_STATE_STATE 0, 2)]).passHead 0 1).passPkts 0 0 0 []).2, actF [(ARR_STATE_STATE 0, 2)], by decide +kernel⟩,
   ⟨640, 0, 1, act, by decide +kernel⟩⟩

theorem wit_MergeIsExactOrSaturates :
    (∃ (s : State) (T g : Nat) (e : Int), T < 8192 ∧ g < 16 ∧ -256 ≤ e ∧ e ≤ 255 ∧ s.b (ACC_STAT_TAG_VALID T g) = false) ∧
    (∃ (s : State) (T g : Nat) (e m : Int), T < 8192 ∧ g < 16 ∧ -256 ≤ e ∧ e ≤ 255 ∧ s.b (ACC_STAT_TAG_VALID T g) = true ∧ m = min (s.fi (ACC_STAT_TAG T g)) e) ∧
    (∃ (T g T' g' j : Nat), j < 256 ∧ (T, g) ≠ (T', g') ∧ g < 16 ∧ g' < 16) :=
  ⟨⟨act, 3, 15, -256, by decide +kernel⟩,
   ⟨act.merge 3 15 [5, 6] 4, 3, 15, 9, 4, by decide +kernel⟩,
   ⟨3, 15, 3, 14, 255, by decide +kernel⟩⟩

theorem wit_CoreTransfersMoveGroups :
    (∃ (t core slot w0 w1 c : Nat) (s : State), core < 1024 ∧ (s.at t).slotDue core slot 3 = true ∧ s.xferDesc core slot = some (w0, w1) ∧ bits w0 62 2 = 0 ∧ bits w0 24 2 = 0 ∧ (bits w0 32 3 = 2 ∨ bits w0 32 3 = 3) ∧ reach core (bits w0 52 3) = some c ∧ (((s.stubbed c || s.dark c) = true → c = core)) ∧ (s.at t).isClearing c (8 * bits w0 35 17 / 65536) = false) ∧
    (∃ (t core slot w0 w1 : Nat) (s : State), core < 1024 ∧ (s.at t).slotDue core slot 3 = true ∧ s.xferDesc core slot = some (w0, w1) ∧ bits w0 62 2 = 0) ∧
    (∃ (t core slot w0 w1 c : Nat) (s : State), core < 1024 ∧ (s.at t).slotDue core slot 3 = true ∧ s.xferDesc core slot = some (w0, w1) ∧ bits w0 62 2 = 1 ∧ reach core (bits w0 52 3) = some c ∧ (((s.stubbed c || s.dark c) = true → c = core)) ∧ (s.at t).isClearing c (8 * bits w0 35 17 / 65536) = false) ∧
    (∃ (t core slot : Nat) (errs : List WordErr) (w0 w1 T g : Nat) (r : Rd) (s : State), core < 1024 ∧ (s.at t).slotDue core slot 3 = true ∧ s.xferDesc core slot = some (w0, w1) ∧ bits w0 62 2 = 2 ∧ T = 8 * core + bits w0 55 3 ∧ g = bits w0 58 4 ∧ r = (((s.at t).mark core slot).inc (RING_XFER_FILLS T)).readSpd core (bits w0 52 3) (8 * bits w0 35 17) 1032 errs) ∧
    (∃ (t core slot w0 w1 b : Nat) (s : State), core < 1024 ∧ (s.at t).slotDue core slot 3 = true ∧ s.xferDesc core slot = some (w0, w1) ∧ bits w0 62 2 = 3 ∧ b = slotTarget (s.entry core slot) % 16) :=
  ⟨⟨0, 0, 3, (xferW 0 2 0).toNat, 0, 0, act, by decide +kernel⟩,
   ⟨0, 0, 3, (xferW 0 2 0).toNat, 0, act, by decide +kernel⟩,
   ⟨0, 0, 15, (xferW 1 0 0).toNat, 0, 0, act, by decide +kernel⟩,
   ⟨0, 0, 16, [], (xferW 2 0 0).toNat, 0, 0, 0, _, act, by decide +kernel, by decide +kernel, by decide +kernel, by decide +kernel, by decide +kernel, by decide +kernel, rfl⟩,
   ⟨0, 0, 17, (xferW 3 0 0).toNat, 0, 3, act, by decide +kernel⟩⟩

theorem wit_WideWorkAndRepairsComplete :
    (∃ (t core slot : Nat) (errs : List WordErr) (ops : List WideOp) (rep : Nat) (x : List Nat) (s : State), core < 1024 ∧ (s.at t).slotDue core slot 2 = true ∧ s.wideDesc core slot = some (.task ops rep x) ∧ (((s.at t).mark core slot).runTask core false errs (s.note core slot) ops).flagged = true) ∧
    (∃ (t core slot : Nat) (errs : List WordErr) (ops : List WideOp) (rep : Nat) (x : List Nat) (s : State), core < 1024 ∧ (s.at t).slotDue core slot 2 = true ∧ s.wideDesc core slot = some (.task ops rep x) ∧ (((s.at t).mark core slot).runTask core false errs (s.note core slot) ops).flagged = false) ∧
    (∃ (t core slot : Nat) (w : Word) (A T g : Nat) (s : State), core < 1024 ∧ (s.at t).slotDue core slot 2 = true ∧ s.wideDesc core slot = some (.corr w) ∧ A = 32 * core + 4 * bits w.toNat 42 3 + bits w.toNat 40 2 ∧ T = 8 * core + bits w.toNat 42 3 ∧ g = bits w.toNat 36 4) ∧
    (∃ (t core slot : Nat) (s : State), core < 1024 ∧ (s.at t).slotDue core slot 8 = true) :=
  ⟨⟨0, 0, 20, [], [.load 0 .a8 ⟨0, 0⟩ 1 0], 8, [], { act with mem := cellsAt (spd 0 0 + 128) [127] ++ cellsAt (spd 0 0 + 132) [148, 243, 86] }, by decide +kernel⟩,
   ⟨0, 0, 2, [], [], 0, [], act, by decide +kernel⟩,
   ⟨0, 0, 11, 0, 0, 0, 0, act, by decide +kernel⟩,
   ⟨0, 0, 8, act, by decide +kernel⟩⟩

theorem wit_AttentionAndSampling :
    (∃ (t core slot : Nat) (a : Attend) (c : Nat) (s : State), core < 1024 ∧ (s.at t).slotDue core slot 2 = true ∧ s.wideDesc core slot = some (.attend a) ∧ s.slotReq a.slot = none ∧ reach core a.out.sel = some c ∧ (((s.stubbed c || s.dark c) = true → c = core)) ∧ (s.at t).isClearing c (a.out.off / 65536) = false) ∧
    (∃ (t core slot : Nat) (a : Attend) (s : State), core < 1024 ∧ (s.at t).slotDue core slot 2 = true ∧ s.wideDesc core slot = some (.attend a)) ∧
    (∃ (t core slot : Nat) (m : Merge) (s : State), core < 1024 ∧ (s.at t).slotDue core slot 2 = true ∧ s.wideDesc core slot = some (.merge m)) ∧
    (∃ (t core slot : Nat) (d : Shard) (r : Req) (s : State), core < 1024 ∧ (s.at t).slotDue core slot 2 = true ∧ s.wideDesc core slot = some (.shard d) ∧ s.slotReq d.slot = some r) ∧
    (∃ (slot k : Nat) (r : Req) (x : StepRun) (tok : Nat) (s : State), s.active = true ∧ s.b SRV_CFG_IS_SAMPLER = true ∧ s.reqs.find? (fun (r : Req) => r.step.any (fun (x : StepRun) => x.slot == slot && x.frame == s.jobFrame)) = some r ∧ r.step = some x ∧ s.sampleTok r slot k true = some tok) ∧
    (∃ (slot : Nat) (r : Req) (x : StepRun) (y : List Nat × Nat) (s : State), s.active = true ∧ s.b SRV_CFG_IS_SAMPLER = true ∧ s.reqs.find? (fun (r : Req) => r.step.any (fun (x : StepRun) => x.slot == slot && x.frame + 3 == s.jobFrame) && r.count.isNone) = some r ∧ r.step = some x ∧ ((x.pre = true → x.last = true)) ∧ s.req r.scope r.tag = some r ∧ (y = s.yield r slot (if x.pre then x.fed - 1 else 0) ((s.drafts r).take x.depth) (if x.pre then 1 else x.depth + 1) 0)) :=
  ⟨⟨0, 0, 12, ⟨0, 0, 0, 0, 0, 0, ⟨0, 0⟩, 0, ⟨0, 0⟩⟩, 0, act, by decide +kernel⟩,
   ⟨0, 0, 12, ⟨0, 0, 0, 0, 0, 0, ⟨0, 0⟩, 0, ⟨0, 0⟩⟩, act, by decide +kernel⟩,
   ⟨0, 0, 13, ⟨0, 0, 0, [], [], ⟨0, 0⟩⟩, act, by decide +kernel⟩,
   ⟨0, 0, 14, ⟨0, 0, 0, 0, 0, false, ⟨0, 0⟩⟩, reqStep, { act with reqs := [reqStep] }, by decide +kernel⟩,
   ⟨0, 0, reqStep, step0, 17, { actF [(SRV_CFG_IS_SAMPLER, 1)] with reqs := [reqStep], summaries := [(0, 0, ⟨0, 0, 0, 0, 20, true, ⟨0, 0⟩⟩, [0, 0, 17, 0x3F800000])] }, by decide +kernel⟩,
   ⟨0, reqStep, step0, ([17], 0), { actF [(SRV_CFG_IS_SAMPLER, 1), (PAV_FRAME_FRAME_NUM, 3)] with reqs := [reqStep], summaries := [(0, 0, ⟨0, 0, 0, 0, 20, false, ⟨0, 0⟩⟩, [0, 0, 17, 0x3F800000])] }, by decide +kernel⟩⟩

theorem wit_RoutedTransfersMoveTheirBytes :
    (∃ (t core slot : Nat) (r : Route) (s : State), core < 1024 ∧ (s.at t).slotDue core slot 3 = true ∧ s.routeAt core slot = some r ∧ r.home = core ∧ s.routeCut r = true) ∧
    (∃ (t core slot : Nat) (errs : List WordErr) (lines : List Nat) (r : Route) (d : Nat) (rd : Rd) (s : State), core < 1024 ∧ (s.at t).slotDue core slot 3 = true ∧ s.routeAt core slot = some r ∧ r.home = core ∧ s.routeCut r = false ∧ rd = ((s.at t).mark core slot).routeRead r errs lines ∧ (d = (if r.dstN then r.tier else spd r.dst r.dstAt)) ∧ ((r.dstN = false → (s.at t).isClearing r.dst (r.dstAt / 65536) = false))) :=
  ⟨⟨0, 0, 18, routeOf (0, 0, 0), { act with boot := { routers := [0] } }, by decide +kernel, by decide +kernel, rfl, by decide +kernel, by decide +kernel⟩,
   ⟨0, 0, 18, [], [], routeOf (0, 0, 0), spd 0 0, _, act, by decide +kernel, by decide +kernel, rfl, by decide +kernel, by decide +kernel, rfl, by decide +kernel, by decide +kernel⟩⟩

theorem wit_FabricSlotsMoveFlits :
    (∃ (t core slot : Nat) (errs : List WordErr) (w0 w1 : Word) (r : Rd) (p : Nat) (s : State), core < 1024 ∧ (s.at t).slotDue core slot 4 = true ∧ s.img.bind (fun im => im.sends[slotDesc (s.entry core slot)]?) = some (w0, w1) ∧ p = s.onPort (slotTarget (s.entry core slot)) ∧ r = ((s.at t).mark core slot).readSpd core (bits w0.toNat 61 3) (8 * bits w0.toNat 44 17) (bits w0.toNat 23 21) errs ∧ 0 < bits w0.toNat 23 21 ∧ s.portUp p = true ∧ s.b (FAB_PCTL_DRAINING p) = false ∧ (s.txOf p).length < 4096) ∧
    (∃ (t core slot e : Nat) (s : State), core < 1024 ∧ (s.at t).slotDue core slot 5 = true ∧ e = s.entry core slot) ∧
    (∃ (t core slot : Nat) (s : State), (s.at t).slotDue core slot 9 = true) :=
  ⟨⟨0, 0, 4, [], BitVec.ofNat 64 (2 ^ 23), 0, _, 0, actF [(FAB_PSTAT_STATE 0, 3)], by decide +kernel, by decide +kernel, by decide +kernel, by decide +kernel, rfl, by decide +kernel, by decide +kernel, by decide +kernel, by decide +kernel⟩,
   ⟨0, 0, 5, (ent 5 0 4 0 0).toNat, { act with staged := [(3, { typ := 1, words := 1, payload := [1, 2, 3, 4, 5, 6, 7, 8] })] }, by decide +kernel⟩,
   ⟨0, 0, 9, act, by decide +kernel⟩⟩

theorem wit_PagesAreCopiedAndMoved :
    (∃ (t core slot : Nat) (c : CowCopy) (s : State), (s.at t).slotDue core slot 3 = true ∧ s.cow = [c]) ∧
    (∃ (t core slot : Nat) (s : State), (s.at t).slotDue core slot 3 = true) ∧
    (∃ (t core slot : Nat) (s : State), (s.at t).slotDue core slot 3 = true) ∧
    (∃ (lines : List Nat) (m : Moving) (rest : List Moving) (n : Nat) (s : State), s.moving = m :: rest ∧ n = ((s.req m.scope m.tag).map (fun r => min 256 (r.horizon - 256 * m.idx))).getD 0 ∧ (m.outw = true ∨ s.pageReads m.src n lines = true)) ∧
    (∃ (lines : List Nat) (m : Moving) (rest : List Moving) (n : Nat) (s : State), s.moving = m :: rest ∧ n = ((s.req m.scope m.tag).map (fun r => min 256 (r.horizon - 256 * m.idx))).getD 0 ∧ m.outw = false ∧ s.pageReads m.src n lines = false ∧ m.src ≠ m.dst ∧ s.pageSt m.src ≠ 5) :=
  ⟨⟨0, 0, 3, ⟨1, 2, 3⟩, { actF [(PGM_POOLN_PAGES, 8)] with cow := [⟨1, 2, 3⟩] }, by decide +kernel⟩,
   ⟨0, 0, 3, { actF [(PGM_POOLN_PAGES, 8)] with cow := [⟨1, 2, 3⟩] }, by decide +kernel⟩,
   ⟨0, 0, 3, { actF [(PGM_POOLN_PAGES, 8)] with moving := [⟨0, 1, 0, 0, 1, 2, true, 0⟩] }, by decide +kernel⟩,
   ⟨[], ⟨0, 1, 0, 0, 1, 2, true, 0⟩, [], 0, { actF [(PGM_POOLN_PAGES, 8)] with moving := [⟨0, 1, 0, 0, 1, 2, true, 0⟩] }, by decide +kernel⟩,
   ⟨[5], ⟨0, 1, 0, 0, 8, 2, false, 0⟩, [], 0, { actF [(PGM_POOLN_PAGES, 8)] with moving := [⟨0, 1, 0, 0, 8, 2, false, 0⟩] }, by decide +kernel⟩⟩

theorem wit_ChecksOverTime :
    (∃ (t core slot : Nat) (x : Nat × Nat) (s : State), (s.at t).slotDue core slot 7 = true ∧ s.shadowSlot core = some x) ∧
    (∃ (arr : Nat) (w : TrkWin) (s : State), arr < 32768 ∧ s.active = true ∧ w = s.trk arr ∧ s.f (COR_TRK_WIN_SAMPLES arr) ≤ w.passes ∧ ((w.spoilt = true ∨ w.lanes < 128 * s.f (COR_TRK_WIN_SAMPLES arr) ∨ w.comp < 16 * w.mism))) ∧
    (∃ (arr : Nat) (w : TrkWin) (g : Int × Int) (s : State), arr < 32768 ∧ s.active = true ∧ w = s.trk arr ∧ s.f (COR_TRK_WIN_SAMPLES arr) ≤ w.passes ∧ w.spoilt = false ∧ 128 * s.f (COR_TRK_WIN_SAMPLES arr) ≤ w.lanes ∧ 16 * w.mism ≤ w.comp ∧ numRatio w.spp w.spq = some g) ∧
    (∃ (i : Nat) (s : State), i < 16 ∧ s.f (CHK_SUSP_STATE i) = 1 ∧ s.since i + s.f CHK_OBS_OBS_FRAMES ≤ s.jobFrame) ∧
    (∃ (s : State), s.canon = true ∧ s.power = .on ∧ s.jobFrame % 64 = 0 ∧ 1 ∉ s.done) ∧
    (∃ (n : Nat) (s : State), n < 32 ∧ 0 < s.f (CHK_RAIL n) ∧ (sfind s.lastSusp n).getD 0 + s.f CHK_OBS_RAIL_DECAY ≤ s.jobFrame) ∧
    (∃ (s : State), s.power = .on ∧ s.frame % 256 = 0 ∧ 2 ∉ s.done) :=
  ⟨⟨0, 0, 7, (7, 0), act, by decide +kernel⟩,
   ⟨32767, { passes := 600, spoilt := true }, { act with trkWin := [(32767, { passes := 600, spoilt := true })] }, by decide +kernel⟩,
   ⟨5, { passes := 600, lanes := 99999, comp := 9, spp := numOfInt 1 0, spq := numOfInt 1 0 }, (1, 1), { act with trkWin := [(5, { passes := 600, lanes := 99999, comp := 9, spp := numOfInt 1 0, spq := numOfInt 1 0 })] }, by decide +kernel⟩,
   ⟨15, actF [(CHK_SUSP_STATE 15, 1), (CHK_OBS_OBS_FRAMES, 0)], by decide +kernel⟩,
   ⟨{ on with score := [(5, 9)] }, by decide +kernel⟩,
   ⟨31, actF [(CHK_RAIL 31, 2), (CHK_OBS_RAIL_DECAY, 0)], by decide +kernel⟩,
   ⟨on, by decide +kernel⟩⟩

theorem wit_ProgrammingCommandsQueueAndStart :
    (∃ (t : Nat) (q : Requester) (A src : Nat) (s : State), A < 32768 ∧ (s.at t).gate q (arrBlock A + 0x18) = none ∧ s.owns q (arrBlock A + 0x18) = true ∧ src % 64 = 0 ∧ s.cmdOf A = none ∧ s.tileBusy A = false ∧ A / 4 ∉ s.failTile) ∧
    (∃ (t : Nat) (q : Requester) (A src : Nat) (s : State), A < 32768 ∧ (s.at t).gate q (arrBlock A + 0x18) = none ∧ s.owns q (arrBlock A + 0x18) = true ∧ src % 64 = 0 ∧ s.cmdOf A = none ∧ s.tileBusy A = true) ∧
    (∃ (t : Nat) (q : Requester) (A src : Nat) (s : State), A < 32768 ∧ (s.at t).gate q (arrBlock A + 0x18) = none ∧ s.owns q (arrBlock A + 0x18) = true ∧ src % 64 = 0 ∧ s.cmdOf A = none ∧ s.tileBusy A = false ∧ A / 4 ∈ s.failTile) ∧
    (∃ (t : Nat) (q : Requester) (A : Nat) (s : State), A < 32768 ∧ (s.at t).gate q (arrBlock A + 0x18) = none ∧ s.owns q (arrBlock A + 0x18) = true ∧ s.cmdOf A = none ∧ s.tileBusy A = false) ∧
    (∃ (t : Nat) (q : Requester) (A : Nat) (s : State), A < 32768 ∧ (s.at t).gate q (arrBlock A + 0x18) = none ∧ s.owns q (arrBlock A + 0x18) = true ∧ (s.cmdOf A).isSome = true) ∧
    (∃ (r : Nat) (c : ProgCmd) (s : State), s.power = .on ∧ ((s.progQ.filter (fun (p : ProgCmd) => p.arr / 1024 == r)).filter (fun (p : ProgCmd) => p.running)).length < 16 ∧ nextCmd ((s.progQ.filter (fun (p : ProgCmd) => p.arr / 1024 == r)).filter (fun (p : ProgCmd) => !p.running)) = some c ∧ c.arr < 32768) :=
  ⟨⟨3, .larkspur, 32767, 64, on, by decide +kernel⟩,
   ⟨3, .larkspur, 0, 64, act, by decide +kernel⟩,
   ⟨3, .larkspur, 9, 64, { on with failTile := [2] }, by decide +kernel⟩,
   ⟨3, .larkspur, 9, on, by decide +kernel⟩,
   ⟨3, .larkspur, 9, { on with progQ := [⟨9, true, 0, 0, false, false⟩] }, by decide +kernel⟩,
   ⟨0, ⟨9, true, 0, 0, false, false⟩, { on with progQ := [⟨9, true, 0, 0, false, false⟩] }, by decide +kernel⟩⟩

theorem wit_ProgrammingEnds :
    (∃ (t r : Nat) (c : ProgCmd) (s : State), s.power = .on ∧ (s.at t).cool r = true ∧ s.progQ = [c] ∧ c.arr / 1024 = r ∧ c.arr < 32768 ∧ c.running = true ∧ c.erase = false ∧ c.paused = true) ∧
    (∃ (A n : Nat) (c : ProgCmd) (s : State), A < 32768 ∧ s.cmdOf A = some c ∧ c.running = true ∧ c.erase = false ∧ c.paused = false ∧ n ≤ 1024) ∧
    (∃ (A n : Nat) (c : ProgCmd) (s : State), A < 32768 ∧ s.cmdOf A = some c ∧ c.running = true ∧ c.erase = false ∧ c.paused = false ∧ 1024 < n) ∧
    (∃ (A : Nat) (c : ProgCmd) (s : State), A < 32768 ∧ s.cmdOf A = some c ∧ c.running = true ∧ c.erase = true) ∧
    (∃ (A : Nat) (p : Nat × Nat × Nat) (s : State), A < 32768 ∧ (s.cfgLoad.find? (fun (x : Nat × Nat × Nat) => x.1 = A ∧ x.2.2 < s.f PAV_TICK_TICK_STAMP) = some p) ∧ s.f (ARR_STATE_STATE A) = 2) :=
  ⟨⟨3, 0, ⟨9, false, 0, 0, true, true⟩, { on with progQ := [⟨9, false, 0, 0, true, true⟩] }, by decide +kernel⟩,
   ⟨9, 1024, ⟨9, false, 0, 0, true, false⟩, { on with progQ := [⟨9, false, 0, 0, true, false⟩] }, by decide +kernel⟩,
   ⟨9, 1025, ⟨9, false, 0, 0, true, false⟩, { on with progQ := [⟨9, false, 0, 0, true, false⟩] }, by decide +kernel⟩,
   ⟨9, ⟨9, true, 0, 0, true, false⟩, { on with progQ := [⟨9, true, 0, 0, true, false⟩], cells := [(9, [1])] }, by decide +kernel⟩,
   ⟨9, (9, 64, 0), { onF [(PAV_TICK_TICK_STAMP, 1), (ARR_STATE_STATE 9, 2)] with cfgLoad := [(9, 64, 0)] }, by decide +kernel⟩⟩

theorem wit_ArrayActionWritesTakeEffect :
    (∃ (t : Nat) (q : Requester) (A : Nat) (s : State), A < 32768 ∧ (s.at t).gate q (corArr A) = none ∧ s.owns q (corArr A) = true) ∧
    (∃ (A w : Nat) (s : State), A < 32768 ∧ sfind s.valReq A = some w ∧ w < s.f PAV_TICK_TICK_STAMP) ∧
    (∃ (t : Nat) (q : Requester) (A : Nat) (s : State), A < 32768 ∧ (s.at t).gate q (arrBlock A + 8) = none ∧ s.owns q (arrBlock A + 8) = true) ∧
    (∃ (t : Nat) (q : Requester) (A v : Nat) (s : State), A < 32768 ∧ (s.at t).gate q (corArr A + 0x10) = none ∧ s.owns q (corArr A + 0x10) = true ∧ 0x2000 ≤ v % 2 ^ 16) ∧
    (∃ (t : Nat) (q : Requester) (A v : Nat) (s : State), A < 32768 ∧ (s.at t).gate q (corArr A + 0x10) = none ∧ s.owns q (corArr A + 0x10) = true ∧ v % 2 ^ 16 < 0x2000) ∧
    (∃ (t : Nat) (q : Requester) (T range k : Nat) (x : TxnOpen) (s : State), T < 8192 ∧ (s.at t).gate q (cnvTile T + 0x30) = none ∧ s.owns q (cnvTile T + 0x30) = true ∧ k = bits (s.reg (selCopy (cnvTile T + 0x28) q.code)).toNat 0 10 ∧ k < 544 ∧ s.openTxn q = some x ∧ x.shadows.length < 4096 ∧ s.boundsOk q (cnvTile T + 0x30) (range % 8 * 2 ^ 48) [(48, 3)] = true) ∧
    (∃ (t : Nat) (q : Requester) (T : Nat) (s : State), T < 8192 ∧ (s.at t).gate q (accTile T + 0x80) = none ∧ s.owns q (accTile T + 0x80) = true ∧ s.coreRuns (T / 8) = false) ∧
    (∃ (t : Nat) (q : Requester) (T : Nat) (s : State), T < 8192 ∧ (s.at t).gate q (accTile T + 0x80) = none ∧ s.owns q (accTile T + 0x80) = true ∧ s.coreRuns (T / 8) = true) ∧
    (∃ (t : Nat) (q : Requester) (c off : Nat) (s : State), c < 1024 ∧ (s.at t).gate q (spdBlock c + 0x10) = none ∧ s.coreRuns c = false ∧ off = s.f ⟨selCopy (spdBlock c + 8) q.code, 0, 20⟩ ∧ (s.at t).isClearing c (off / 65536) = false ∧ s.dark c = false ∧ s.poison = []) ∧
    (∃ (t : Nat) (q : Requester) (c off : Nat) (s : State), c < 1024 ∧ (s.at t).gate q (spdBlock c + 0x10) = none ∧ s.owns q (spdBlock c + 0x10) = true ∧ s.coreRuns c = false ∧ off = s.f ⟨selCopy (spdBlock c + 8) q.code, 0, 20⟩ ∧ (s.at t).isClearing c (off / 65536) = false) :=
  ⟨⟨3, .larkspur, 9, on, by decide +kernel⟩,
   ⟨9, 0, { onF [(PAV_TICK_TICK_STAMP, 1)] with valReq := [(9, 0)] }, by decide +kernel⟩,
   ⟨3, .larkspur, 9, onF [(ARR_STATE_STATE 9, 2)], by decide +kernel⟩,
   ⟨3, .larkspur, 9, 0x2000, on, by decide +kernel⟩,
   ⟨3, .larkspur, 9, 0x1FFF, on, by decide +kernel⟩,
   ⟨3, .larkspur, 3, 4, 0, ⟨.larkspur, 7, []⟩, openOf .larkspur, by decide +kernel⟩,
   ⟨3, .larkspur, 3, on.merge 3 15 [5, 6] 4, by decide +kernel⟩,
   ⟨3, .larkspur, 3, act, by decide +kernel⟩,
   ⟨3, .larkspur, 5, 0, on.write (spd 5 0) [1, 2, 3], by decide +kernel⟩,
   ⟨3, .larkspur, 5, 0, on, by decide +kernel⟩⟩

theorem wit_QueuePairsAndDoorbells :
    (∃ (t p : Nat) (v : Word) (s : State), p < 256 ∧ (s.at t).gate .host 0x400000 = none ∧ s.b (QP_CFG_EN p) = false ∧ v.toNat.testBit 63 = true ∧ 4 ≤ bits v.toNat 44 4 ∧ bits v.toNat 44 4 ≤ 12 ∧ bits v.toNat 50 6 < 60) ∧
    (∃ (t p : Nat) (v : Word) (s : State), p < 256 ∧ (s.at t).gate .host 0x400000 = none ∧ s.b (QP_CFG_EN p) = true ∧ v.toNat.testBit 63 = false ∧ bits v.toNat 44 4 = s.f (QP_CFG_SIZE_LOG2 p) ∧ bits v.toNat 50 6 = s.f (QP_CFG_VECTOR p)) ∧
    (∃ (t p : Nat) (v : Word) (s : State), p < 256 ∧ (s.at t).gate .host 0x400000 = none ∧ s.b (QP_CFG_EN p) = true ∧ v.toNat.testBit 63 = true ∧ (bits v.toNat 44 4 ≠ s.f (QP_CFG_SIZE_LOG2 p) ∨ bits v.toNat 50 6 ≠ s.f (QP_CFG_VECTOR p))) ∧
    (∃ (t p tail n : Nat) (s : State), p < 256 ∧ (s.at t).gate .host 0x400000 = none ∧ s.b (QP_CFG_EN p) = true ∧ s.f (QP_CFG_SIZE_LOG2 p) ≤ 12 ∧ tail < s.qpSize p ∧ s.f (QP_STAT_SQ_HEAD p) < s.qpSize p ∧ n = (tail + s.qpSize p - s.f (QP_STAT_SQ_HEAD p)) % s.qpSize p) ∧
    (∃ (t p tail : Nat) (s : State), p < 256 ∧ (s.at t).gate .host 0x400000 = none ∧ (s.b (QP_CFG_EN p) = false ∨ s.qpSize p ≤ tail)) ∧
    (∃ (t p head n : Nat) (s : State), p < 256 ∧ (s.at t).gate .host 0x400000 = none ∧ s.b (QP_CFG_EN p) = true ∧ s.f (QP_CFG_SIZE_LOG2 p) ≤ 12 ∧ head < s.qpSize p ∧ n = (head + s.qpSize p - s.f (QP_STAT_CQ_HEAD p)) % s.qpSize p ∧ n ≤ (s.f (QP_STAT_CQ_TAIL p) + s.qpSize p - s.f (QP_STAT_CQ_HEAD p)) % s.qpSize p ∧ s.heldCq = [] ∧ s.b (QP_STAT_ARMED p) = false) ∧
    (∃ (t p : Nat) (s : State), p < 256 ∧ (s.at t).gate .host 0x400000 = none ∧ s.b (QP_CFG_EN p) = true ∧ s.f (QP_STAT_CQ_HEAD p) < s.qpSize p ∧ s.heldCq = [] ∧ s.b (MSIX_MASK (s.f (QP_CFG_VECTOR p))) = false ∧ s.b PCI_BME = true) ∧
    (∃ (t p head : Nat) (s : State), p < 256 ∧ (s.at t).gate .host 0x400000 = none ∧ (s.b (QP_CFG_EN p) = false ∨ s.qpSize p ≤ head)) :=
  ⟨⟨3, 255, BitVec.ofNat 64 (2 ^ 63 + 12 * 2 ^ 44 + 59 * 2 ^ 50), onF [(SYS_STATUS_PHASE, 3)], by decide +kernel⟩,
   ⟨3, 0, BitVec.ofNat 64 (4 * 2 ^ 44), onF [(SYS_STATUS_PHASE, 3), (QP_CFG_EN 0, 1)], by decide +kernel⟩,
   ⟨3, 0, BitVec.ofNat 64 (2 ^ 63 + 5 * 2 ^ 44), onF [(SYS_STATUS_PHASE, 3), (QP_CFG_EN 0, 1)], by decide +kernel⟩,
   ⟨3, 0, 2, 2, onF [(SYS_STATUS_PHASE, 3), (QP_CFG_EN 0, 1)], by decide +kernel⟩,
   ⟨3, 0, 16, onF [(SYS_STATUS_PHASE, 3), (QP_CFG_EN 0, 1)], by decide +kernel⟩,
   ⟨3, 0, 1, 1, onF [(SYS_STATUS_PHASE, 3), (QP_CFG_EN 0, 1), (QP_STAT_CQ_TAIL 0, 2)], by decide +kernel⟩,
   ⟨3, 0, onF [(SYS_STATUS_PHASE, 3), (QP_CFG_EN 0, 1), (QP_STAT_CQ_TAIL 0, 2), (PCI_BME, 1), (MSIX_MASK 0, 0)], by decide +kernel⟩,
   ⟨3, 0, 16, onF [(SYS_STATUS_PHASE, 3), (QP_CFG_EN 0, 1)], by decide +kernel⟩⟩

theorem wit_AdmissionRootDecides :
    (∃ (c : Cmd) (rest : List Cmd) (s : State), s.fwdIn = c :: rest) ∧
    (∃ (t op : Nat) (i : Instr) (a : Arrival) (s : State), (op, i) ∈ decidingRows t ∧ s.isRoot = true ∧ s.arrivals = [a] ∧ a.expiry = false ∧ a.stamp < s.f PAV_TICK_TICK_STAMP ∧ a.due ≤ s.jobFrame ∧ cmdOp a.cmd = op ∧ s.foreseen.reasonFor a.cmd = 0) ∧
    (∃ (t op : Nat) (i : Instr) (a : Arrival) (r : Nat) (s : State), (op, i) ∈ decidingRows t ∧ s.isRoot = true ∧ s.arrivals = [a] ∧ a.expiry = false ∧ a.stamp < s.f PAV_TICK_TICK_STAMP ∧ a.due ≤ s.jobFrame ∧ cmdOp a.cmd = op ∧ s.foreseen.reasonFor a.cmd = r ∧ r ≠ 0 ∧ ((deferrable r = false ∨ cmdDefer a.cmd = 0 ∨ s.f SRV_CFG_ADM_DEPTH ≤ s.deferred.length))) ∧
    (∃ (t op : Nat) (i : Instr) (a : Arrival) (r : Nat) (s : State), (op, i) ∈ decidingRows t ∧ s.isRoot = true ∧ s.arrivals = [a] ∧ a.expiry = false ∧ a.stamp < s.f PAV_TICK_TICK_STAMP ∧ a.due ≤ s.jobFrame ∧ cmdOp a.cmd = op ∧ s.foreseen.reasonFor a.cmd = r ∧ deferrable r = true ∧ 0 < cmdDefer a.cmd ∧ s.deferred.length < s.f SRV_CFG_ADM_DEPTH) ∧
    (∃ (t op : Nat) (i : Instr) (s : State), (op, i) ∈ decidingRows t ∧ s.isRoot = false) ∧
    (∃ (d : Deferred) (s : State), s.isRoot = true ∧ s.deferred.find? (fun (x : Deferred) => decide (x.since + cmdDefer x.cmd ≤ s.jobFrame)) = some d) :=
  ⟨⟨cmdF 3 0 1000, [], { act with fwdIn := [cmdF 3 0 1000] }, by decide +kernel⟩,
   ⟨3, 3, .pause 3, ⟨0, cmdF 3 0 1000, false, 0⟩, { actF [(PAV_TICK_TICK_STAMP, 1)] with arrivals := [⟨0, cmdF 3 0 1000, false, 0⟩], reqs := [reqA] }, by decide +kernel⟩,
   ⟨3, 5, .cancel 3, ⟨0, cmdF 5 0 0, false, 0⟩, 8, { actF [(PAV_TICK_TICK_STAMP, 1)] with arrivals := [⟨0, cmdF 5 0 0, false, 0⟩] }, by decide +kernel⟩,
   ⟨3, 4, .resume 3, ⟨0, cmdF 4 5 0, false, 0⟩, 1, { actF [(PAV_TICK_TICK_STAMP, 1), (SRV_CFG_ADM_DEPTH, 4)] with arrivals := [⟨0, cmdF 4 5 0, false, 0⟩], reqs := [{ reqA with st := .paused }], img := some { img0 with serv := { img0.serv with reserve := [1] } } }, by decide +kernel⟩,
   ⟨3, 1, .newReq 3, on, by decide +kernel⟩,
   ⟨⟨0, cmdF 6 0 2, 0, 3⟩, { act with deferred := [⟨0, cmdF 6 0 2, 0, 3⟩] }, by decide +kernel⟩⟩

theorem wit_CompletionsArePosted :
    (∃ (t typ : Nat) (i : Instr) (p : Post) (s : State), (typ, i) ∈ postingRows t ∧ s.posts = [p] ∧ p.typ = typ ∧ s.mirrored p.scope p.own = true ∧ p.pair < 256 ∧ p.toks.length ≤ 8 ∧ s.f (QP_CFG_SIZE_LOG2 p.pair) ≤ 12 ∧ s.cqFull p.pair = false ∧ s.heldCq = []) ∧
    (∃ (t typ : Nat) (i : Instr) (p : Post) (s : State), (typ, i) ∈ postingRows t ∧ s.posts = [p] ∧ p.typ = typ ∧ s.mirrored p.scope p.own = true ∧ p.pair < 256 ∧ s.cqFull p.pair = true) ∧
    (∃ (t typ : Nat) (i : Instr) (s : State), (typ, i) ∈ postingRows t ∧ ((∀ p ∈ s.posts, p.typ = typ → s.mirrored p.scope p.own = false))) :=
  ⟨⟨3, 3, .tokens 3, postF 3, { onF [(SYS_STATUS_PHASE, 3), (QP_CFG_EN 0, 1)] with posts := [postF 3] }, by decide +kernel⟩,
   ⟨3, 1, .accept 3, postF 1, { onF [(SYS_STATUS_PHASE, 3), (QP_CFG_EN 0, 1), (QP_STAT_CQ_TAIL 0, 15)] with posts := [postF 1] }, by decide +kernel⟩,
   ⟨3, 4, .doneReq 3, { on with posts := [postF 1] }, by decide +kernel⟩⟩

theorem wit_RequestsPauseExpireAndResume :
    (∃ (scope tag : Nat) (r : Req) (ms : Nat) (s : State), s.req scope tag = some r ∧ r.pausing = some ms ∧ r.step = none ∧ s.isMoving r = false ∧ r.st ≠ .ending ∧ r.st ≠ .expired) ∧
    (∃ (scope tag : Nat) (r : Req) (s : State), s.req scope tag = some r ∧ 0 < s.f SRV_CFG_IDLE_FRAMES ∧ s.f SRV_CFG_IDLE_FRAMES ≤ r.idle ∧ (r.st = .waitMask ∨ r.st = .held) ∧ r.step = none) ∧
    (∃ (t scope tag : Nat) (r : Req) (e : Nat) (s : State), s.req scope tag = some r ∧ r.expAt = some e ∧ s.isRoot = true ∧ r.st = .paused ∧ r.expSent = false ∧ e ≤ max s.now t) ∧
    (∃ (scope tag : Nat) (r : Req) (s : State), s.req scope tag = some r ∧ r.st = .resuming ∧ s.isMoving r = false ∧ ((∀ x ∈ r.pages, s.pageF x.2.2 = false)) ∧ r.pausing = none ∧ r.more = none) :=
  ⟨⟨0xFFFFF, 1, { reqA with pausing := some 1000 }, 1000, { act with reqs := [{ reqA with pausing := some 1000 }] }, by decide +kernel⟩,
   ⟨0xFFFFF, 1, { reqA with st := .held, idle := 9 }, { actF [(SRV_CFG_IDLE_FRAMES, 5)] with reqs := [{ reqA with st := .held, idle := 9 }] }, by decide +kernel⟩,
   ⟨3, 0xFFFFF, 1, { reqA with st := .paused, expAt := some 3 }, 3, { act with reqs := [{ reqA with st := .paused, expAt := some 3 }] }, by decide +kernel⟩,
   ⟨0xFFFFF, 1, { reqA with st := .resuming }, { act with reqs := [{ reqA with st := .resuming }] }, by decide +kernel⟩⟩

theorem wit_LoadsStartFailAndComplete :
    (∃ (t : Nat) (q : Requester) (s : State), (s.at t).gate q 0x300010 = none ∧ s.owns q 0x300010 = true ∧ ((1 ≤ s.imgSt ∧ s.imgSt ≤ 4) ∨ s.imgSt = 6 ∨ s.halted = true)) ∧
    (∃ (t : Nat) (q : Requester) (s : State), (s.at t).gate q 0x300010 = none ∧ s.owns q 0x300010 = true ∧ (¬ ((1 ≤ s.imgSt ∧ s.imgSt ≤ 4) ∨ s.imgSt = 6 ∨ s.halted = true)) ∧ s.audit.hold = true) ∧
    (∃ (t : Nat) (q : Requester) (b : Nat) (s : State), (s.at t).gate q 0x300010 = none ∧ s.owns q 0x300010 = true ∧ (¬ ((1 ≤ s.imgSt ∧ s.imgSt ≤ 4) ∨ s.imgSt = 6 ∨ s.halted = true)) ∧ s.audit.hold = false ∧ b = 4096 * s.f IMG_STAGE_BASE_4K ∧ s.headerOk b = true ∧ s.targetOk b = true ∧ s.sectionsOk b = true) ∧
    (∃ (t : Nat) (q : Requester) (b : Nat) (s : State), (s.at t).gate q 0x300010 = none ∧ s.owns q 0x300010 = true ∧ (¬ ((1 ≤ s.imgSt ∧ s.imgSt ≤ 4) ∨ s.imgSt = 6 ∨ s.halted = true)) ∧ s.audit.hold = false ∧ b = 4096 * s.f IMG_STAGE_BASE_4K ∧ ((s.headerOk b = false ∨ s.targetOk b = false ∨ s.sectionsOk b = false))) ∧
    (∃ (t : Nat) (q : Requester) (s : State), (s.at t).gate q 0x300010 = none ∧ s.owns q 0x300010 = true) ∧
    (∃ (s : State), s.imgSt = 4 ∧ s.loadSettled = true ∧ s.loadFact = false ∧ s.loadStop = false ∧ s.f IMG_PROG_FAILED = 0) ∧
    (∃ (s : State), s.imgSt = 4 ∧ s.loadSettled = true ∧ s.loadFact = false ∧ s.loadStop = false ∧ s.f IMG_PROG_FAILED ≠ 0) ∧
    (∃ (a : Nat) (bs : List Nat) (s : State), s.imgSt = 4 ∧ s.loadFact = true ∧ s.f MGT_LSTATE_STATE = 2 ∧ s.loadStop = false ∧ a + bs.length ≤ 2 ^ 39) :=
  ⟨⟨3, .larkspur, { on with halted := true }, by decide +kernel⟩,
   ⟨3, .larkspur, { on with audit := { hold := true } }, by decide +kernel⟩,
   ⟨3, .larkspur, 4096, stagedF false [], by decide +kernel, by decide +kernel, by decide +kernel, by decide +kernel, by decide +kernel, staged_hdr _, by decide +kernel, by decide +kernel⟩,
   ⟨3, .larkspur, 4096, onF [(IMG_STAGE_BASE_4K, 1)], by decide +kernel⟩,
   ⟨3, .larkspur, onF [(IMG_STATE_STATE, 4)], by decide +kernel⟩,
   ⟨onF [(IMG_STATE_STATE, 4)], by decide +kernel⟩,
   ⟨onF [(IMG_STATE_STATE, 4), (IMG_PROG_FAILED, 1)], by decide +kernel⟩,
   ⟨64, [1, 2, 3], { onF [(IMG_STATE_STATE, 4), (MGT_LSTATE_STATE, 2)] with loadFact := true }, by decide +kernel⟩⟩

theorem wit_LoadVerifiesAndValidates :
    (∃ (s : State), s.imgSt = 1 ∧ s.loadStop = true) ∧
    (∃ (s : State), s.imgSt = 1 ∧ s.loadStop = false ∧ s.num (s.stageBase + 40) 4 < s.fuses.floorI) ∧
    (∃ (s : State), s.imgSt = 1 ∧ s.loadStop = false ∧ s.fuses.floorI ≤ s.num (s.stageBase + 40) 4) ∧
    (∃ (h k : List Nat) (s : State), s.imgSt = 1 ∧ s.loadStop = false ∧ s.fuses.floorI ≤ s.num (s.stageBase + 40) 4 ∧ s.ownerHash = some h ∧ h.take 16 = s.bytes s.sigAt 16 ∧ s.num (s.sigAt + 16) 2 = 0x0192 ∧ s.num (s.stageBase + 12) 4 % 2 = 1 ∧ s.f SEC_STATE_DEBUG ≠ 2 ∧ sfind s.fuses.keys (s.num (s.sigAt + 18) 2) = some k) ∧
    (∃ (im : Image) (h : List Nat) (s : State), s.imgSt = 1 ∧ s.loadStop = false ∧ s.fuses.floorI ≤ s.num (s.stageBase + 40) 4 ∧ s.ownerHash = some h ∧ h.take 16 = s.bytes s.sigAt 16 ∧ s.num (s.sigAt + 16) 2 = 0x0192 ∧ s.num (s.stageBase + 12) 4 % 2 = 0 ∧ s.staging = some im) ∧
    (∃ (s : State), s.imgSt = 2 ∧ s.loadStop = false) ∧
    (∃ (t : Nat) (plain : List Nat) (vet : Option Nat) (im : Image) (a : State) (d : Nat) (w s : State), s.imgSt = 2 ∧ s.loadStop = false ∧ s.staging = some im ∧ a = (s.at t).write s.cipher.1 (plain.take s.cipher.2) ∧ d = leNat ((sha256 (a.bytes (s.stageBase + (a.sectAt s.stageBase 0).1) (a.sectAt s.stageBase 0).2)).take 16) ∧ w = { a.setf IMG_STATE_STATE 3 with topoDigest := d } ∧ w.validate im s.stageBase vet = 0 ∧ im.wideCopy = [] ∧ s.b IMG_COPYF_EN = false) :=
  ⟨⟨{ onF [(IMG_STATE_STATE, 1)] with loadStop := true }, by decide +kernel⟩,
   ⟨{ onF [(IMG_STATE_STATE, 1)] with fuses := { floorI := 1 } }, by decide +kernel⟩,
   ⟨onF [(IMG_STATE_STATE, 1)], by decide +kernel⟩,
   ⟨ownerH, [1, 2], stagedF true [(IMG_STATE_STATE, 1)], by decide +kernel⟩,
   ⟨img0, ownerH, stagedF false [(IMG_STATE_STATE, 1)], by decide +kernel⟩,
   ⟨stagedF true [(IMG_STATE_STATE, 2)], by decide +kernel⟩,
   ⟨3, [], none, imgV, (({ stagedF true [(IMG_STATE_STATE, 2)] with staging := some imgV }).at 3).write (4096 + 384) [], leNat ((sha256 (List.replicate 64 0)).take 16), { ((({ stagedF true [(IMG_STATE_STATE, 2)] with staging := some imgV }).at 3).write (4096 + 384) []).setf IMG_STATE_STATE 3 with topoDigest := leNat ((sha256 (List.replicate 64 0)).take 16) }, { stagedF true [(IMG_STATE_STATE, 2)] with staging := some imgV }, by decide +kernel⟩⟩

theorem wit_ArrivalsArePosted :
    (∃ (s : State), s.active = true ∧ s.failSolo = false ∧ s.qdr.excluded = false ∧ s.qdr.member = none ∧ s.qdr.own = none ∧ s.pav.lfeDone = true ∧ s.pav.faulted = false ∧ s.pav.waitDead = false ∧ s.pav.stopped = false ∧ ((∀ x ∈ s.tx, x.flit.frame ≠ s.jobFrame % 2 ^ 32)) ∧ ((∀ m ∈ s.ctrlQ, isMirror m.2 = false)) ∧ s.b QDR_TREE_IS_ROOT = false ∧ s.qdr.kids = [] ∧ s.qdr.sent = false) ∧
    (∃ (t : Nat) (s : State), s.active = true ∧ s.failSolo = false ∧ s.qdr.excluded = false ∧ s.qdr.member = none ∧ s.qdr.own = none ∧ s.pav.lfeDone = true ∧ s.pav.faulted = false ∧ s.pav.waitDead = false ∧ s.pav.stopped = false ∧ ((∀ x ∈ s.tx, x.flit.frame ≠ s.jobFrame % 2 ^ 32)) ∧ ((∀ m ∈ s.ctrlQ, isMirror m.2 = false)) ∧ s.b QDR_TREE_IS_ROOT = true ∧ (s.at t).windowShut = false ∧ s.qdr.kids = [] ∧ s.qdr.got = [] ∧ s.qdr.done ≠ some s.jobFrame ∧ s.txnPend = []) ∧
    (∃ (t : Nat) (s : State), s.active = true ∧ s.failSolo = false ∧ s.qdr.excluded = false ∧ s.qdr.member = none ∧ s.qdr.own = none ∧ s.pav.lfeDone = true ∧ s.pav.faulted = false ∧ s.pav.waitDead = false ∧ s.pav.stopped = false ∧ ((∀ x ∈ s.tx, x.flit.frame ≠ s.jobFrame % 2 ^ 32)) ∧ ((∀ m ∈ s.ctrlQ, isMirror m.2 = false)) ∧ s.b QDR_TREE_IS_ROOT = true ∧ (s.at t).windowShut = true) ∧
    (∃ (s : State), s.pav.faulted = true) :=
  ⟨⟨{ act with pav := { lfeDone := true } }, by decide +kernel⟩,
   ⟨3, { actF [(QDR_TREE_IS_ROOT, 1)] with pav := { lfeDone := true } }, by decide +kernel⟩,
   ⟨100000000, { actF [(QDR_TREE_IS_ROOT, 1)] with pav := { lfeDone := true }, qdr := { kids := [(5, [2])] } }, by decide +kernel⟩,
   ⟨{ act with pav := { faulted := true } }, by decide +kernel⟩⟩

theorem wit_BarriersComplete :
    (∃ (p : Nat) (f : Flit) (m : Qmsg) (s : State), flitTaken s p 3 f ∧ m = qmsgOf f.payload ∧ m.kind = 1 ∧ s.active = true ∧ s.failSolo = false ∧ m.jobId = s.f QDR_JOB_JOB_ID ∧ m.frame < s.barFrame) ∧
    (∃ (t p : Nat) (f : Flit) (m : Qmsg) (s : State), flitTaken s p 3 f ∧ m = qmsgOf f.payload ∧ m.kind = 1 ∧ s.active = true ∧ s.failSolo = false ∧ m.jobId = s.f QDR_JOB_JOB_ID ∧ m.frame = s.barFrame ∧ s.qdr.done ≠ some s.barFrame ∧ s.b QDR_TREE_IS_ROOT = true ∧ (s.at t).windowShut = true ∧ m.join = false) ∧
    (∃ (p : Nat) (f : Flit) (m : Qmsg) (s : State), flitTaken s p 3 f ∧ m = qmsgOf f.payload ∧ m.kind = 1 ∧ s.active = true ∧ s.failSolo = false ∧ m.jobId = s.f QDR_JOB_JOB_ID ∧ m.frame = s.barFrame ∧ s.qdr.done ≠ some s.barFrame ∧ s.b QDR_TREE_IS_ROOT = false ∧ s.qdr.sent = false ∧ m.join = false ∧ s.qdr.got = [] ∧ s.qdr.own = none) ∧
    (∃ (t p : Nat) (f : Flit) (m o : Qmsg) (ms : List Nat) (s : State), flitTaken s p 3 f ∧ m = qmsgOf f.payload ∧ m.kind = 1 ∧ s.active = true ∧ s.failSolo = false ∧ m.jobId = s.f QDR_JOB_JOB_ID ∧ m.frame = s.jobFrame ∧ s.qdr.member = none ∧ s.qdr.done ≠ some s.jobFrame ∧ s.b QDR_TREE_IS_ROOT = true ∧ (s.at t).windowShut = false ∧ m.join = false ∧ m.part = false ∧ s.qdr.got = [] ∧ s.qdr.own = some o ∧ s.qdr.kids = [(p, ms)] ∧ s.txnPend = []) ∧
    (∃ (p : Nat) (f : Flit) (m : Qmsg) (s : State), flitTaken s p 3 f ∧ m = qmsgOf f.payload ∧ m.kind = 2 ∧ s.active = true ∧ s.failSolo = false ∧ m.jobId = s.f QDR_JOB_JOB_ID ∧ m.frame = s.jobFrame ∧ s.qdr.member = none ∧ s.qdr.done ≠ some s.jobFrame ∧ s.txnPend = []) ∧
    (∃ (p : Nat) (f : Flit) (m : Qmsg) (s : State), flitTaken s p 3 f ∧ m = qmsgOf f.payload ∧ m.kind = 7 ∧ s.active = true ∧ s.failSolo = false ∧ m.jobId = s.f QDR_JOB_JOB_ID ∧ s.b QDR_TREE_IS_ROOT = true ∧ s.barFrame ≤ m.frame) :=
  ⟨⟨3, qF { kind := 1 }, { kind := 1 }, linkF [(PAV_FRAME_FRAME_NUM, 5)], by unfold flitTaken; decide +kernel⟩,
   ⟨100000000, 3, qF { kind := 1 }, { kind := 1 }, { linkF [(QDR_TREE_IS_ROOT, 1)] with pav := { lfeDone := true } }, by unfold flitTaken; decide +kernel⟩,
   ⟨3, qF { kind := 1 }, { kind := 1 }, linkF [], by unfold flitTaken; decide +kernel⟩,
   ⟨3, 3, qF { kind := 1, arrived := 1 }, { kind := 1, arrived := 1 }, { kind := 1, arrived := 1 }, [2], { linkF [(QDR_TREE_IS_ROOT, 1)] with qdr := { own := some { kind := 1, arrived := 1 }, kids := [(3, [2])] } }, by unfold flitTaken; decide +kernel⟩,
   ⟨3, qF { kind := 2, skip := true, level := 3 }, { kind := 2, skip := true, level := 3 }, linkF [], by unfold flitTaken; decide +kernel⟩,
   ⟨3, qF { kind := 7, member := 2 }, { kind := 7, member := 2 }, linkF [(QDR_TREE_IS_ROOT, 1)], by unfold flitTaken; decide +kernel⟩⟩

theorem wit_MissingMembersStartRounds :
    (∃ (t : Nat) (s : State), s.active = true ∧ s.failSolo = false ∧ s.b QDR_TREE_IS_ROOT = false ∧ s.qdr.kids ≠ [] ∧ s.qdr.sent = false ∧ s.barDone = false ∧ s.windowSet = true ∧ s.windowClose ≤ max s.now t + s.f QDR_TREE_DEPTH * s.f QDR_CFG_HOP_GUARD_NS) ∧
    (∃ (t : Nat) (i : Instr) (x : Nat) (tp : Topo) (s : State), ((i = .windowClose t ∧ s.qdr.member = none ∧ s.pav.stopped = false) ∨ (i = .restoreWindowClose t ∧ s.qdr.member.isSome = true)) ∧ s.isQRoot = true ∧ s.barDone = false ∧ (s.at t).windowShut = true ∧ s.topo = some tp ∧ s.missing = [x] ∧ s.saidMany = false ∧ s.qdr.held = [] ∧ s.qdr.mine = [] ∧ x ≠ tp.self ∧ x ∉ s.qdr.leaving ∧ s.beyond x = false ∧ s.qdr.excluded = false) ∧
    (∃ (t : Nat) (i : Instr) (x : Nat) (tp : Topo) (s : State), ((i = .windowClose t ∧ s.qdr.member = none ∧ s.pav.stopped = false) ∨ (i = .restoreWindowClose t ∧ s.qdr.member.isSome = true)) ∧ s.isQRoot = true ∧ s.barDone = false ∧ (s.at t).windowShut = true ∧ s.topo = some tp ∧ s.missing = [x] ∧ s.saidMany = false ∧ s.qdr.held = [] ∧ s.qdr.mine = [] ∧ x ≠ tp.self ∧ x ∉ s.qdr.leaving ∧ s.beyond x = true) ∧
    (∃ (s : State), s.barDone = true) ∧
    (∃ (t : Nat) (tp : Topo) (s : State), s.topo = some tp ∧ s.active = true ∧ s.failSolo = false ∧ s.b QDR_TREE_IS_ROOT = false ∧ s.qdr.member = none ∧ s.pav.lfeDone = true ∧ s.barDone = false ∧ s.qdr.lostSent = false ∧ s.lfeAt + 2 * s.f QDR_CFG_WINDOW_NS ≤ max s.now t ∧ tp.standby ≠ tp.self) :=
  ⟨⟨100000000, { linkF [(QDR_TREE_PARENT, 3)] with pav := { lfeDone := true }, qdr := { kids := [(5, [2])] } }, by decide +kernel⟩,
   ⟨100000000, .windowClose 100000000, 2, topo0, rootF imgR, by decide +kernel⟩,
   ⟨100000000, .windowClose 100000000, 2, topo0, rootF img0, by decide +kernel⟩,
   ⟨{ act with qdr := { done := some 0 } }, by decide +kernel⟩,
   ⟨100000000, { topo0 with standby := 0 }, { act with img := some { img0 with topo := { topo0 with standby := 0 } }, pav := { lfeDone := true } }, by decide +kernel⟩⟩

theorem wit_AbortRoundsRunAndEnd :
    (∃ (p : Nat) (f : Flit) (m : Qmsg) (s : State), flitTaken s p 3 f ∧ m = qmsgOf f.payload ∧ m.kind = 3 ∧ s.active = true ∧ s.failSolo = false ∧ m.bcast = true ∧ s.b QDR_TREE_IS_ROOT = false ∧ s.qdr.mine = [] ∧ s.qdr.excluded = false ∧ bits m.cause 0 8 ≠ 5 ∧ faultClass (bits m.cause 8 8) (bits m.cause 16 4) < 6) ∧
    (∃ (p : Nat) (f : Flit) (m : Qmsg) (s : State), flitTaken s p 3 f ∧ m = qmsgOf f.payload ∧ m.kind = 3 ∧ s.active = true ∧ s.failSolo = false ∧ m.bcast = true ∧ s.b QDR_TREE_IS_ROOT = false ∧ s.qdr.mine = [] ∧ bits m.cause 0 8 = 5) ∧
    (∃ (p : Nat) (f : Flit) (m : Qmsg) (x : Round) (s : State), flitTaken s p 3 f ∧ m = qmsgOf f.payload ∧ m.kind = 3 ∧ s.active = true ∧ s.failSolo = false ∧ m.bcast = false ∧ s.b QDR_TREE_IS_ROOT = true ∧ s.qdr.round = some x ∧ x.ended = false) ∧
    (∃ (p : Nat) (f : Flit) (m : Qmsg) (x : Round) (s : State), flitTaken s p 3 f ∧ m = qmsgOf f.payload ∧ m.kind = 4 ∧ s.isQRoot = true ∧ m.jobId = s.f QDR_JOB_JOB_ID ∧ s.qdr.round = some x ∧ x.ended = false ∧ m.frame + 1 = x.s ∧ x.later = [] ∧ s.qdr.own = none) ∧
    (∃ (t : Nat) (x : Round) (i : Nat) (tp : Topo) (s : State), s.isQRoot = true ∧ s.qdr.round = some x ∧ x.ended = false ∧ x.first + 1000 * s.f RCV_CFG_ACK_WAIT_US ≤ max s.now t ∧ s.alive.filter (fun k => !x.acked.contains k) = [i] ∧ s.topo = some tp ∧ i ≠ tp.self ∧ i ∉ s.qdr.leaving ∧ s.beyond i = false ∧ x.later = [] ∧ s.qdr.own = none) ∧
    (∃ (bk src : Nat) (s : State), s.active = true ∧ s.failSolo = false ∧ s.qdr.excluded = false ∧ s.qdr.member.isSome = true ∧ s.f RCV_STATE_STATE = 3 ∧ s.qdr.own = none ∧ s.badBanks.contains bk = true ∧ src + 65536 ≤ 2 ^ 39 ∧ s.b QDR_TREE_IS_ROOT = false ∧ s.qdr.kids = [] ∧ s.qdr.sent = false) :=
  ⟨⟨3, qF { kind := 3, bcast := true, cause := 1 + 0x1300, frame := 4, aux := 2 }, { kind := 3, bcast := true, cause := 1 + 0x1300, frame := 4, aux := 2 }, linkF [(PAV_FRAME_FRAME_NUM, 3)], by unfold flitTaken; decide +kernel⟩,
   ⟨3, qF { kind := 3, bcast := true, cause := 5 }, { kind := 3, bcast := true, cause := 5 }, linkF [(PAV_FRAME_FRAME_NUM, 3)], by unfold flitTaken; decide +kernel⟩,
   ⟨3, qF { kind := 3, member := 2 }, { kind := 3, member := 2 }, ⟨1, 5, 0, 0, [1], false, 0, [], []⟩, roundF ⟨1, 5, 0, 0, [1], false, 0, [], []⟩, by unfold flitTaken; decide +kernel⟩,
   ⟨3, qF { kind := 4, frame := 4, member := 2 }, { kind := 4, frame := 4, member := 2 }, ⟨1, 5, 0, 0, [1], false, 0, [], []⟩, roundF ⟨1, 5, 0, 0, [1], false, 0, [], []⟩, by unfold flitTaken; decide +kernel⟩,
   ⟨100000000, ⟨1, 5, 0, 0, [0, 1], false, 0, [], []⟩, 2, topo0, { roundF ⟨1, 5, 0, 0, [0, 1], false, 0, [], []⟩ with qdr := { round := some ⟨1, 5, 0, 0, [0, 1], false, 0, [], []⟩ } }, by decide +kernel⟩,
   ⟨17, 4096, { actF [(RCV_STATE_STATE, 3), (PAV_FRAME_FRAME_NUM, 3)] with qdr := { member := some (1, 5), mine := [⟨2, 0x10, 3, 1, 65536, 0, 0, 0⟩] } }, by decide +kernel⟩⟩

theorem wit_StartRoundsDecide :
    (∃ (p : Nat) (f : Flit) (m : Qmsg) (tp : Topo) (s : State), flitTaken s p 3 f ∧ m = qmsgOf f.payload ∧ m.kind = 5 ∧ s.newTopo = some tp ∧ m.jobId = tp.jobId ∧ s.qdr.startSent = false ∧ s.qdr.startVotes = []) ∧
    (∃ (p : Nat) (f : Flit) (m : Qmsg) (tp : Topo) (x : TxnPend) (s : State), flitTaken s p 3 f ∧ m = qmsgOf f.payload ∧ m.kind = 6 ∧ s.newTopo = some tp ∧ m.jobId = tp.jobId ∧ s.txnPend = [x] ∧ isStart x = true ∧ m.votes.any (fun v => v.req == x.q.code && v.id == x.id && v.state == 2) = true) ∧
    (∃ (p : Nat) (f : Flit) (m : Qmsg) (tp : Topo) (x : TxnPend) (s : State), flitTaken s p 3 f ∧ m = qmsgOf f.payload ∧ m.kind = 6 ∧ s.newTopo = some tp ∧ m.jobId = tp.jobId ∧ s.txnPend = [x] ∧ isStart x = true ∧ m.votes.any (fun v => v.req == x.q.code && v.id == x.id && v.state == 2) = false ∧ x.q ≠ .larkspur) ∧
    (∃ (t a : Nat) (tp : Topo) (x : TxnPend) (s : State), s.newTopo = some tp ∧ s.qdr.startFirst = some a ∧ tp.self = tp.root ∧ s.qdr.startGo = false ∧ a + tp.startWait * 1000000000 ≤ max s.now t ∧ s.txnPend = [x] ∧ isStart x = true ∧ x.q ≠ .larkspur) :=
  ⟨⟨3, qF { kind := 5, jobId := 9 }, { kind := 5, jobId := 9 }, topo0, startF topo0 [], by unfold flitTaken; decide +kernel⟩,
   ⟨3, qF { kind := 6, jobId := 9, votes := [⟨1, 2, 7, 0, 0, 3⟩] }, { kind := 6, jobId := 9, votes := [⟨1, 2, 7, 0, 0, 3⟩] }, topo0, startP, { startF topo0 [] with txnPend := [startP] }, by unfold flitTaken; decide +kernel⟩,
   ⟨3, qF { kind := 6, jobId := 9, votes := [⟨1, 3, 7, 0, 0, 3⟩] }, { kind := 6, jobId := 9, votes := [⟨1, 3, 7, 0, 0, 3⟩] }, topo0, startP, { startF topo0 [] with txnPend := [startP] }, by unfold flitTaken; decide +kernel⟩,
   ⟨100000000000, 5, { topo0 with self := 0 }, startP, { startF { topo0 with self := 0 } [] with txnPend := [startP], qdr := { startFirst := some 5 } }, by decide +kernel⟩⟩

theorem wit_FlitsAreCheckedAndReplayed :
    (∃ (p : Nat) (f : Flit) (s : State), flitTaken s p 1 f ∧ (s.staged.filter (fun x => x.1 = p)).length < 512 ∧ (f.frame + 2 ^ 32 - s.jobFrame % 2 ^ 32) % 2 ^ 32 ≤ 1 ∧ f.dst = s.f FAB_ID_PKG_ID) ∧
    (∃ (p : Nat) (f : Flit) (s : State), flitTaken s p 1 f ∧ 512 ≤ (s.staged.filter (fun x => x.1 = p)).length) ∧
    (∃ (p : Nat) (f : Flit) (s : State), flitTaken s p 1 f ∧ (s.staged.filter (fun x => x.1 = p)).length < 512 ∧ 2 ^ 31 ≤ (f.frame + 2 ^ 32 - s.jobFrame % 2 ^ 32) % 2 ^ 32) ∧
    (∃ (p : Nat) (f : Flit) (s : State), flitTaken s p 1 f ∧ (s.staged.filter (fun x => x.1 = p)).length < 512 ∧ (f.frame + 2 ^ 32 - s.jobFrame % 2 ^ 32) % 2 ^ 32 ≤ 1 ∧ f.dst ≠ s.f FAB_ID_PKG_ID) ∧
    (∃ (p : Nat) (f : Flit) (s : State), p < 72 ∧ f.typ % 16 = 1 ∧ s.portUp p = true ∧ f.crc ≠ crc32 (flitBody f)) ∧
    (∃ (p : Nat), p < 72) ∧
    (∃ (p : Nat) (f : Flit) (s : State), p < 72 ∧ f.typ % 16 = 2 ∧ s.portUp p = true ∧ f.crc = crc32 (flitBody f) ∧ f.nak = 0xFFFFFFFF ∧ (s.prt p).farEp = some f.epoch) ∧
    (∃ (p : Nat) (f : Flit) (x : TxFlit) (s : State), p < 72 ∧ f.typ % 16 = 2 ∧ s.portUp p = true ∧ f.crc = crc32 (flitBody f) ∧ (s.prt p).farEp = some f.epoch ∧ s.tx = [x] ∧ x.port = p ∧ x.flit.seq = f.nak ∧ f.nak ≠ 0xFFFFFFFF ∧ seqLe x.flit.seq f.ack = false ∧ x.tries < 4 ∧ x.ctrl = none) ∧
    (∃ (t p : Nat) (x : TxFlit) (s : State), p < 72 ∧ s.portUp p = true ∧ (s.txOf p).find? (fun (y : TxFlit) => decide (y.due ≤ max s.now t)) = some x ∧ x.tries < 4) ∧
    (∃ (t p : Nat) (x : TxFlit) (s : State), p < 72 ∧ s.portUp p = true ∧ (s.txOf p).find? (fun (y : TxFlit) => decide (y.due ≤ max s.now t)) = some x ∧ 4 ≤ x.tries) :=
  ⟨⟨3, flitF 1 [1, 2], linkF [(FAB_ID_PKG_ID, 0)], by unfold flitTaken; decide +kernel⟩,
   ⟨3, flitF 1 [1, 2], { linkF [] with staged := List.replicate 512 (3, flitF 1 []) }, by unfold flitTaken; decide +kernel⟩,
   ⟨3, flitF 1 [1, 2], linkF [(PAV_FRAME_FRAME_NUM, 3)], by unfold flitTaken; decide +kernel⟩,
   ⟨3, flitF 1 [1, 2], linkF [], by unfold flitTaken; decide +kernel⟩,
   ⟨3, { typ := 1 }, linkF [], by decide +kernel⟩,
   ⟨71, by decide +kernel⟩,
   ⟨3, sealFlit { typ := 2, ack := 9 }, { linkF [] with tx := [⟨3, { typ := 1, seq := 9 }, 1, 900, none⟩, ⟨3, { typ := 1, seq := 10 }, 1, 900, none⟩] }, by decide +kernel⟩,
   ⟨3, sealFlit { typ := 2, ack := 8, nak := 9 }, ⟨3, { typ := 1, seq := 9 }, 1, 900, none⟩, { linkF [] with tx := [⟨3, { typ := 1, seq := 9 }, 1, 900, none⟩] }, by decide +kernel⟩,
   ⟨900, 3, ⟨3, { typ := 1, seq := 9 }, 3, 900, none⟩, { linkF [] with tx := [⟨3, { typ := 1, seq := 9 }, 3, 900, none⟩] }, by decide +kernel⟩,
   ⟨900, 3, ⟨3, { typ := 1, seq := 9 }, 4, 900, none⟩, { linkF [] with tx := [⟨3, { typ := 1, seq := 9 }, 4, 900, none⟩] }, by decide +kernel⟩⟩

theorem wit_ControlFlitsAreDelivered :
    (∃ (p : Nat) (f : Flit) (s : State), flitTaken s p 5 f ∧ f.dst = s.f FAB_ID_PKG_ID) ∧
    (∃ (p : Nat) (f : Flit) (s : State), flitTaken s p 5 f ∧ f.dst = s.f FAB_ID_PKG_ID) ∧
    (∃ (p : Nat) (f : Flit) (s : State), flitTaken s p 5 f ∧ f.dst = s.f FAB_ID_PKG_ID) ∧
    (∃ (p : Nat) (f : Flit) (scope tag : Nat) (r : Req) (s : State), flitTaken s p 5 f ∧ f.dst = s.f FAB_ID_PKG_ID ∧ s.req scope tag = some r) ∧
    (∃ (p : Nat) (f : Flit) (s : State), flitTaken s p 5 f ∧ f.dst ≠ s.f FAB_ID_PKG_ID ∧ (s.active = true ∨ f.dst / 32 ≠ s.f FAB_ID_PKG_ID / 32)) ∧
    (∃ (p : Nat) (f : Flit) (o : Nat) (s : State), flitTaken s p 5 f ∧ s.relays f = true ∧ o = s.onPort (s.rackPort f.dst) ∧ s.b (FAB_PCTL_DRAINING o) = false ∧ (s.prt o).farJob = 0 ∧ (s.txOf o).length < 4096) :=
  ⟨⟨3, flitF 5 [], linkF [(FAB_ID_PKG_ID, 0)], by unfold flitTaken; decide +kernel⟩,
   ⟨3, flitF 5 [], linkF [(FAB_ID_PKG_ID, 0)], by unfold flitTaken; decide +kernel⟩,
   ⟨3, flitF 5 [], linkF [(FAB_ID_PKG_ID, 0)], by unfold flitTaken; decide +kernel⟩,
   ⟨3, flitF 5 [], 0xFFFFF, 1, reqA, { linkF [(FAB_ID_PKG_ID, 0)] with reqs := [reqA] }, by unfold flitTaken; decide +kernel⟩,
   ⟨3, flitF 5 [], linkF [], by unfold flitTaken; decide +kernel⟩,
   ⟨3, flitTo 5 9 [], 3, poolS [], by unfold flitTaken; decide +kernel⟩⟩

theorem wit_BeaconsAndCablePlan :
    (∃ (p : Nat) (s : State), s.power = .on ∧ p < 72 ∧ s.f FAB_ID_PKG_ID ≠ 0xFFFFF) ∧
    (∃ (p : Nat) (f : Flit) (s : State), p < 72 ∧ f.typ % 16 = 4 ∧ s.portUp p = true ∧ f.crc = crc32 (flitBody f) ∧ (s.prt p).farEp = some f.epoch ∧ f.nak = 0xFFFFFFFF ∧ s.newTopo = none) ∧
    (∃ (t : Nat) (q : Requester) (a : Nat) (s : State), (s.at t).gate q 0x600010 = none ∧ s.owns q 0x600010 = true ∧ a % 64 = 0 ∧ a % 2 ^ 42 + 576 ≤ 2 ^ 39 ∧ s.newTopo = none) ∧
    (∃ (t : Nat) (q : Requester) (a : Nat) (s : State), (s.at t).gate q 0x600010 = none ∧ s.owns q 0x600010 = true ∧ a % 64 ≠ 0) ∧
    (∃ (t a : Nat) (s : State), s.planAt = some a ∧ a + 2000000000 ≤ max s.now t ∧ s.f FAB_ID_PKG_ID ≠ 0xFFFFF) ∧
    (∃ (t a : Nat) (s : State), s.planAt = some a ∧ max s.now t < a + 2000000000) :=
  ⟨⟨3, { linkF [(FAB_ID_PKG_ID, 0)] with ports := [(3, { farEp := some 0 })] }, by decide +kernel⟩,
   ⟨3, sealFlit { typ := 4, payload := [1, 0, 2] }, linkF [], by decide +kernel⟩,
   ⟨3, .larkspur, 4096, on, by decide +kernel⟩,
   ⟨3, .larkspur, 4100, on, by decide +kernel⟩,
   ⟨2000000000, 0, { onF [(FAB_ID_PKG_ID, 0)] with planAt := some 0 }, by decide +kernel⟩,
   ⟨1999999999, 0, { onF [(FAB_ID_PKG_ID, 0)] with planAt := some 0 }, by decide +kernel⟩⟩

theorem wit_PortsTrainAndDrain :
    (∃ (p : Nat) (s : State), s.power = .on ∧ p < 72 ∧ 2 ≤ s.f (FAB_PSTAT_STATE p)) ∧
    (∃ (p : Nat) (s : State), s.power = .on ∧ p < 72 ∧ s.f (FAB_PSTAT_STATE p) ≤ 1 ∧ s.mayTrain p = true) ∧
    (∃ (p rtt : Nat) (s : State), s.power = .on ∧ p < 72 ∧ s.f (FAB_PSTAT_STATE p) = 2 ∧ ((64 ≤ p → s.b (FAB_SPARE_EN (p - 64)) = false)) ∧ rtt ≤ 5200) ∧
    (∃ (p rtt : Nat) (s : State), s.power = .on ∧ p < 72 ∧ s.f (FAB_PSTAT_STATE p) = 2 ∧ ((64 ≤ p → s.b (FAB_SPARE_EN (p - 64)) = false)) ∧ 5200 < rtt) ∧
    (∃ (t : Nat) (q : Requester) (p : Nat) (en : Bool) (s : State), p < 72 ∧ (s.at t).gate q (portRegs p + 8) = none ∧ s.owns q (portRegs p + 8) = true ∧ ((en = false → ¬ ((p < 64 ∨ s.b (FAB_SPARE_EN (p - 64)) = true) ∧ s.portInUse p = true)))) ∧
    (∃ (t : Nat) (q : Requester) (p : Nat) (s : State), p < 72 ∧ (s.at t).gate q (portRegs p + 8) = none ∧ s.owns q (portRegs p + 8) = true ∧ ((p < 64 ∨ s.b (FAB_SPARE_EN (p - 64)) = true)) ∧ s.portInUse p = true) ∧
    (∃ (p : Nat) (s : State), p < 72 ∧ s.b (FAB_PCTL_DRAINING p) = true ∧ s.txOf p = []) ∧
    (∃ (p : Nat) (s : State), 64 ≤ p ∧ p < 72 ∧ s.b (FAB_SPARE_EN (p - 64)) = true ∧ s.f (FAB_PSTAT_STATE p) = 2) ∧
    (∃ (p : Nat) (s : State), p < 64 ∧ s.f (FAB_PSTAT_STATE p) = 3) ∧
    (∃ (t p d : Nat) (s : State), (s.prt p).standAt = some d ∧ d ≤ max s.now t) :=
  ⟨⟨71, onF [(FAB_PSTAT_STATE 71, 2)], by decide +kernel⟩,
   ⟨63, onF [(FAB_PSTAT_STATE 63, 1)], by decide +kernel⟩,
   ⟨63, 5200, onF [(FAB_PSTAT_STATE 63, 2)], by decide +kernel⟩,
   ⟨71, 5201, onF [(FAB_PSTAT_STATE 71, 2)], by decide +kernel⟩,
   ⟨3, .larkspur, 71, false, on, by decide +kernel⟩,
   ⟨3, .larkspur, 3, actF [(QDR_TREE_PARENT, 3)], by decide +kernel⟩,
   ⟨0, onF [(FAB_PCTL_DRAINING 0, 1)], by decide +kernel⟩,
   ⟨64, onF [(FAB_SPARE_EN 0, 1), (FAB_PSTAT_STATE 64, 2)], by decide +kernel⟩,
   ⟨63, onF [(FAB_PSTAT_STATE 63, 3)], by decide +kernel⟩,
   ⟨9, 64, 9, { onF [(FAB_SPARE_EN 0, 1)] with ports := [(64, { standAt := some 9 })] }, by decide +kernel⟩⟩

theorem wit_PartsResetAndPower :
    (∃ (link : Nat) (s : State), s.power = .on ∧ crossing link = true) ∧
    (∃ (n : Nat) (s : State), s.power = .on ∧ n < 32 ∧ n ∉ s.pllLost) ∧
    (∃ (n : Nat) (s : State), n ∈ s.pllLost) ∧
    (∃ (t : Nat) (q : Requester) (k i : Nat) (s : State), (s.at t).gate q 0xA00058 = none ∧ s.owns q 0xA00058 = true ∧ (k, i) = s.epSel q ∧ k < 3) ∧
    (∃ (t : Nat) (q : Requester) (k i : Nat) (s : State), (s.at t).gate q 0xA00058 = none ∧ s.owns q 0xA00058 = true ∧ (k, i) = s.epSel q ∧ k < 3 ∧ s.active = true) ∧
    (∃ (k i : Nat) (s : State), k < 4 ∧ s.b (RCV_EPDATA_IN_RESET k i) = true) ∧
    (∃ (t : Nat) (q : Requester) (v : Word) (c n : Nat) (s : State), (s.at t).gate q 0xA00068 = none ∧ s.owns q 0xA00068 = true ∧ c = s.f ⟨selCopy 0xA00060 q.code, 0, 10⟩ ∧ ((∀ k, k < 18 → v.toNat.testBit k = false → s.usesUnit c k = false)) ∧ n < 18) ∧
    (∃ (t : Nat) (q : Requester) (v : Word) (c n : Nat) (s : State), (s.at t).gate q 0xA00068 = none ∧ s.owns q 0xA00068 = true ∧ c = s.f ⟨selCopy 0xA00060 q.code, 0, 10⟩ ∧ n < 18 ∧ v.toNat.testBit n = false ∧ s.usesUnit c n = true) ∧
    (∃ (c n : Nat) (s : State), c < 1024 ∧ n < 18 ∧ s.b (upDraining c n) = true ∧ ((∀ h ∈ s.held, h.group < 16))) :=
  ⟨⟨29, on, by decide +kernel⟩,
   ⟨31, on, by decide +kernel⟩,
   ⟨31, { on with pllLost := [31] }, by decide +kernel⟩,
   ⟨3, .larkspur, 1, 5, onF [(⟨selCopy 0xA00050 2, 16, 2⟩, 1), (⟨selCopy 0xA00050 2, 0, 13⟩, 5)], by decide +kernel⟩,
   ⟨3, .larkspur, 1, 5, actF [(⟨selCopy 0xA00050 2, 16, 2⟩, 1), (⟨selCopy 0xA00050 2, 0, 13⟩, 5)], by decide +kernel⟩,
   ⟨0, 9, onF [(RCV_EPDATA_IN_RESET 0 9, 1)], by decide +kernel⟩,
   ⟨3, .larkspur, 5, 9, 17, onF [(⟨selCopy 0xA00060 2, 0, 10⟩, 9)], by decide +kernel⟩,
   ⟨3, .larkspur, 0x20000, 0, 16, act, by decide +kernel⟩,
   ⟨9, 17, onF [(upDraining 9 17, 1)], by decide +kernel⟩⟩

theorem wit_PooledMemoryIsServedAndAsked :
    (∃ (p : Nat) (f : Flit) (m : Pool) (lines : List Nat) (s : State), flitTaken s p 6 f ∧ f.dst = s.f FAB_ID_PKG_ID ∧ m = poolOf f.payload ∧ m.op = 1 ∧ s.poolCode m lines = 0 ∧ s.onPort p = p ∧ s.b (FAB_PCTL_DRAINING p) = false ∧ (s.txOf p).length < 4096 ∧ (s.prt p).farJob = 0) ∧
    (∃ (p : Nat) (f : Flit) (m : Pool) (lines : List Nat) (s : State), flitTaken s p 6 f ∧ f.dst = s.f FAB_ID_PKG_ID ∧ m = poolOf f.payload ∧ m.op = 1 ∧ s.poolCode m lines ≠ 0) ∧
    (∃ (p : Nat) (f : Flit) (m : Pool) (a : Nat) (s : State), flitTaken s p 6 f ∧ f.dst = s.f FAB_ID_PKG_ID ∧ m = poolOf f.payload ∧ m.op = 2 ∧ a = tierAddr (bits m.gaddr 42 2 == 1) (m.gaddr % 2 ^ 42) ∧ s.poolCode m [] = 0) ∧
    (∃ (p : Nat) (f : Flit) (m : Pool) (s : State), flitTaken s p 6 f ∧ f.dst = s.f FAB_ID_PKG_ID ∧ m = poolOf f.payload ∧ m.op = 2 ∧ s.poolCode m [] ≠ 0) ∧
    (∃ (t : Nat) (i : Instr) (op : Nat) (q : Requester) (slot p : Nat) (s : State), ((op = 1 ∧ i = .poolCmdRead t q slot) ∨ (op = 2 ∧ i = .poolCmdWrite t q slot)) ∧ slot < 8 ∧ (s.at t).gate q (pqSlot slot + 0x18) = none ∧ s.owns q (pqSlot slot + 0x18) = true ∧ s.poolMay slot = true ∧ (s.at t).poolPort slot = some p ∧ s.f (MEM_PQLEN_LEN slot) ≤ 192) ∧
    (∃ (t : Nat) (i : Instr) (q : Requester) (slot : Nat) (s : State), (i = .poolCmdRead t q slot ∨ i = .poolCmdWrite t q slot) ∧ slot < 8 ∧ (s.at t).gate q (pqSlot slot + 0x18) = none ∧ s.owns q (pqSlot slot + 0x18) = true ∧ s.poolMay slot = false) ∧
    (∃ (t : Nat) (i : Instr) (q : Requester) (slot : Nat) (s : State), (i = .poolCmdRead t q slot ∨ i = .poolCmdWrite t q slot) ∧ slot < 8 ∧ (s.at t).gate q (pqSlot slot + 0x18) = none ∧ s.owns q (pqSlot slot + 0x18) = true ∧ s.poolMay slot = true ∧ (s.at t).poolPort slot = none) ∧
    (∃ (p : Nat) (f : Flit) (m : Pool) (slot tag off n at_ o asked : Nat) (parts : List (Nat × Nat)) (s : State), flitTaken s p 6 f ∧ f.dst = s.f FAB_ID_PKG_ID ∧ m = poolOf f.payload ∧ m.op = 3 ∧ m.status = 0 ∧ m.tag = tag ∧ slot < 8 ∧ s.pool = [(slot, ⟨1, asked, [(tag, off, n, at_, o)], parts, false, 0⟩)] ∧ s.f (MEM_PQLEN_LEN slot) ≤ asked) ∧
    (∃ (p : Nat) (f : Flit) (m : Pool) (slot tag off n at_ o asked : Nat) (parts : List (Nat × Nat)) (s : State), flitTaken s p 6 f ∧ f.dst = s.f FAB_ID_PKG_ID ∧ m = poolOf f.payload ∧ m.op = 4 ∧ m.status = 0 ∧ m.tag = tag ∧ slot < 8 ∧ s.pool = [(slot, ⟨2, asked, [(tag, off, n, at_, o)], parts, false, 0⟩)] ∧ s.f (MEM_PQLEN_LEN slot) ≤ asked) ∧
    (∃ (t : Nat) (q : Requester) (slot : Nat) (r : PoolRun) (s : State), slot < 8 ∧ (s.at t).gate q (pqSlot slot + 0x18) = none ∧ s.owns q (pqSlot slot + 0x18) = true ∧ s.poolRun slot = some r) ∧
    (∃ (t slot : Nat) (r : PoolRun) (s : State), slot < 8 ∧ s.poolRun slot = some r ∧ ((∃ w ∈ r.wait, w.2.2.2.1 + 10000000 ≤ max s.now t))) :=
  ⟨⟨3, flitTo 6 5 (poolBytes ⟨1, 0, 1, 8, 5 * 2 ^ 44 + 128, 6, List.replicate 64 0⟩), ⟨1, 0, 1, 8, 5 * 2 ^ 44 + 128, 6, List.replicate 64 0⟩, [], poolS [], by unfold flitTaken; decide +kernel⟩,
   ⟨3, flitTo 6 5 (poolBytes ⟨1, 0, 1, 8, 5 * 2 ^ 44 + 128, 6, List.replicate 64 0⟩), ⟨1, 0, 1, 8, 5 * 2 ^ 44 + 128, 6, List.replicate 64 0⟩, [191], poolS [], by unfold flitTaken; decide +kernel⟩,
   ⟨3, flitTo 6 5 (poolBytes ⟨2, 0, 1, 8, 5 * 2 ^ 44 + 128, 6, List.replicate 64 7⟩), ⟨2, 0, 1, 8, 5 * 2 ^ 44 + 128, 6, List.replicate 64 7⟩, 128, poolS [], by unfold flitTaken; decide +kernel⟩,
   ⟨3, flitTo 6 5 (poolBytes ⟨2, 0, 1, 8, 5 * 2 ^ 44 + 65536, 6, List.replicate 64 7⟩), ⟨2, 0, 1, 8, 5 * 2 ^ 44 + 65536, 6, List.replicate 64 7⟩, poolS [], by unfold flitTaken; decide +kernel⟩,
   ⟨3, .poolCmdWrite 3 .larkspur 2, 2, .larkspur, 2, 0, pqS [], by decide +kernel⟩,
   ⟨3, .poolCmdRead 3 .larkspur 2, .larkspur, 2, pqS [(MEM_PQLEN_LEN 2, 0)], by decide +kernel⟩,
   ⟨3, .poolCmdRead 3 .larkspur 7, .larkspur, 7, onF [(FAB_ID_PKG_ID, 0), (MEM_PQADDR_GADDR 7, 2 ^ 44), (MEM_PQLEN_LEN 7, 64)], by decide +kernel⟩,
   ⟨3, poolF ⟨3, 0, 1, 8, 2 ^ 44, 1, List.replicate 64 7⟩, ⟨3, 0, 1, 8, 2 ^ 44, 1, List.replicate 64 7⟩, 2, 8, 0, 64, 1, 0, 64, [], { pqS [(MEM_PQCMD_STATUS 2, 13)] with pool := [(2, ⟨1, 64, [(8, 0, 64, 1, 0)], [], false, 0⟩)] }, by unfold flitTaken; decide +kernel⟩,
   ⟨3, poolF ⟨4, 0, 1, 8, 2 ^ 44, 1, []⟩, ⟨4, 0, 1, 8, 2 ^ 44, 1, List.replicate 64 0⟩, 2, 8, 0, 64, 1, 0, 64, [], { pqS [(MEM_PQCMD_STATUS 2, 13)] with pool := [(2, ⟨2, 64, [(8, 0, 64, 1, 0)], [], false, 0⟩)] }, by unfold flitTaken; decide +kernel⟩,
   ⟨3, .larkspur, 2, ⟨2, 64, [(8, 0, 64, 1, 0)], [], false, 0⟩, { pqS [(MEM_PQCMD_STATUS 2, 13)] with pool := [(2, ⟨2, 64, [(8, 0, 64, 1, 0)], [], false, 0⟩)] }, by decide +kernel⟩,
   ⟨10000001, 2, ⟨2, 64, [(8, 0, 64, 1, 0)], [], false, 0⟩, { pqS [(MEM_PQCMD_STATUS 2, 13)] with pool := [(2, ⟨2, 64, [(8, 0, 64, 1, 0)], [], false, 0⟩)] }, by decide +kernel⟩⟩

theorem wit_StacksAndChannelsChangeState :
    (∃ (t : Nat) (q : Requester) (c : Nat) (s : State), c < 16 ∧ (s.at t).gate q (0x800200 + 8 * c) = none ∧ s.owns q (0x800200 + 8 * c) = true ∧ s.b (MEM_FCH_DRAINING c) = false) ∧
    (∃ (t : Nat) (q : Requester) (c : Nat) (s : State), c < 16 ∧ (s.at t).gate q (0x800200 + 8 * c) = none ∧ s.owns q (0x800200 + 8 * c) = true ∧ s.b (MEM_FCH_DRAINING c) = true) ∧
    (∃ (t : Nat) (q : Requester) (c : Nat) (s : State), c < 16 ∧ (s.at t).gate q (0x800200 + 8 * c) = none ∧ s.owns q (0x800200 + 8 * c) = true ∧ s.active = false) ∧
    (∃ (t : Nat) (q : Requester) (c : Nat) (s : State), c < 16 ∧ (s.at t).gate q (0x800200 + 8 * c) = none ∧ s.owns q (0x800200 + 8 * c) = true ∧ s.active = true) ∧
    (∃ (c : Nat) (s : State), c < 16 ∧ s.b (MEM_FCH_DRAINING c) = true) ∧
    (∃ (c : Nat) (s : State), c < 16 ∧ s.f (MEM_FCH_STATE c) = 1) ∧
    (∃ (c : Nat) (s : State), c < 16 ∧ s.f (MEM_FCH_STATE c) = 1) ∧
    (∃ (c : Nat) (s : State), c < 16 ∧ s.f (MEM_FCH_STATE c) = 2 ∧ s.active = false) ∧
    (∃ (k : Nat) (s : State), k < 8 ∧ s.power = .on ∧ s.f (MEM_NSTK_STATE k) = 2) ∧
    (∃ (k a : Nat) (s : State), k < 8 ∧ s.power = .on ∧ s.f (MEM_NSTK_STATE k) = 2 ∧ a < 2 ^ 39 ∧ s.stackOf a = k) :=
  ⟨⟨3, .larkspur, 15, on, by decide +kernel⟩,
   ⟨3, .larkspur, 15, onF [(MEM_FCH_DRAINING 15, 1)], by decide +kernel⟩,
   ⟨3, .larkspur, 0, onF [(MEM_FCH_STATE 0, 2)], by decide +kernel⟩,
   ⟨3, .larkspur, 0, act, by decide +kernel⟩,
   ⟨15, onF [(MEM_FCH_DRAINING 15, 1)], by decide +kernel⟩,
   ⟨15, onF [(MEM_FCH_STATE 15, 1)], by decide +kernel⟩,
   ⟨0, onF [(MEM_FCH_STATE 0, 1)], by decide +kernel⟩,
   ⟨0, onF [(MEM_FCH_STATE 0, 2)], by decide +kernel⟩,
   ⟨7, onF [(MEM_NSTK_STATE 7, 2)], by decide +kernel⟩,
   ⟨1, 256, onF [(MEM_NSTK_STATE 1, 2)], by decide +kernel⟩⟩

theorem wit_WindowAndFirmwareAccess :
    (∃ (t off n : Nat) (isF : Bool) (a : Nat) (s : State), (s.at t).gate .host 0x800000 = none ∧ s.winAt off n = some (isF, a)) ∧
    (∃ (t off n : Nat) (isF : Bool) (a l : Nat) (s : State), (s.at t).gate .host 0x800000 = none ∧ s.winAt off n = some (isF, a) ∧ a / 64 * 64 ≤ l ∧ l < a + n) ∧
    (∃ (t off n : Nat) (s : State), (s.at t).gate .host 0x800000 = none ∧ s.winAt off n = none) ∧
    (∃ (t off : Nat) (bs : List Nat) (isF : Bool) (a : Nat) (s : State), (s.at t).gate .host 0x800000 = none ∧ s.winAt off bs.length = some (isF, a) ∧ ((s.active = true → isF = false → meets (queueArea :: s.protected) a bs.length = false))) ∧
    (∃ (t off : Nat) (bs : List Nat) (s : State), (s.at t).gate .host 0x800000 = none ∧ ((s.winAt off bs.length = none ∨ ∃ a, s.winAt off bs.length = some (false, a) ∧ s.active = true ∧ meets (queueArea :: s.protected) a bs.length = true))) ∧
    (∃ (off : Nat) (bs : List Nat) (s : State), s.power = .on ∧ s.f MGT_LSTATE_STATE ≠ 0 ∧ s.f MGT_LSTATE_STATE ≠ 4 ∧ ((s.active = true → meets s.protected off bs.length = false)) ∧ off + bs.length ≤ 2 ^ 39) ∧
    (∃ (off : Nat) (bs : List Nat) (s : State), s.power = .on ∧ s.f MGT_LSTATE_STATE ≠ 0 ∧ s.f MGT_LSTATE_STATE ≠ 4 ∧ s.active = true ∧ meets s.protected off bs.length = true) ∧
    (∃ (off : Nat) (bs : List Nat) (s : State), s.power = .on ∧ s.f MGT_LSTATE_STATE ≠ 0 ∧ s.f MGT_LSTATE_STATE ≠ 4 ∧ ((s.active = true → meets s.protected off bs.length = false)) ∧ bs ≠ [] ∧ 2 ^ 39 < off + bs.length) :=
  ⟨⟨3, 4096, 8, false, 4096, onF [(SYS_STATUS_PHASE, 3), (SYS_WIN_EN 0, 1)], by decide +kernel⟩,
   ⟨3, 4096, 8, false, 4096, 4096, onF [(SYS_STATUS_PHASE, 3), (SYS_WIN_EN 0, 1)], by decide +kernel⟩,
   ⟨3, 4096, 8, onF [(SYS_STATUS_PHASE, 3), (SYS_WIN_EN 0, 0)], by decide +kernel⟩,
   ⟨3, 4096, [1, 2], false, 4096, onF [(SYS_STATUS_PHASE, 3), (SYS_WIN_EN 0, 1)], by decide +kernel⟩,
   ⟨3, 4096, [1, 2], onF [(SYS_STATUS_PHASE, 3), (SYS_WIN_EN 0, 0)], by decide +kernel, .inl (by decide +kernel)⟩,
   ⟨4096, [1, 2], lspF [], by decide +kernel⟩,
   ⟨4096, [1, 2], actF [(MGT_LSTATE_STATE, 2), (RCV_JRNL_BLOCKS, 2)], by decide +kernel⟩,
   ⟨2 ^ 39 - 1, [1, 2], lspF [], by decide +kernel⟩⟩

theorem wit_ErrorRecordsAreCollected :
    (∃ (i : Nat) (r : ErrRec) (s : State), s.records[i]? = some r ∧ r.sev = 0 ∧ r.cause < 256 ∧ s.logSeen.contains (r.cause, r.kind * 2 ^ 32 + r.unit, r.frame) = false ∧ s.f CHK_LOGSZ_LOG2 = 0) ∧
    (∃ (i : Nat) (r : ErrRec) (s : State), s.records[i]? = some r ∧ r.sev = 2 ∧ r.cause < 256 ∧ s.active = false) ∧
    (∃ (i : Nat) (r : ErrRec) (n a : Nat) (s : State), s.records[i]? = some r ∧ r.sev = 1 ∧ r.cause < 256 ∧ n = s.f CHK_LOGSZ_LOG2 ∧ n ≠ 0 ∧ 16 ≤ 2 ^ n - (s.f CHK_LOGHEAD_HEAD + 2 ^ 32 - s.f CHK_LOGTAIL_TAIL) % 2 ^ 32 ∧ a = s.f CHK_LOGBASE_ADDR + 32 * (s.f CHK_LOGHEAD_HEAD % 2 ^ n)) ∧
    (∃ (i : Nat) (r : ErrRec) (s : State), s.records[i]? = some r ∧ r.sev = 2 ∧ r.cause < 256 ∧ s.active = true ∧ s.failSolo = false ∧ s.qdr.told = true) ∧
    (∃ (i : Nat) (r : ErrRec) (s : State), s.records[i]? = some r ∧ r.sev = 3 ∧ r.cause < 256 ∧ r.cause ≠ 0x29 ∧ s.active = false) ∧
    (∃ (i : Nat) (s : State), s.records[i]? = none) ∧
    (∃ (s : State), s.power = .on) ∧
    (∃ (w : Nat) (s : State), s.power = .on ∧ w ≠ 0) :=
  ⟨⟨0, ⟨0, 0x10, 3, 1, 0, 0, 0, 0⟩, { on with records := [⟨0, 0x10, 3, 1, 0, 0, 0, 0⟩] }, by decide +kernel⟩,
   ⟨0, ⟨2, 0x10, 3, 1, 0, 0, 0, 0⟩, { on with records := [⟨2, 0x10, 3, 1, 0, 0, 0, 0⟩] }, by decide +kernel⟩,
   ⟨1, ⟨1, 0x10, 3, 1, 0, 0, 0, 0⟩, 5, 8192, { onF [(CHK_LOGSZ_LOG2, 5), (CHK_LOGBASE_ADDR, 8192)] with records := [⟨0, 1, 0, 0, 0, 0, 0, 0⟩, ⟨1, 0x10, 3, 1, 0, 0, 0, 0⟩] }, by decide +kernel⟩,
   ⟨0, ⟨2, 0x10, 3, 1, 0, 0, 0, 0⟩, { act with records := [⟨2, 0x10, 3, 1, 0, 0, 0, 0⟩], qdr := { told := true } }, by decide +kernel⟩,
   ⟨0, ⟨3, 0x2A, 5, 1, 0, 0, 0, 0⟩, { on with records := [⟨3, 0x2A, 5, 1, 0, 0, 0, 0⟩] }, by decide +kernel⟩,
   ⟨1, { on with records := [⟨3, 0x2A, 5, 1, 0, 0, 0, 0⟩] }, by decide +kernel⟩,
   ⟨on, by decide +kernel⟩,
   ⟨3, { on with errCap := [1, 2, 3, 4] }, by decide +kernel⟩⟩

theorem wit_SensorsAreSampled :
    (∃ (t : Nat) (s : State), s.power = .on ∧ max s.now t % 100000 = 0 ∧ ((∀ c ∈ s.progQ, c.arr < 32768))) ∧
    (∃ (t : Nat) (reads : List (Nat × Int)) (x : Nat) (v : Int) (s : State), s.power = .on ∧ max s.now t % 100000 = 0 ∧ ((∀ c ∈ s.progQ, c.arr < 32768)) ∧ x < 264 ∧ (s.at t).sampleDue x = true ∧ sfind reads x = some v ∧ -160 ≤ v ∧ v ≤ 600 ∧ s.sensorOk x = true) ∧
    (∃ (t : Nat) (s : State), (s.power ≠ .on ∨ max s.now t % 100000 ≠ 0)) ∧
    (∃ (t : Nat) (q : Requester) (s : State), (s.at t).gate q 0xE00048 = none ∧ s.owns q 0xE00048 = true ∧ (s.imgSt = 0 ∨ s.imgSt = 5 ∨ s.imgSt = 7)) ∧
    (∃ (t : Nat) (q : Requester) (s : State), (s.at t).gate q 0xE00048 = none ∧ s.owns q 0xE00048 = true ∧ s.imgSt ≠ 0 ∧ s.imgSt ≠ 5 ∧ s.imgSt ≠ 7) ∧
    (∃ (t n : Nat) (rest : List Nat) (start : Nat) (s : State), s.power = .on ∧ start = max s.now t / 100000 * 100000 ∧ s.heat.hkStart ≠ some start ∧ n < 14 ∧ (List.range 48).filter (fun k => bits (s.f HKA_MASK_MASK) k 1 == 1) = n :: rest ∧ start + 5000 ≤ max s.now t) ∧
    (∃ (t : Nat) (q : Requester) (n : Nat) (s : State), n < 48 ∧ (s.at t).gate q (hkaChan n + 8) = none ∧ s.owns q (hkaChan n + 8) = true ∧ (s.at t).endsNow n = false) :=
  ⟨⟨100000, on, by decide +kernel⟩,
   ⟨1000000, [(263, 100)], 263, 100, on, by decide +kernel⟩,
   ⟨100001, on, by decide +kernel⟩,
   ⟨3, .larkspur, on, by decide +kernel⟩,
   ⟨3, .larkspur, act, by decide +kernel⟩,
   ⟨105000, 0, [], 100000, onF [(HKA_MASK_MASK, 1)], by decide +kernel⟩,
   ⟨3, .larkspur, 47, onF [(HKA_TRK_MIN 47, 5)], by decide +kernel⟩⟩

theorem wit_PowerComesAndGoes :
    (∃ (yOk : List Nat) (s : State), s.power = .off ∧ pickSlot s.fuses.yarSlot (fitSlots s.fuses.yarSlot yOk s.fuses.floorY) = none) ∧
    (∃ (yOk : List Nat) (y : Nat) (s : State), s.power = .off ∧ pickSlot s.fuses.yarSlot (fitSlots s.fuses.yarSlot yOk s.fuses.floorY) = some y) ∧
    (∃ (yOk : List Nat) (y : Nat) (s : State), s.power = .off ∧ pickSlot s.fuses.yarSlot (fitSlots s.fuses.yarSlot yOk s.fuses.floorY) = some y) ∧
    (∃ (s : State), s.power ≠ .off) ∧
    (∃ (t : Nat) (q : Requester) (s : State), (s.at t).gate q 0x10 = none ∧ s.owns q 0x10 = true) ∧
    (∃ (t : Nat) (q : Requester) (key : Nat) (s : State), (s.at t).gate q 0x10 = none ∧ s.owns q 0x10 = true ∧ key ≠ 0x5A08) ∧
    (∃ (s : State), (s.power = .on ∨ s.power = .rom)) ∧
    (∃ (rail : Nat) (s : State), s.power = .on ∧ rail < 10) ∧
    (∃ (t a : Nat) (s : State), s.power = .on ∧ s.heat.shut = some a ∧ a + 1000000 ≤ max s.now t) ∧
    (∃ (s : State), s.power = .latched) ∧
    (∃ (n : Nat) (s : State), s.power = .on ∧ n < 32 ∧ n ∉ s.pllLost) :=
  ⟨⟨[], {}, by decide +kernel⟩,
   ⟨[0], 0, {}, by decide +kernel⟩,
   ⟨[0], 0, {}, by decide +kernel⟩,
   ⟨on, by decide +kernel⟩,
   ⟨3, .host, onF [(SYS_STATUS_PHASE, 3)], by decide +kernel⟩,
   ⟨3, .host, 1, onF [(SYS_STATUS_PHASE, 3)], by decide +kernel⟩,
   ⟨on, by decide +kernel⟩,
   ⟨9, on, by decide +kernel⟩,
   ⟨1000005, 5, { on with heat := { shut := some 5 } }, by decide +kernel⟩,
   ⟨{ power := .latched }, by decide +kernel⟩,
   ⟨31, on, by decide +kernel⟩⟩

theorem wit_StartupEndsAndFunctionResets :
    (∃ (s : State), s.power = .on ∧ s.f SYS_STATUS_PHASE = 2 ∧ s.boot.tested = false) ∧
    (∃ (t : Nat) (s : State), s.power = .on ∧ max s.now t = s.f PAV_TICK_TICK_STAMP ∧ s.startReady = true ∧ s.drain.asked = false ∧ ((∀ x ∈ s.boot.convs, x.1 < 8192))) ∧
    (∃ (t : Nat) (s : State), s.power = .on ∧ max s.now t = s.f PAV_TICK_TICK_STAMP ∧ s.startReady = true ∧ s.drain.asked = true ∧ s.drain.press = none ∧ ((∀ x ∈ s.boot.convs, x.1 < 8192))) ∧
    (∃ (s : State), s.startReady = false) ∧
    (∃ (t v : Nat) (s : State), (s.at t).gate .host 0x800000 = none ∧ v < 64 ∧ s.b (MSIX_PEND v) = true ∧ s.b PCI_BME = true) ∧
    (∃ (t v : Nat) (s : State), (s.at t).gate .host 0x800000 = none ∧ v < 64 ∧ (s.b (MSIX_PEND v) = false ∨ s.b PCI_BME = false)) :=
  ⟨⟨onF [(SYS_STATUS_PHASE, 2)], by decide +kernel⟩,
   ⟨64, { onF [(SYS_STATUS_PHASE, 2), (PAV_TICK_TICK_STAMP, 64), (MGT_LSTATE_STATE, 2)] with boot := { tested := true } }, by decide +kernel⟩,
   ⟨64, { onF [(SYS_STATUS_PHASE, 2), (PAV_TICK_TICK_STAMP, 64), (MGT_LSTATE_STATE, 2)] with boot := { tested := true }, drain := { asked := true } }, by decide +kernel⟩,
   ⟨{ onF [(SYS_STATUS_PHASE, 2), (PAV_TICK_TICK_STAMP, 64), (MGT_LSTATE_STATE, 2), (FAB_PSTAT_STATE 71, 2)] with boot := { tested := true } }, by decide +kernel⟩,
   ⟨3, 63, onF [(SYS_STATUS_PHASE, 3), (MSIX_PEND 63, 1), (PCI_BME, 1)], by decide +kernel⟩,
   ⟨3, 0, onF [(SYS_STATUS_PHASE, 3), (MSIX_PEND 0, 1)], by decide +kernel⟩⟩

theorem wit_IdentityAndMeasurementCommands :
    (∃ (d : Nat) (s : State), secServed s d 0x01) ∧
    (∃ (d : Nat) (s : State), secServed s d 0x02 ∧ d ≠ 3 ∧ s.areaOk d (s.reqWord d 1) 17888 = true) ∧
    (∃ (s : State), secServed s 3 0x02) ∧
    (∃ (d : Nat) (s : State), secServed s d 0x02 ∧ d ≠ 3 ∧ s.areaOk d (s.reqWord d 1) 17888 = false) ∧
    (∃ (t d : Nat) (sig q : List Nat) (s : State), secServed s d 0x03 ∧ d ≠ 3 ∧ s.f SEC_STATE_DEBUG ≠ 2 ∧ q = (s.at t).quoteBytes (((List.range 4).map (fun i => leBytes 8 (s.reqWord d (1 + i)))).flatten) (s.reqWord d 5 % 256) ++ sig.take 7856 ∧ s.areaOk d (s.reqWord d 6) q.length = true) ∧
    (∃ (d : Nat) (s : State), secServed s d 0x03 ∧ s.f SEC_STATE_DEBUG = 2) ∧
    (∃ (d : Nat) (s : State), secServed s d 0x04 ∧ d ≠ 3 ∧ s.areaOk d (s.reqWord d 1) (48 * s.yar.mlog.length) = true) ∧
    (∃ (t : Nat) (i : Instr) (s : State), ((i = .getMlog t 3 ∧ secServed s 3 0x04) ∨ (i = .extend t 3 ∧ secServed s 3 0x05))) ∧
    (∃ (d : Nat) (s : State), secServed s d 0x05 ∧ d ≠ 3 ∧ s.yar.mlog.length < 960) ∧
    (∃ (d : Nat) (s : State), secServed s d 0x05 ∧ d ≠ 3 ∧ 960 ≤ s.yar.mlog.length) :=
  ⟨⟨3, secF 3 1 [] [], by unfold secServed; decide +kernel⟩,
   ⟨0, secF 0 2 [4096] [], by unfold secServed; decide +kernel⟩,
   ⟨secF 3 2 [] [], by unfold secServed; decide +kernel⟩,
   ⟨0, secF 0 2 [4097] [], by unfold secServed; decide +kernel⟩,
   ⟨3, 0, [1], _, secF 0 3 [1, 2, 3, 4, 0, 4096] [], by unfold secServed; decide +kernel, by decide +kernel, by decide +kernel, rfl, by decide +kernel⟩,
   ⟨0, secF 0 3 [] [(SEC_STATE_DEBUG, 2)], by unfold secServed; decide +kernel⟩,
   ⟨2, { secF 2 4 [4096] [] with yar := { mlog := [(7, 0, [1, 2])] } }, by unfold secServed; decide +kernel⟩,
   ⟨3, .extend 3 3, secF 3 5 [] [], by unfold secServed; decide +kernel⟩,
   ⟨2, secF 2 5 [1, 2] [], by unfold secServed; decide +kernel⟩,
   ⟨0, { secF 0 5 [1, 2] [] with yar := { mlog := List.replicate 960 (7, 0, []) } }, by unfold secServed; decide +kernel⟩⟩

theorem wit_FusesAndKeysChange :
    (∃ (r h : List Nat) (s : State), secServed s 0 0x06 ∧ (s.imgSt = 0 ∨ s.imgSt = 7) ∧ s.areaOk 0 (s.reqWord 0 1) 16296 = true ∧ r = s.bytes (s.reqWord 0 1) 72 ∧ part r 0 16 = deviceId ∧ partNum r 16 4 = s.fuses.owners.length ∧ s.fuses.owners.length < 8 ∧ (h = (if (part r 24 48).all (fun x => x == 0) then List.replicate 32 0xFF else sha256 (part r 24 48)))) ∧
    (∃ (r : List Nat) (s : State), secServed s 0 0x06 ∧ (s.imgSt = 0 ∨ s.imgSt = 7) ∧ s.areaOk 0 (s.reqWord 0 1) 16296 = true ∧ r = s.bytes (s.reqWord 0 1) 72 ∧ part r 0 16 = deviceId ∧ partNum r 16 4 = s.fuses.owners.length ∧ s.fuses.owners.length < 8) ∧
    (∃ (s : State), secServed s 0 0x06 ∧ s.imgSt ≠ 0 ∧ s.imgSt ≠ 7) ∧
    (∃ (r : List Nat) (s : State), secServed s 0 0x07 ∧ s.f SEC_STATE_DEBUG ≠ 2 ∧ s.areaOk 0 (s.reqWord 0 1) 17888 = true ∧ r = s.bytes (s.reqWord 0 1) 18 ∧ part r 0 16 = deviceId ∧ partNum r 16 2 < 16 ∧ s.ownerHash.isSome = true) ∧
    (∃ (s : State), secServed s 0 0x07 ∧ s.f SEC_STATE_DEBUG = 2) ∧
    (∃ (s : State), secServed s 0 0x08 ∧ s.reqWord 0 1 < 16) ∧
    (∃ (r : List Nat) (s : State), secServed s 0 0x09 ∧ s.areaOk 0 (s.reqWord 0 1) 16256 = true ∧ r = s.bytes (s.reqWord 0 1) 20 ∧ part r 0 16 = deviceId ∧ s.fuses.floorI ≤ partNum r 16 4 ∧ partNum r 16 4 ≤ 64 ∧ s.ownerHash.isSome = true) ∧
    (∃ (r : List Nat) (s : State), secServed s 0 0x09 ∧ s.areaOk 0 (s.reqWord 0 1) 16256 = true ∧ r = s.bytes (s.reqWord 0 1) 20 ∧ partNum r 16 4 < s.fuses.floorI) ∧
    (∃ (d : Nat) (rec r : List Nat) (n : Nat) (s : State), secServed s d 0x0B ∧ (d = 0 ∨ d = 3) ∧ n = 16288 + min (s.fwLen d rec) (2 ^ 20) ∧ s.areaOk d (s.reqWord d 1) n = true ∧ r = s.area d rec (s.reqWord d 1) n ∧ fwOk r kindYar (2 ^ 20) true = true ∧ s.fuses.floorY ≤ partNum r 12 4) ∧
    (∃ (d : Nat) (rec : List Nat) (n : Nat) (s : State), secServed s d 0x0B ∧ (d = 0 ∨ d = 3) ∧ n = 16288 + min (s.fwLen d rec) (2 ^ 20) ∧ s.areaOk d (s.reqWord d 1) n = true) ∧
    (∃ (s : State), secServed s 0 0x0E ∧ s.areaOk 0 (s.reqWord 0 1) 16256 = true ∧ s.bytes (s.reqWord 0 1) 16 = deviceId ∧ s.ownerHash.isSome = true) ∧
    (∃ (s : State), secServed s 0 0x0E ∧ s.areaOk 0 (s.reqWord 0 1) 16256 = true ∧ s.bytes (s.reqWord 0 1) 16 ≠ deviceId) :=
  ⟨⟨recB ([0, 0, 0, 0, 0, 0, 0, 0] ++ List.replicate 48 9), _, recAt 6 {} ([0, 0, 0, 0, 0, 0, 0, 0] ++ List.replicate 48 9), by unfold secServed; decide +kernel, by decide +kernel, by decide +kernel, recAt_bytes _ _ _ 72 (by decide +kernel) rfl (by decide), part_id _, by rw [partNum_rec]; decide +kernel, by decide +kernel, rfl⟩,
   ⟨recB ([0, 0, 0, 0, 0, 0, 0, 0] ++ List.replicate 48 9), recAt 6 {} ([0, 0, 0, 0, 0, 0, 0, 0] ++ List.replicate 48 9), by unfold secServed; decide +kernel, by decide +kernel, by decide +kernel, recAt_bytes _ _ _ 72 (by decide +kernel) rfl (by decide), part_id _, by rw [partNum_rec]; decide +kernel, by decide +kernel⟩,
   ⟨secF 0 6 [4096] [(IMG_STATE_STATE, 6)], by unfold secServed; decide +kernel⟩,
   ⟨recB [3, 0], recAt 7 { owners := [ownerH] } [3, 0], by unfold secServed; decide +kernel, by decide +kernel, by decide +kernel, recAt_bytes _ _ _ 18 (by decide +kernel) rfl (by decide), part_id _, by rw [partNum_rec]; decide +kernel, by decide +kernel⟩,
   ⟨secF 0 7 [4096] [(SEC_STATE_DEBUG, 2)], by unfold secServed; decide +kernel⟩,
   ⟨{ secF 0 8 [15] [] with fuses := { keys := [(15, [1])] } }, by unfold secServed; decide +kernel⟩,
   ⟨recB [64, 0, 0, 0], recAt 9 { owners := [ownerH] } [64, 0, 0, 0], by unfold secServed; decide +kernel, by decide +kernel, recAt_bytes _ _ _ 20 (by decide +kernel) rfl (by decide), part_id _, by rw [partNum_rec]; decide +kernel, by rw [partNum_rec]; decide +kernel, by decide +kernel⟩,
   ⟨recB [2, 0, 0, 0], recAt 9 { owners := [ownerH], floorI := 3 } [2, 0, 0, 0], by unfold secServed; decide +kernel, by decide +kernel, recAt_bytes _ _ _ 20 (by decide +kernel) rfl (by decide), by rw [partNum_rec]; decide +kernel⟩,
   ⟨3, fwRec, _, 16288, secF 3 11 [0] [], by unfold secServed; decide +kernel, by decide +kernel, by decide +kernel, by decide +kernel, rfl, by decide +kernel, by decide +kernel⟩,
   ⟨3, [], 16288, secF 3 11 [0] [], by unfold secServed; decide +kernel⟩,
   ⟨recAt 14 { owners := [ownerH] } [], by unfold secServed; decide +kernel, by decide +kernel, (recAt_bytes _ _ _ 16 (by decide +kernel) rfl (by decide)).symm.trans (List.append_nil _), by decide +kernel⟩,
   ⟨(secF 0 14 [4096] []).write 4096 [deviceId.getD 0 0 + 1], by unfold secServed; decide +kernel, by decide +kernel, not_id_at _ _ (by decide +kernel)⟩⟩

theorem wit_DebugUnlocks :
    (∃ (d : Nat) (s : State), secServed s d 0x0C ∧ (d = 0 ∨ d = 3)) ∧
    (∃ (t : Nat) (x : List Nat × Nat) (s : State), s.yar.nonce = some x ∧ x.2 + 60000000000 ≤ max s.now t) ∧
    (∃ (t : Nat) (x : List Nat × Nat) (s : State), s.yar.nonce = some x ∧ max s.now t < x.2 + 60000000000) ∧
    (∃ (t d : Nat) (rec r : List Nat) (s : State), secServed s d 0x0D ∧ (d = 0 ∨ d = 3) ∧ s.areaOk d (s.reqWord d 1) 16288 = true ∧ r = s.area d rec (s.reqWord d 1) 64 ∧ part r 0 16 = deviceId ∧ partNum r 16 1 = 2 ∧ (s.at t).nonceLives = some (part r 32 32) ∧ s.imgSt = 0 ∧ s.fuses.dkill = false) ∧
    (∃ (t d : Nat) (rec r : List Nat) (s : State), secServed s d 0x0D ∧ (d = 0 ∨ d = 3) ∧ s.areaOk d (s.reqWord d 1) 16288 = true ∧ r = s.area d rec (s.reqWord d 1) 64 ∧ part r 0 16 = deviceId ∧ partNum r 16 1 = 1 ∧ (s.at t).nonceLives = some (part r 32 32) ∧ s.ownerHash.isSome = true) ∧
    (∃ (t d : Nat) (rec r : List Nat) (s : State), secServed s d 0x0D ∧ (d = 0 ∨ d = 3) ∧ s.areaOk d (s.reqWord d 1) 16288 = true ∧ r = s.area d rec (s.reqWord d 1) 64 ∧ part r 0 16 = deviceId ∧ (partNum r 16 1 = 1 ∨ partNum r 16 1 = 2) ∧ (s.at t).nonceLives ≠ some (part r 32 32)) ∧
    (∃ (t d : Nat) (rec r : List Nat) (s : State), secServed s d 0x0D ∧ (d = 0 ∨ d = 3) ∧ s.areaOk d (s.reqWord d 1) 16288 = true ∧ r = s.area d rec (s.reqWord d 1) 64 ∧ part r 0 16 = deviceId ∧ partNum r 16 1 = 2 ∧ (s.at t).nonceLives = some (part r 32 32) ∧ (s.imgSt ≠ 0 ∨ s.fuses.dkill = true)) :=
  ⟨⟨0, secF 0 12 [] [], by unfold secServed; decide +kernel⟩,
   ⟨60000000000, ([1], 0), { on with yar := { nonce := some ([1], 0) } }, by decide +kernel⟩,
   ⟨59999999999, ([1], 0), { on with yar := { nonce := some ([1], 0) } }, by decide +kernel⟩,
   ⟨3, 3, recB (2 :: List.replicate 47 0), recB (2 :: List.replicate 47 0), { secF 3 13 [] [] with yar := { nonce := some (List.replicate 32 0, 0) } }, by unfold secServed; decide +kernel, by decide +kernel, by decide +kernel, area_rec _ _ _ rfl, part_id _, by rw [partNum_rec]; decide +kernel, by rw [part_rec]; decide +kernel, by decide +kernel, by decide +kernel⟩,
   ⟨3, 3, recB (1 :: List.replicate 47 0), recB (1 :: List.replicate 47 0), { secF 3 13 [] [] with yar := { nonce := some (List.replicate 32 0, 0) }, fuses := { owners := [ownerH] } }, by unfold secServed; decide +kernel, by decide +kernel, by decide +kernel, area_rec _ _ _ rfl, part_id _, by rw [partNum_rec]; decide +kernel, by rw [part_rec]; decide +kernel, by decide +kernel⟩,
   ⟨3, 3, recB (2 :: List.replicate 47 0), recB (2 :: List.replicate 47 0), secF 3 13 [] [], by unfold secServed; decide +kernel, by decide +kernel, by decide +kernel, area_rec _ _ _ rfl, part_id _, .inr (by rw [partNum_rec]; decide +kernel), by rw [part_rec]; decide +kernel⟩,
   ⟨3, 3, recB (2 :: List.replicate 47 0), recB (2 :: List.replicate 47 0), { secF 3 13 [] [(IMG_STATE_STATE, 6)] with yar := { nonce := some (List.replicate 32 0, 0) } }, by unfold secServed; decide +kernel, by decide +kernel, by decide +kernel, area_rec _ _ _ rfl, part_id _, by rw [partNum_rec]; decide +kernel, by rw [part_rec]; decide +kernel, by decide +kernel⟩⟩

theorem wit_LarkspurRunsAndUpdates :
    (∃ (s : State), secServed s 2 0x0F) ∧
    (∃ (t : Nat) (x : Nat × Nat × List Nat) (s : State), s.power = .on ∧ s.f MGT_LSTATE_STATE = 2 ∧ s.lsp.kickAt + 1000000000 ≤ max s.now t ∧ slotOf s.fuses.lspSlot (s.f SEC_STATE_LSP_SLOT) = some x) ∧
    (∃ (t : Nat) (x : Nat × Nat × List Nat) (i : Nat) (s : State), s.power = .on ∧ s.f MGT_LSTATE_STATE = 1 ∧ s.f SYS_STATUS_PHASE < 3 ∧ s.lsp.startAt + 10000000000 ≤ max s.now t ∧ s.lsp.tries < 3 ∧ (i = (if s.lsp.fit.contains (1 - s.f SEC_STATE_LSP_SLOT) then 1 - s.f SEC_STATE_LSP_SLOT else s.f SEC_STATE_LSP_SLOT)) ∧ slotOf s.fuses.lspSlot i = some x) ∧
    (∃ (t : Nat) (s : State), s.power = .on ∧ s.f MGT_LSTATE_STATE = 1 ∧ s.f SYS_STATUS_PHASE < 3 ∧ s.lsp.startAt + 10000000000 ≤ max s.now t ∧ 3 ≤ s.lsp.tries) ∧
    (∃ (s : State), s.power = .on ∧ s.lsp.haltAt = none ∧ s.f MGT_LSTATE_STATE = 1 ∧ 3 ≤ s.f SYS_STATUS_PHASE) ∧
    (∃ (y l : Nat × Nat × List Nat) (s : State), s.power = .on ∧ s.lsp.haltAt = none ∧ s.f MGT_LSTATE_STATE = 1 ∧ s.f SYS_STATUS_PHASE < 3 ∧ slotOf s.fuses.yarSlot (s.f SEC_STATE_YAR_SLOT) = some y ∧ slotOf s.fuses.lspSlot (s.f SEC_STATE_LSP_SLOT) = some l) ∧
    (∃ (t h i : Nat) (s : State), s.power = .on ∧ s.lsp.haltAt = some h ∧ max s.now t < h + readyWindow ∧ i = 1 - s.f SEC_STATE_LSP_SLOT ∧ s.lsp.door < 4 ∧ ((∀ x ∈ s.bells, x.door = s.lsp.door → x.run = true))) ∧
    (∃ (r : List Nat) (n : Nat) (s : State), secServed s 0 0x0A ∧ n = 16288 + min (s.fwLen 0 []) (2 ^ 24) ∧ s.areaOk 0 (s.reqWord 0 1) n = true ∧ r = s.bytes (s.reqWord 0 1) n ∧ fwOk r kindLrk (2 ^ 24) true = true ∧ s.fuses.floorL ≤ partNum r 12 4 ∧ (¬ (1 ≤ s.imgSt ∧ s.imgSt ≤ 4)) ∧ s.audit.running = false) ∧
    (∃ (n : Nat) (s : State), secServed s 0 0x0A ∧ n = 16288 + min (s.fwLen 0 []) (2 ^ 24) ∧ s.areaOk 0 (s.reqWord 0 1) n = true) ∧
    (∃ (t h : Nat) (answeredYet : Bool) (s : State), s.power = .on ∧ max s.now t = s.f PAV_TICK_TICK_STAMP ∧ s.lsp.handover = some h ∧ h < s.f PAV_TICK_TICK_STAMP ∧ (answeredYet = true ∨ h + 100000000 ≤ s.f PAV_TICK_TICK_STAMP)) ∧
    (∃ (t h : Nat) (x : Nat × Nat × List Nat) (s : State), s.power = .on ∧ s.lsp.haltAt = some h ∧ h + readyWindow ≤ max s.now t ∧ s.lsp.door < 4 ∧ ((∀ x ∈ s.bells, x.door = s.lsp.door → x.run = true)) ∧ slotOf s.fuses.lspSlot (s.f SEC_STATE_LSP_SLOT) = some x) :=
  ⟨⟨secF 2 15 [] [], by unfold secServed; decide +kernel⟩,
   ⟨1000000000, (1, 0, List.replicate 32 0), lspF [], by decide +kernel⟩,
   ⟨10000000000, (1, 0, List.replicate 32 0), 0, { onF [(MGT_LSTATE_STATE, 1)] with lsp := { fit := [0], tries := 2 } }, by decide +kernel⟩,
   ⟨10000000000, { onF [(MGT_LSTATE_STATE, 1)] with lsp := { fit := [0], tries := 3 } }, by decide +kernel⟩,
   ⟨onF [(MGT_LSTATE_STATE, 1), (SYS_STATUS_PHASE, 3)], by decide +kernel⟩,
   ⟨(1, 0, List.replicate 32 0), (1, 0, List.replicate 32 0), onF [(MGT_LSTATE_STATE, 1)], by decide +kernel⟩,
   ⟨2002096999, 0, 1, { onF [(MGT_LSTATE_STATE, 3), (SYS_STATUS_PHASE, 3)] with lsp := { haltAt := some 0 }, bells := [⟨0, 1, true, false⟩] }, by decide +kernel⟩,
   ⟨_, 16288, { secF 0 10 [4096] [] with mem := fwMem }, by unfold secServed; decide +kernel, by decide +kernel, by decide +kernel, rfl, by decide +kernel, by decide +kernel, by decide +kernel, by decide +kernel⟩,
   ⟨16288, secF 0 10 [4096] [], by unfold secServed; decide +kernel⟩,
   ⟨64, 3, true, { lspF [(PAV_TICK_TICK_STAMP, 64)] with lsp := { handover := some 3 } }, by decide +kernel⟩,
   ⟨2002097000, 0, (1, 0, List.replicate 32 0), { onF [(MGT_LSTATE_STATE, 3)] with lsp := { haltAt := some 0 }, bells := [⟨0, 1, true, false⟩] }, by decide +kernel⟩⟩

theorem wit_ManagementCommandsRun :
    (∃ (t : Nat) (img : Image) (rest : List Nat) (c : Nat) (i : Instr) (s : State), s.power = .on ∧ s.mayRun 1 = true ∧ s.reqCmd 1 = c ∧ (c, i) ∈ mgtRows t img rest ∧ (s.f MGT_LSTATE_STATE = 0 ∨ s.f MGT_LSTATE_STATE = 3 ∨ s.f MGT_LSTATE_STATE = 4)) ∧
    (∃ (s : State), mgtServed s 0x01) ∧
    (∃ (b : Nat) (s : State), mgtServed s 0x02 ∧ s.loadLocked = false ∧ s.owns .larkspur 0x300000 = true ∧ s.rangeOk 0x300000 (s.reqWord 1 1) = true ∧ s.rangeOk 0x300008 (s.reqWord 1 2) = true ∧ (s.imgSt = 0 ∨ s.imgSt = 5 ∨ s.imgSt = 7) ∧ s.halted = false ∧ s.audit.hold = false ∧ b = 4096 * bits (s.reqWord 1 1) 0 30 ∧ s.headerOk b = true ∧ s.targetOk b = true ∧ s.sectionsOk b = true) ∧
    (∃ (s : State), mgtServed s 0x03 ∧ s.owns .larkspur 0x300010 = true) ∧
    (∃ (t k : Nat) (v : Word) (r : RegRow) (s : State), mgtServed s 0x04 ∧ s.reqWord 1 1 = k ∧ s.reqWord 1 2 = v.toNat ∧ ordinaryWrite (s.at t) .larkspur k v r ∧ r.sel = false ∧ r.rwt ≠ 0 ∧ s.owns .larkspur k = true ∧ s.rangeOk k v.toNat = true ∧ s.boundsOk .larkspur k v.toNat r.fs = true ∧ s.reqWord 1 3 = 0 ∧ s.openTxn .larkspur = none ∧ s.newTopo = none ∧ (s.pendOf .larkspur).length < 8) ∧
    (∃ (s : State), mgtServed s 0x04 ∧ (s.openTxn .larkspur).isSome = true) ∧
    (∃ (a : Nat) (s : State), mgtServed s 0x05 ∧ s.owns .larkspur 0x600010 = true ∧ a = bits (s.reqWord 1 1) 0 42 ∧ a % 64 = 0 ∧ a + 576 ≤ 2 ^ 39 ∧ s.newTopo = none) ∧
    (∃ (s : State), mgtServed s 0x05 ∧ s.owns .larkspur 0x600010 = true ∧ bits (s.reqWord 1 1) 0 42 % 64 ≠ 0) ∧
    (∃ (rest bs : List Nat) (s : State), mgtServed s 0x07 ∧ bs = s.startReport ++ rest ∧ s.areaOk 1 (s.reqWord 1 1) bs.length = true ∧ (s.active = false ∨ meets s.protected (s.reqWord 1 1) bs.length = false)) ∧
    (∃ (rest bs : List Nat) (s : State), mgtServed s 0x07 ∧ bs = s.startReport ++ rest ∧ s.areaOk 1 (s.reqWord 1 1) bs.length = true ∧ s.active = true ∧ meets s.protected (s.reqWord 1 1) bs.length = true) ∧
    (∃ (rest : List Nat) (s : State), mgtServed s 0x07 ∧ s.areaOk 1 (s.reqWord 1 1) (s.startReport ++ rest).length = false) ∧
    (∃ (s : State), mgtServed s 0x02 ∧ s.loadLocked = true) :=
  ⟨⟨3, img0, [], 7, .telemetry 3 [], withF (mgtF 7 [] []) [(MGT_LSTATE_STATE, 3)], by decide +kernel⟩,
   ⟨mgtF 1 [] [], by unfold mgtServed; decide +kernel⟩,
   ⟨4096, cmdAt (withF (stagedF false []) [(MGT_LSTATE_STATE, 2)]) 1 2 [1, 0], by unfold mgtServed; decide +kernel, by decide +kernel, by decide +kernel, by decide +kernel, by decide +kernel, by decide +kernel, by decide +kernel, by decide +kernel, by decide +kernel, hdr0, by decide +kernel, by decide +kernel⟩,
   ⟨mgtF 3 [] [(IMG_STATE_STATE, 2)], by unfold mgtServed; decide +kernel⟩,
   ⟨3, 0x100028, 8, (regRow 0x100028).getD ⟨0, 0, 0, 0, 0, 0, 0, false, []⟩, mgtF 4 [0x100028, 8, 0] [], by unfold mgtServed ordinaryWrite; decide +kernel⟩,
   ⟨{ mgtF 4 [0x100020, 8, 0] [] with txnOpen := [⟨.larkspur, 7, []⟩] }, by unfold mgtServed; decide +kernel⟩,
   ⟨4096, mgtF 5 [4096] [], by unfold mgtServed; decide +kernel⟩,
   ⟨mgtF 5 [4097] [], by unfold mgtServed; decide +kernel⟩,
   ⟨[1], _, mgtF 7 [4096] [], by unfold mgtServed; decide +kernel, rfl, by rw [List.length_append, State.startReport_length]; decide +kernel, .inl (by decide +kernel)⟩,
   ⟨[1], _, cmdAt (actF [(MGT_LSTATE_STATE, 2), (RCV_JRNL_BLOCKS, 9)]) 1 7 [4096], by unfold mgtServed; decide +kernel, rfl, by rw [List.length_append, State.startReport_length]; decide +kernel, by decide +kernel, by rw [List.length_append, State.startReport_length]; decide +kernel⟩,
   ⟨[1], mgtF 7 [4097] [], by unfold mgtServed; decide +kernel⟩,
   ⟨cmdAt (withF (stagedF true []) [(MGT_LSTATE_STATE, 2), (SEC_STATE_DEBUG, 2)]) 1 2 [1, 0], by unfold mgtServed; decide +kernel⟩⟩

theorem wit_AuditsStartAndEnd :
    (∃ (s : State), mgtServed s 0x06 ∧ (s.imgSt = 0 ∨ s.imgSt = 7) ∧ s.audit.running = false) ∧
    (∃ (s : State), mgtServed s 0x06 ∧ ((s.imgSt ≠ 0 ∧ s.imgSt ≠ 7) ∨ s.audit.running = true)) ∧
    (∃ (t : Nat) (items arrs : List Nat) (s : State), s.power = .on ∧ s.audit.running = true ∧ s.audit.began + 10000000000 ≤ max s.now t ∧ ((∀ i, i < 4 → items.getD i 0 = 0)) ∧ ((∀ A ∈ arrs, A < 32768)) ∧ ((∀ x ∈ s.bells, x.door = 1 → x.run = true))) ∧
    (∃ (t : Nat) (items arrs : List Nat) (i : Nat) (s : State), s.power = .on ∧ s.audit.running = true ∧ s.audit.began + 10000000000 ≤ max s.now t ∧ i < 4 ∧ items.getD i 0 = 2 ∧ ((∀ A ∈ arrs, A < 32768))) ∧
    (∃ (t : Nat) (s : State), (s.audit.running = false ∨ max s.now t < s.audit.began + 10000000000)) :=
  ⟨⟨mgtF 6 [] [], by unfold mgtServed; decide +kernel⟩,
   ⟨mgtF 6 [] [(IMG_STATE_STATE, 6)], by unfold mgtServed; decide +kernel⟩,
   ⟨10000000000, [], [32767], { lspF [] with audit := { running := true }, bells := [⟨1, 1, true, false⟩] }, by decide +kernel⟩,
   ⟨10000000000, [0, 0, 0, 2], [], 3, { lspF [] with audit := { running := true }, bells := [⟨1, 1, true, false⟩] }, by decide +kernel⟩,
   ⟨9999999999, { lspF [] with audit := { running := true } }, by decide +kernel⟩⟩

theorem wit_DrainsLeaveTheJob :
    (∃ (s : State), mgtServed s 0x08 ∧ 600000 < s.reqWord 1 1) ∧
    (∃ (s : State), mgtServed s 0x08 ∧ s.reqWord 1 1 ≤ 600000 ∧ (1 ≤ s.drain.st ∨ s.drain.asked = true)) ∧
    (∃ (s : State), mgtServed s 0x08 ∧ s.reqWord 1 1 ≤ 600000 ∧ s.drain.st = 0 ∧ s.drain.asked = false ∧ s.f SYS_STATUS_PHASE < 3) ∧
    (∃ (s : State), mgtServed s 0x08 ∧ s.reqWord 1 1 ≤ 600000 ∧ s.drain.st = 0 ∧ s.drain.asked = false ∧ 3 ≤ s.f SYS_STATUS_PHASE ∧ s.active = false) ∧
    (∃ (s : State), mgtServed s 0x08 ∧ s.reqWord 1 1 ≤ 600000 ∧ s.drain.st = 0 ∧ s.drain.asked = false ∧ 3 ≤ s.f SYS_STATUS_PHASE ∧ s.active = true ∧ (s.recFor 8 0xB s.ownIdx s.ownIdx).isEmpty = true) ∧
    (∃ (s : State), mgtServed s 0x08 ∧ s.reqWord 1 1 ≤ 600000 ∧ s.drain.st = 0 ∧ s.drain.asked = false ∧ 3 ≤ s.f SYS_STATUS_PHASE ∧ s.active = true ∧ (s.recFor 8 0xB s.ownIdx s.ownIdx).isEmpty = false) ∧
    (∃ (t : Nat) (i : Instr) (T : Topo) (F : Nat) (s : State), ((i = .drainHandover t ∧ s.reqs.any (fun r => r.home == s.f FAB_ID_PKG_ID) = false) ∨ (i = .drainWaitExpire t ∧ s.drain.began + 1000000 * s.drain.waitMs ≤ max s.now t)) ∧ s.mayLeave = true ∧ s.topo = some T ∧ F = s.jobFrame + 16) ∧
    (∃ (t : Nat) (i : Instr) (s : State), ((i = .drainHandover t ∧ s.reqs.any (fun r => r.home == s.f FAB_ID_PKG_ID) = true) ∨ (i = .drainWaitExpire t ∧ max s.now t < s.drain.began + 1000000 * s.drain.waitMs) ∨ ((i = .drainHandover t ∨ i = .drainWaitExpire t) ∧ s.drain.st ≠ 2))) ∧
    (∃ (x : Nat × Nat) (rest : List (Nat × Nat)) (s : State), s.notices = x :: rest ∧ s.active = true ∧ s.f MGT_LSTATE_STATE = 2) :=
  ⟨⟨mgtF 8 [600001] [], by unfold mgtServed; decide +kernel⟩,
   ⟨{ mgtF 8 [600000] [] with drain := { st := 1 } }, by unfold mgtServed; decide +kernel⟩,
   ⟨mgtF 8 [600000] [], by unfold mgtServed; decide +kernel⟩,
   ⟨mgtF 8 [0] [(SYS_STATUS_PHASE, 3)], by unfold mgtServed; decide +kernel⟩,
   ⟨cmdAt (actF [(MGT_LSTATE_STATE, 2)]) 1 8 [0], by unfold mgtServed; decide +kernel⟩,
   ⟨{ cmdAt (actF [(MGT_LSTATE_STATE, 2)]) 1 8 [0] with img := some imgR }, by unfold mgtServed; decide +kernel⟩,
   ⟨3, .drainHandover 3, topo0, 19, { actF [(MGT_LSTATE_STATE, 2), (PAV_FRAME_FRAME_NUM, 3)] with img := some imgR, drain := { st := 2 } }, by decide +kernel⟩,
   ⟨3, .drainWaitExpire 3, { actF [(MGT_LSTATE_STATE, 2)] with drain := { st := 2 } }, by decide +kernel⟩,
   ⟨(2, 30), [], { actF [(MGT_LSTATE_STATE, 2)] with img := some imgR, notices := [(2, 30)] }, by decide +kernel⟩⟩

theorem wit_ButtonAndMailboxEnds :
    (∃ (s : State), s.power = .on ∧ s.drain.press = none) ∧
    (∃ (t stamp p : Nat) (s : State), s.drain.press = some p ∧ s.drain.ignore = false ∧ min stamp (max s.now t) < p + 2000000000) ∧
    (∃ (t stamp p : Nat) (s : State), s.drain.press = some p ∧ (s.drain.fired = true ∨ s.drain.ignore = true) ∧ p + 2000000000 ≤ min stamp (max s.now t)) ∧
    (∃ (t p : Nat) (s : State), s.drain.press = some p ∧ s.drain.ignore = false ∧ s.drain.fired = false ∧ p + 2000000000 ≤ max s.now t ∧ s.drain.st = 0 ∧ s.drain.asked = false ∧ 3 ≤ s.f SYS_STATUS_PHASE ∧ s.active = false) ∧
    (∃ (t p : Nat) (s : State), s.drain.press = some p ∧ max s.now t < p + 2000000000) ∧
    (∃ (t e : Nat) (s : State), s.drain.flash = some e ∧ e ≤ max s.now t) ∧
    (∃ (t e : Nat) (s : State), s.drain.flash = some e ∧ max s.now t < e) ∧
    (∃ (d : Nat) (b : Bell) (s : State), s.power = .on ∧ d < 4 ∧ s.bell d = some b ∧ b.run = true ∧ b.ready = true) ∧
    (∃ (d : Nat) (s : State), s.power = .on ∧ d < 4 ∧ s.mayRun d = true ∧ ((if d = 1 then s.reqCmd d = 0 ∨ 8 < s.reqCmd d else s.reqCmd d = 0 ∨ 15 < s.reqCmd d)) ∧ ((d = 1 → s.f MGT_LSTATE_STATE = 2))) ∧
    (∃ (b : Bell) (s : State), s.power = .on ∧ s.bell 1 = some b ∧ b.run = true ∧ b.ready = false ∧ s.reqCmd 1 = 0x02 ∧ (¬ (1 ≤ s.imgSt ∧ s.imgSt ≤ 4))) ∧
    (∃ (d : Nat) (s : State), d < 4 ∧ s.bell d = none) :=
  ⟨⟨on, by decide +kernel⟩,
   ⟨30, 3, 0, { on with drain := { press := some 0 } }, by decide +kernel⟩,
   ⟨3000000000, 3000000000, 0, { on with drain := { press := some 0, fired := true } }, by decide +kernel⟩,
   ⟨2000000000, 0, { onF [(SYS_STATUS_PHASE, 3)] with drain := { press := some 0 } }, by decide +kernel⟩,
   ⟨1999999999, 0, { onF [(SYS_STATUS_PHASE, 3)] with drain := { press := some 0 } }, by decide +kernel⟩,
   ⟨5, 5, { on with drain := { flash := some 5 } }, by decide +kernel⟩,
   ⟨4, 5, { on with drain := { flash := some 5 } }, by decide +kernel⟩,
   ⟨3, ⟨3, 1, true, true⟩, { onF [(MBX_STAT_BUSY 3, 1)] with bells := [⟨3, 1, true, true⟩] }, by decide +kernel⟩,
   ⟨1, mgtF 9 [] [], by decide +kernel⟩,
   ⟨⟨1, 5, true, false⟩, { mgtF 2 [] [(IMG_STATE_STATE, 5)] with bells := [⟨1, 5, true, false⟩] }, by decide +kernel⟩,
   ⟨3, on, by decide +kernel⟩⟩

theorem wit_StepRunsTheFrontCommand :
    (∃ (c : Instr) (rest : List Instr) (s : State), s.pending = c :: rest) ∧
    (∃ (s : State), s.pending = []) :=
  ⟨⟨.txnBegin 3 .host 5, [], { pending := [.txnBegin 3 .host 5] }, by decide +kernel⟩,
   ⟨{}, by decide +kernel⟩⟩

theorem wit_ResetValues :
    (∃ (g : Nat), g < 48) ∧
    (∃ (A k : Nat), A < 32768 ∧ k < 544) ∧
    (∃ (A j : Nat), A < 32768 ∧ j < 256) ∧
    (∃ (c : Nat), c < 1024) ∧
    (∃ (p : Nat), p < 72) ∧
    (∃ (c : Nat), c < 16) ∧
    (∃ (n : Nat), n < 48) ∧
    (∃ (x : Nat), x < 16) :=
  ⟨⟨47, by decide +kernel⟩,
   ⟨32767, 543, by decide +kernel⟩,
   ⟨32767, 255, by decide +kernel⟩,
   ⟨1023, by decide +kernel⟩,
   ⟨71, by decide +kernel⟩,
   ⟨15, by decide +kernel⟩,
   ⟨47, by decide +kernel⟩,
   ⟨15, by decide +kernel⟩⟩

theorem wit_ArraysAreEmptyAfterReset :
    ∃ (s : State), s.power = .off :=
  ⟨{}, by decide +kernel⟩

theorem wit_MaskedVectorsWait :
    (∃ (v : Nat) (s : State), v < 64 ∧ s.b (MSIX_MASK v) = true) ∧
    (∃ (v : Nat) (s : State), v < 64 ∧ s.b (MSIX_MASK v) = false ∧ s.b PCI_BME = true) ∧
    (∃ (t v : Nat) (s : State), (s.at t).gate .host 0x800000 = none ∧ v < 64 ∧ s.b PCI_BME = true) :=
  ⟨⟨63, on, by decide +kernel⟩,
   ⟨63, onF [(MSIX_MASK 63, 0), (PCI_BME, 1)], by decide +kernel⟩,
   ⟨3, 63, onF [(SYS_STATUS_PHASE, 3), (PCI_BME, 1)], by decide +kernel⟩⟩

theorem wit_RwtFieldsNeedATransaction :
    (∃ (t : Nat) (q : Requester) (k : Nat) (v : Word) (r : RegRow) (s : State), ordinaryWrite (s.at t) q k v r ∧ r.sel = false ∧ r.rwt ≠ 0 ∧ s.owns q k = true ∧ s.openTxn q = none) ∧
    (∃ (t : Nat) (q : Requester) (tile : Nat) (s : State), (s.at t).gate q (cnvTile tile + 0x30) = none ∧ s.owns q (cnvTile tile + 0x30) = true ∧ s.openTxn q = none) ∧
    (∃ (t : Nat) (q : Requester) (T a : Nat) (s : State), T < 8192 ∧ a = ringTile T + 8 ∧ (s.at t).gate q a = none ∧ s.owns q a = true ∧ s.openTxn q = none) :=
  ⟨⟨3, .larkspur, 0x100020, 8, (regRow 0x100020).getD ⟨0, 0, 0, 0, 0, 0, 0, false, []⟩, on, by unfold ordinaryWrite; decide +kernel⟩,
   ⟨3, .larkspur, 8191, on, by decide +kernel⟩,
   ⟨3, .larkspur, 8191, ringTile 8191 + 8, on, by decide +kernel⟩⟩

theorem wit_OwnersAloneWrite :
    (∃ (t : Nat) (q : Requester) (n a b c : Nat) (img : Image) (w : Word) (e : Bool) (k : Nat) (i : Instr) (s : State), (k, i) ∈ writeRows t q n a b c img w e ∧ s.power ≠ .on) ∧
    (∃ (t n a b c : Nat) (img : Image) (w : Word) (e : Bool) (k : Nat) (i : Instr) (s : State), (k, i) ∈ writeRows t .host n a b c img w e ∧ s.power = .on ∧ s.f SYS_STATUS_PHASE < 3 ∧ groupOf k ≠ 0 ∧ groupOf k ≠ 11 ∧ groupOf k ≠ 12) ∧
    (∃ (t : Nat) (q : Requester) (n a b c : Nat) (img : Image) (w : Word) (e : Bool) (k : Nat) (i : Instr) (s : State), (k, i) ∈ writeRows t q n a b c img w e ∧ (s.at t).gate q k = none ∧ s.owns q k = false) :=
  ⟨⟨3, .host, 7, 1, 2, 3, img0, 4, true, 0x10, .packageReset 3 .host 1, {}, by decide +kernel⟩,
   ⟨3, 7, 1, 2, 3, img0, 4, true, 0xE00048, .xchkStart 3 .host, on, by decide +kernel⟩,
   ⟨3, .yarrow, 71, 1, 2, 3, img0, 4, true, portRegs 71 + 8, .portEnWrite 3 .yarrow 71 true, on, by decide +kernel⟩⟩

theorem wit_EveryStepKeepsTheInvariant :
    ∃ (s t : State), s.inv ∧ step s = .next t :=
  ⟨{}, {}, by unfold State.inv; decide +kernel, rfl⟩

end Sys2Proof.Tests
end

section
/-! SUPPORT. Writes of RWT fields by a requester with no open transaction (R6, R42): the checked write that every such command goes
through is rejected with NO_TXN, and the ordinary write, the trim write and the scale write are each that checked write. -/

namespace Sys2Proof.Machine

/-! ### The checks of a write, judged before its command's effect -/

/-- Only NOT_OWNER is counted and raises an event (R41); every other code is written to LAST_REJ and no more. -/
theorem State.reject_of_ne_notOwner (s : State) (q : Requester) (a : Nat) {code : Nat} (h : code ≠ 0x0E) :
    s.reject q a code = s.setf (TXNP_STAT_LAST_REJ q.code) code := by
  have hc : (code == 0x0E) = false := by simpa using h
  simp only [State.reject, State.when, hc, Bool.false_eq_true, if_false]

/-- Transaction state is judged after ownership and before range (R42), so the range does not matter here. -/
theorem State.firstFailure_of_openTxn_none {s : State} {q : Requester} {a : Nat} (ok : Bool) (hown : s.owns q a = true)
    (htxn : s.openTxn q = none) : s.firstFailure q a true ok = some 0x04 := by
  simp [State.firstFailure, hown, htxn]

/-- What the three clauses of R6 share: a checked write of an RWT field never reaches its effect `f` without a transaction. -/
theorem State.guarded_of_openTxn_none {s : State} {q : Requester} {a : Nat} (ok : Bool) (f : State → State)
    (hgate : s.gate q a = none) (hown : s.owns q a = true) (htxn : s.openTxn q = none) :
    s.guarded q a true ok f = s.setf (TXNP_STAT_LAST_REJ q.code) 0x04 := by
  simp only [State.guarded, hgate, State.firstFailure_of_openTxn_none ok hown htxn]
  exact s.reject_of_ne_notOwner q a (by decide)

/-- CNV_DATA is written as a whole: without a transaction for its RANGE field its trims stay as they were too (log 37). -/
theorem State.wrTrim_of_openTxn_none {s : State} {q : Requester} {tile : Nat} (off gain range : Nat)
    (hgate : s.gate q (cnvTile tile + 0x30) = none) (hown : s.owns q (cnvTile tile + 0x30) = true) (htxn : s.openTxn q = none) :
    s.wrTrim q tile off gain range = s.setf (TXNP_STAT_LAST_REJ q.code) 0x04 := by
  unfold State.wrTrim
  exact State.guarded_of_openTxn_none _ _ hgate hown htxn

theorem State.wrScale_of_openTxn_none {s : State} {q : Requester} {a : Nat} (T v : Nat) (hgate : s.gate q a = none)
    (hown : s.owns q a = true) (htxn : s.openTxn q = none) : s.wrScale q T a v = s.setf (TXNP_STAT_LAST_REJ q.code) 0x04 := by
  unfold State.wrScale
  exact State.guarded_of_openTxn_none _ _ hgate hown htxn

/-! ### Eight-byte writes at BAR0 offsets -/

/-- An aligned write of eight bytes at a BAR0 offset carries the whole word. -/
theorem exec_registerWrite_eight (t : Nat) (q : Requester) {k : Nat} (v : Word) (s : State) (hk : k < 0x4000000) (h8 : k % 8 = 0) :
    exec (.registerWrite t q k v 8) s = .next ((s.at t).writeReg q k v.toNat) := by
  have hv : v.toNat % 2 ^ (8 * min 8 8) = v.toNat := Nat.mod_eq_of_lt v.isLt
  simp only [exec, execRegisterWrite, State.writeKey, hk, h8, hv, and_self, if_true]

/-- An ordinary write of a register that is no selector is a checked write, of an RWT field where the row has RWT bits. -/
theorem ordinaryWrite.writeReg_eq {s : State} {q : Requester} {k : Nat} {v : Word} {r : RegRow} (h : ordinaryWrite s q k v r)
    (hsel : r.sel = false) :
    s.writeReg q k v.toNat = s.guarded q k (r.rwt != 0) (s.rangeOk k v.toNat && (r.rwt == 0 || s.boundsOk q k v.toNat r.fs))
      (·.takeWrite q k v.toNat r) := by
  obtain ⟨-, -, hrow, haction, -⟩ := h
  simp only [State.writeReg, hrow, haction, State.wrPlain, hsel, Bool.false_eq_true, if_false]

/-! ### RING_SCALE (R154) -/

/-- RING_SCALE of a tile lies in the window of the tile's core. -/
theorem coreOf_ringScale (T : Nat) : coreOf (ringTile T + 8) = T / 8 := by
  unfold coreOf ringTile coreWindow
  omega

theorem ringScale_mod_window (T : Nat) : (ringTile T + 8) % 0x8000 = 0x2008 + 0x100 * (T % 8) := by
  unfold ringTile coreWindow
  omega

theorem ringScale_bounds {T : Nat} (hT : T < 8192) : 0x2000000 ≤ ringTile T + 8 ∧ ringTile T + 8 < 0x4000000 := by
  unfold ringTile coreWindow
  omega

theorem ringScale_aligned (T : Nat) : (ringTile T + 8) % 8 = 0 := by
  unfold ringTile coreWindow
  omega

/-- RING_SCALE is a register: the second row of the tile part of RING. -/
theorem regRow_ringScale {T : Nat} (hT : T < 8192) : regRow (ringTile T + 8) = rowsRINGT[1]? := by
  obtain ⟨hlo, hhi⟩ := ringScale_bounds hT
  have hrow : coreRow (0x2008 + 0x100 * (T % 8)) = findRow rowsRINGT 8 := by
    have hrel : (0x2008 + 0x100 * (T % 8)) % 0x100 = 8 := by omega
    rw [coreRow, if_neg (by omega), if_neg (by omega), if_neg (by omega), if_pos (by omega), hrel]
  rw [regRow, if_neg (by omega), if_neg (by omega), if_pos hhi, ringScale_mod_window, hrow]
  rfl

/-- A write of RING_SCALE is the write of the column's scale behind the requester's RING_SADDR. -/
theorem State.writeCore_ringScale (s : State) (q : Requester) (T v : Nat) :
    s.writeCore q (ringTile T + 8) v = some (s.wrScale q T (ringTile T + 8) v) := by
  have htile : 8 * (T / 8) + (0x2008 + 0x100 * (T % 8) - 0x2000) / 0x100 = T := by omega
  simp only [State.writeCore, coreOf_ringScale, ringScale_mod_window]
  rw [if_neg (by omega), if_neg (by omega), if_pos (by omega), htile]

theorem State.writeReg_ringScale (s : State) (q : Requester) {T : Nat} (v : Nat) (hT : T < 8192) :
    s.writeReg q (ringTile T + 8) v = s.wrScale q T (ringTile T + 8) v := by
  have hlo : ¬ ringTile T + 8 < 0x2000000 := by have := ringScale_bounds hT; omega
  simp only [State.writeReg, regRow_ringScale hT, hlo, if_false, State.writeCore_ringScale]
  rfl

end Sys2Proof.Machine

/-! ### The obligation -/

namespace Sys2Proof.Proofs

open Sys2Proof Sys2Proof.Machine

/-- Settles O55: each of the three writes is a checked write of an RWT field, which `State.guarded_of_openTxn_none` rejects. That a
CNV_DATA write falls under R6 as a whole, trims included, is the model's choice (log 37). -/
theorem rwtFieldsNeedATransaction : Obligations.RwtFieldsNeedATransaction := by
  refine ⟨fun t q k v r s hw hsel hrwt hown htxn => ?_, fun t q tile off gain range s hgate hown htxn => ?_,
    fun t q T v a s hT ha hgate hown htxn => ?_⟩
  case refine_1 =>
    have hrej := hw.writeReg_eq hsel
    obtain ⟨hk, h8, -, -, hgate⟩ := hw
    rw [bne_iff_ne.mpr hrwt, State.guarded_of_openTxn_none _ _ hgate hown htxn] at hrej
    rw [exec_registerWrite_eight t q v s hk h8, hrej]
  case refine_2 =>
    exact congrArg Host.Outcome.next (State.wrTrim_of_openTxn_none off gain range hgate hown htxn)
  case refine_3 =>
    subst ha
    rw [exec_registerWrite_eight t q v s (ringScale_bounds hT).2 (ringScale_aligned T), State.writeReg_ringScale _ q v.toNat hT,
      State.wrScale_of_openTxn_none T v.toNat hgate hown htxn]

end Sys2Proof.Proofs
end

section
/-! SUPPORT. What the power-on sequence writes (R467), and what an ARR_STATE register holds before it: no step of the sequence reaches an
ARR_STATE register, and all that a loss of power leaves of one is its PROG_CNT (R90). -/

namespace Sys2Proof.Machine

variable {a s : State}

/-! ### ARR_STATE without power (R88, R90) -/

/-- ARR_STATE of an array is the register at offset 8 of the array's block, in the ARR part of a core window. -/
theorem arrState_place {A : Nat} (hA : A < 32768) : 0x2000000 ≤ arrBlock A + 8 ∧ arrBlock A + 8 < 0x4000000 ∧
    (arrBlock A + 8) % 0x8000 < 0x1000 ∧ (arrBlock A + 8) % 0x80 = 8 := by
  unfold arrBlock coreWindow
  omega

theorem resetVal_arrState {A : Nat} (hA : A < 32768) : resetVal (arrBlock A + 8) = 0 := by
  obtain ⟨hlo, hhi, hrel, hoff⟩ := arrState_place hA
  rw [resetVal, if_neg (by omega), if_pos hhi, resetCore, if_pos hrel, if_neg (by omega)]
  rfl

/-- But for the shutdown record, what a register keeps without power stands in its upper half. -/
theorem keptReg_low {p q : Nat × Word} (h : keptReg p = some q) (hq : q.1 ≠ 0xD00058) : q.2.toNat % 2 ^ 32 = 0 := by
  unfold keptReg at h
  split at h
  next hp => exact absurd hp (Option.some.inj h ▸ hq)
  next =>
    split at h
    next =>
      split at h
      next => simp at h
      next =>
        obtain rfl := Option.some.inj h
        simp only [BitVec.toNat_ofNat]
        omega
    next => simp at h

/-- Without power the low half of ARR_STATE, STATE and CAUSE, reads 0, whatever list the registers were. -/
theorem sget_keptReg_arrState (m : List (Nat × Word)) {A : Nat} (hA : A < 32768) :
    (sget resetVal (m.filterMap keptReg) (arrBlock A + 8)).toNat % 2 ^ 32 = 0 := by
  induction m with
  | nil => simp [sget, resetVal_arrState hA]
  | cons p m ih =>
    rw [List.filterMap_cons]
    cases hp : keptReg p with
    | none => exact ih
    | some q =>
      simp only [sget]
      split
      next hq => exact keptReg_low hp (by have := arrState_place hA; omega)
      next => exact ih

/-- R88: a package that has lost its power knows every array as EMPTY. -/
theorem State.wiped_arrState (s : State) (p : Power) {A : Nat} (hA : A < 32768) : (s.wiped p).f (ARR_STATE_STATE A) = 0 := by
  have hlow : ((s.wiped p).reg (arrBlock A + 8)).toNat % 2 ^ 32 = 0 := sget_keptReg_arrState s.regs hA
  simp only [State.f, bits, ARR_STATE_STATE]
  omega

/-! ### The registers the power-on sequence may write -/

/-- The blocks below the core windows, the pending bits, the sensors' banks, the converters' CNV_CAL and the results of running programs.
Irreducible: the list is long, and only `mem_bootKeys` is to be used of it. -/
@[irreducible] def bootKeys : List Nat :=
  (bar2 + 0x9000) :: (List.range 0x2000000 ++ (List.range 296).map sensorBank ++ (List.range 8192).map cnvTile ++
    (List.range 32768).map (arrBlock · + 0x20))

theorem mem_bootKeys {k : Nat} : k ∈ bootKeys ↔ k = bar2 + 0x9000 ∨ k < 0x2000000 ∨ (∃ x < 296, sensorBank x = k) ∨
    (∃ T < 8192, cnvTile T = k) ∨ ∃ A < 32768, arrBlock A + 0x20 = k := by
  simp only [bootKeys, List.mem_cons, List.mem_append, List.mem_map, List.mem_range, or_assoc]

theorem mem_bootKeys_of_lt {k : Nat} (h : k < 0x2000000) : k ∈ bootKeys := mem_bootKeys.2 (.inr (.inl h))

theorem pend_mem_bootKeys : bar2 + 0x9000 ∈ bootKeys := mem_bootKeys.2 (.inl rfl)

theorem sensorBank_mem_bootKeys {x : Nat} (h : x < 296) : sensorBank x ∈ bootKeys := mem_bootKeys.2 (.inr (.inr (.inl ⟨x, h, rfl⟩)))

theorem cnvTile_mem_bootKeys {T : Nat} (h : T < 8192) : cnvTile T ∈ bootKeys :=
  mem_bootKeys.2 (.inr (.inr (.inr (.inl ⟨T, h, rfl⟩))))

theorem arrPstat_mem_bootKeys {A : Nat} (h : A < 32768) : arrBlock A + 0x20 ∈ bootKeys :=
  mem_bootKeys.2 (.inr (.inr (.inr (.inr ⟨A, h, rfl⟩))))

/-- ARR_STATE is none of them. -/
theorem arrState_notMem_bootKeys {A : Nat} (hA : A < 32768) : arrBlock A + 8 ∉ bootKeys := by
  obtain ⟨hlo, hhi, hrel, hoff⟩ := arrState_place hA
  rw [mem_bootKeys]
  rintro (h | h | ⟨x, -, h⟩ | ⟨T, -, h⟩ | ⟨B, -, h⟩)
  · simp only [bar2] at h; omega
  · omega
  · simp only [sensorBank] at h; omega
  · simp only [cnvTile, coreWindow] at h; omega
  · simp only [arrBlock, coreWindow] at h hoff; omega

/-! ### Rules for `regsBut` that the sequence is read with

`regsBut.boot_<op>`: the operation writes registers of `bootKeys` only. -/

theorem regsBut.foldl {K : List Nat} {α : Type} {f : State → α → State} {l : List α} (h : regsBut K a s)
    (hf : ∀ u x, x ∈ l → regsBut K a u → regsBut K a (f u x)) : regsBut K a (l.foldl f s) :=
  List.foldlRecOn l f (motive := regsBut K a) h (fun u hu x hx => hf u x hx hu)

theorem regsBut.boot_setf (h : regsBut bootKeys a s) {F : Fld} (hF : F.a < 0x2000000) (x : Nat) : regsBut bootKeys a (s.setf F x) :=
  h.setf (mem_bootKeys_of_lt hF) x

theorem regsBut.boot_evt (h : regsBut bootKeys a s) {F : Fld} (hF : F.a < 0x2000000) : regsBut bootKeys a (s.evt F) := by
  refine h.evt fun k hk => ?_
  simp only [Fld.evtKeys, List.mem_cons, List.not_mem_nil, or_false] at hk
  rcases hk with rfl | rfl | rfl
  · exact mem_bootKeys_of_lt hF
  · exact mem_bootKeys_of_lt (by decide)
  · exact pend_mem_bootKeys

/-! ### Yarrow, Larkspur and the rails -/

theorem regsBut.boot_extend (h : regsBut bootKeys a s) {i : Nat} (hi : i < 8) (d : List Nat) : regsBut bootKeys a (s.extend i d) := by
  have hkey (w : Nat) (hw : w ∈ List.range 4) : (SEC_MR_VALUE i w).a < 0x2000000 := by
    rw [List.mem_range] at hw
    simp only [SEC_MR_VALUE]
    omega
  unfold State.extend
  extract_lets v s1
  have h1 : regsBut bootKeys a s1 := h.foldl fun u w hw hu => hu.boot_setf (hkey w hw) _
  clear_value s1
  split
  · exact h1.congr rfl
  · exact (h1.congr rfl).inc (mem_bootKeys_of_lt (by decide))

theorem regsBut.boot_extendFree (h : regsBut bootKeys a s) {i : Nat} (hi : i < 8) : regsBut bootKeys a (s.extendFree i) := by
  unfold State.extendFree
  refine regsBut.boot_extend ?_ hi _
  exact h.congr rfl

theorem regsBut.boot_showFuses (h : regsBut bootKeys a s) : regsBut bootKeys a s.showFuses := by
  have hkey (w : Nat) (hw : w ∈ List.range 4) : (SEC_OWNER_HASH w).a < 0x2000000 := by
    rw [List.mem_range] at hw
    simp only [SEC_OWNER_HASH]
    omega
  unfold State.showFuses
  extract_lets s1 s2
  have h1 : regsBut bootKeys a s1 := ((h.boot_setf (by decide) _).boot_setf (by decide) _).boot_setf (by decide) _
  have h2 : regsBut bootKeys a s2 := ((h1.boot_setf (by decide) _).boot_setf (by decide) _).boot_setf (by decide) _
  exact h2.foldl fun u w hw hu => hu.boot_setf (hkey w hw) _

theorem regsBut.boot_showId (h : regsBut bootKeys a s) : regsBut bootKeys a s.showId := by
  unfold State.showId
  exact (h.boot_setf (by decide) _).boot_setf (by decide) _

theorem regsBut.boot_startLsp (h : regsBut bootKeys a s) (i : Nat) : regsBut bootKeys a (s.startLsp i) := by
  unfold State.startLsp
  split
  · exact h
  · extract_lets s1 lsp s2
    have h1 : regsBut bootKeys a s1 := by
      unfold s1 State.showLsp
      exact ((((h.boot_setf (by decide) _).boot_setf (by decide) _).boot_setf (by decide) _).boot_setf (by decide) _).boot_setf
        (by decide) _
    have h2 : regsBut bootKeys a s2 := h1.congr rfl
    exact h2.boot_extend (by decide) _

theorem regsBut.boot_yarrowRuns (h : regsBut bootKeys a s) (y : Nat) (lOk : List Nat) : regsBut bootKeys a (s.yarrowRuns y lOk) := by
  unfold State.yarrowRuns
  extract_lets x s1 fit yar lsp s2
  have h1 : regsBut bootKeys a s1 := ((h.boot_setf (by decide) _).boot_setf (by decide) _).boot_extend (by decide) _
  have h2 : regsBut bootKeys a s2 := h1.congr rfl
  split
  · exact h2.boot_setf (by decide) _
  · exact (h2.boot_startLsp _).congr rfl

theorem regsBut.boot_railsUp (h : regsBut bootKeys a s) : regsBut bootKeys a s.railsUp := by
  unfold State.railsUp
  extract_lets s1 s2
  have h1 : regsBut bootKeys a s1 := h.foldl fun u n hn hu => by
    rw [List.mem_range] at hn
    exact (hu.boot_setf (by simp only [PWR_VCORE]; omega) _).boot_setf (by simp only [PWR_VEFF]; omega) _
  have h2 : regsBut bootKeys a s2 := (h1.boot_setf (by decide) _).boot_setf (by decide) _
  exact (h2.boot_setf (by decide) _).boot_setf (by decide) _

theorem regsBut.boot_setPhase (h : regsBut bootKeys a s) (p : Nat) : regsBut bootKeys a (s.setPhase p) := by
  unfold State.setPhase
  split
  · exact h
  · exact (h.boot_setf (by decide) _).boot_evt (by decide)

/-! ### The sensors' first readings (R450 to R453) -/

theorem regsBut.boot_markBroken (h : regsBut bootKeys a s) {x : Nat} (hx : x < 296) (how : Nat) :
    regsBut bootKeys a (s.markBroken x how) := by
  have hbank : sensorBank x ∈ bootKeys := sensorBank_mem_bootKeys hx
  have hmark : (THM_BROKEN x).a < 0x2000000 := by
    simp only [THM_BROKEN]
    omega
  exact (((h.setf (F := THM_SDATA_STATE x) hbank _).boot_setf hmark _).setfi (F := THM_SDATA_USED x) hbank _).boot_evt (by decide)

theorem regsBut.boot_thermCrit (h : regsBut bootKeys a s) (x : Nat) (T : Int) : regsBut bootKeys a (s.thermCrit x T) := by
  unfold State.thermCrit
  extract_lets s1 s2
  have h1 : regsBut bootKeys a s1 := by
    dsimp only [s1]
    split
    · exact h.raise _ _ _ _ _
    · split <;> exact h.raise _ _ _ _ _
  have h2 : regsBut bootKeys a s2 :=
    ((h1.boot_setf (by decide) _).boot_setf (by decide) _).setfi (mem_bootKeys_of_lt (by decide)) _
  exact h2.congr rfl

theorem regsBut.boot_judgeCrit (h : regsBut bootKeys a s) (x : Nat) (T : Int) : regsBut bootKeys a (s.judgeCrit x T) := by
  unfold State.judgeCrit
  split
  · exact h
  · split
    · exact h.boot_thermCrit x T
    · exact h.boot_evt (by decide)

theorem regsBut.boot_setFast (h : regsBut bootKeys a s) {x : Nat} (hx : x < 296) : regsBut bootKeys a (s.setFast x) :=
  (h.when fun _ => h.boot_evt (by decide)).setf (F := THM_SDATA_FAST x) (sensorBank_mem_bootKeys hx) _

theorem regsBut.boot_sample (h : regsBut bootKeys a s) (reads : List (Nat × Int)) {x : Nat} (hx : x < 296) :
    regsBut bootKeys a (s.sample reads x) := by
  have hbank : sensorBank x ∈ bootKeys := sensorBank_mem_bootKeys hx
  unfold State.sample
  extract_lets raw good s1 s2 T s3 s4 heat s5
  have h1 : regsBut bootKeys a s1 := by
    dsimp only [s1, raw]
    split
    · exact h.setfi (F := THM_SDATA_READ x) hbank _
    · exact h
  have h2 : regsBut bootKeys a s2 := h1.when fun _ => h1.boot_markBroken hx 1
  have hused : regsBut bootKeys a (s2.setfi (THM_SDATA_USED x) T) := h2.setfi (F := THM_SDATA_USED x) hbank T
  have h3 : regsBut bootKeys a s3 := h2.when fun _ => hused.when fun _ => hused.setfi (F := THM_SDATA_MAX_READ x) hbank T
  have h4 : regsBut bootKeys a s4 := h3.setf (F := THM_SDATA_LEVEL x) hbank _
  have h5 : regsBut bootKeys a s5 := h4.congr rfl
  exact (h5.boot_setFast hx).when fun _ => (h5.boot_setFast hx).boot_judgeCrit x T

theorem regsBut.boot_request (h : regsBut bootKeys a s) : regsBut bootKeys a s.request := by
  unfold State.request
  extract_lets new old
  split
  · exact h
  · exact (h.boot_setf (F := PAV_THR_REQUEST) (by decide) new).congr rfl

theorem regsBut.boot_levelT (h : regsBut bootKeys a s) : regsBut bootKeys a s.levelT := by
  unfold State.levelT
  extract_lets xs lv hot s1
  have h1 : regsBut bootKeys a s1 := h.when fun _ => h.boot_evt (by decide)
  exact (((h1.boot_setf (by decide) _).boot_setf (by decide) _).setfi (mem_bootKeys_of_lt (by decide)) _).boot_request

/-- A pause or a resume for heat shows in the RESULT of the command's array, of the region's 1,024 (R85). -/
theorem regsBut.boot_heatChannels (h : regsBut bootKeys a s) {r : Nat} (hr : r < 32) : regsBut bootKeys a (s.heatChannels r) := by
  have hres {u : State} (hu : regsBut bootKeys a u) (c : ProgCmd) (hc : c.arr / 1024 = r) (paused : Bool) (x : Nat) :
      regsBut bootKeys a ((u.setCmd { c with paused := paused }).setf (ARR_PSTAT_RESULT c.arr) x) :=
    (hu.congr (s := u.setCmd { c with paused := paused }) rfl).setf (F := ARR_PSTAT_RESULT c.arr) (arrPstat_mem_bootKeys (by omega)) x
  refine h.foldl fun u c _ hu => ?_
  split
  next hc =>
    split
    · exact hres hu c hc.1 true 3
    · split
      · exact hres hu c hc.1 false 2
      · exact hu
  next => exact hu

theorem regsBut.boot_sampleAll (h : regsBut bootKeys a s) (reads : List (Nat × Int)) {xs : List Nat} (hxs : ∀ x ∈ xs, x < 296) :
    regsBut bootKeys a (s.sampleAll reads xs) := by
  have hsampled : regsBut bootKeys a (xs.foldl (fun s x => s.sample reads x) s) :=
    h.foldl fun u x hx hu => hu.boot_sample reads (hxs x hx)
  exact hsampled.boot_levelT.foldl fun u r hr hu => hu.boot_heatChannels (List.mem_range.1 hr)

theorem regsBut.boot_crossCheck (h : regsBut bootKeys a s) : regsBut bootKeys a s.crossCheck := by
  unfold State.crossCheck
  extract_lets ok bad
  have hbad : regsBut bootKeys a (bad.foldl (fun s x => s.markBroken x 2) s) := h.foldl fun u x hx hu =>
    hu.boot_markBroken (List.mem_range.1 (List.mem_filter.1 hx).1) 2
  exact (hbad.inc (mem_bootKeys_of_lt (by decide))).boot_setf (by decide) _

/-! ### The whole sequence (R467) -/

theorem regsBut.boot_stacksUp (h : regsBut bootKeys a s) (hbm : List Nat) (reads : List (Nat × Int)) :
    regsBut bootKeys a (s.stacksUp hbm reads) := by
  have hstk (k : Nat) (hk : k ∈ List.range 8) : (MEM_NSTK_STATE k).a < 0x2000000 := by
    rw [List.mem_range] at hk
    simp only [MEM_NSTK_STATE]
    omega
  have hfch (c : Nat) (hc : c ∈ List.range 16) : (MEM_FCH_STATE c).a < 0x2000000 := by
    rw [List.mem_range] at hc
    simp only [MEM_FCH_STATE]
    omega
  unfold State.stacksUp
  extract_lets rails s1 s2 s3 s4
  have hrails : regsBut bootKeys a rails := h.boot_railsUp
  clear_value rails
  have h1 : regsBut bootKeys a s1 := hrails.congr rfl
  have h2 : regsBut bootKeys a s2 := h1.foldl fun u k hk hu => hu.boot_setf (F := MEM_NSTK_STATE k) (hstk k hk) _
  have h3 : regsBut bootKeys a s3 := h2.foldl fun u c hc hu => hu.boot_setf (F := MEM_FCH_STATE c) (hfch c hc) _
  have h4 : regsBut bootKeys a s4 :=
    (h3.boot_sampleAll reads fun x hx => List.mem_range.1 (List.mem_filter.1 hx).1).boot_crossCheck
  exact (h4.boot_setf (by decide) _).boot_setPhase 2

theorem regsBut.boot_badRecord (h : regsBut bootKeys a s) : regsBut bootKeys a s.badRecord_ :=
  ((h.congr (s := { s with audit := { s.audit with hold := true, badRec := true } }) rfl).raise 3 0x29 0 _ 0xFF).foldl
    fun _ T hT hu => hu.setf (F := CNV_CAL_CAL_EN T) (cnvTile_mem_bootKeys (List.mem_range.1 hT)) 0

/-- From the state that the loss of power left, the sequence writes no register but those of `bootKeys`, on each of its three ends: the
ROM holding the package, transit frames, and transit frames with an unusable factory record. -/
theorem State.powerUp_regsBut (s : State) (t : Nat) (yOk lOk hbm : List Nat) (record : Bool) (reads : List (Nat × Int)) :
    regsBut bootKeys (s.wiped .on) (s.powerUp t yOk lOk hbm record reads) := by
  unfold State.powerUp
  extract_lets wiped s1 s2
  have h1 : regsBut bootKeys (s.wiped .on) s1 := regsBut.boot_extendFree (regsBut.refl.congr rfl) (by decide)
  have h2 : regsBut bootKeys (s.wiped .on) s2 := h1.boot_showFuses.boot_showId
  clear_value s2
  split
  next => exact (h2.boot_setf (F := PWR_STATE_RAIL_OK) (by decide) 0x81).congr rfl
  next y _ =>
    extract_lets s3 s4
    have h3 : regsBut bootKeys (s.wiped .on) s3 := (h2.boot_yarrowRuns y lOk).boot_extend (by decide) _
    have h4 : regsBut bootKeys (s.wiped .on) s4 := (h3.boot_stacksUp hbm reads).boot_extendFree (by decide)
    split
    · exact h4
    · exact h4.boot_badRecord

/-- The cells are no part of what the sequence changes. -/
theorem State.powerUp_cells (s : State) (t : Nat) (yOk lOk hbm : List Nat) (record : Bool) (reads : List (Nat × Int)) :
    (s.powerUp t yOk lOk hbm record reads).cells = s.cells :=
  (State.powerUp_touch .refl (List.all_eq_true.2 fun _ hp => List.contains_iff_mem.2 hp) t yOk lOk hbm record reads).same .analog
    (by decide)

theorem exec_powerOn_of_off {s : State} (h : s.power = .off) (t : Nat) (yOk lOk hbm : List Nat) (record : Bool)
    (reads : List (Nat × Int)) : exec (.powerOn t yOk lOk hbm record reads) s = .next (s.powerUp t yOk lOk hbm record reads) :=
  if_pos h

end Sys2Proof.Machine

/-! ### The obligation -/

namespace Sys2Proof.Proofs

open Sys2Proof Sys2Proof.Machine

/-- Settles O53: the loss of power leaves every array EMPTY, and the power-on sequence reaches neither an ARR_STATE register nor a cell. -/
theorem arraysAreEmptyAfterReset : Obligations.ArraysAreEmptyAfterReset := by
  intro t yOk lOk hbm rec reads s hoff
  refine ⟨s.powerUp t yOk lOk hbm rec reads, exec_powerOn_of_off hoff t yOk lOk hbm rec reads, fun A hA => ?_, ?_⟩
  case refine_1 =>
    calc (s.powerUp t yOk lOk hbm rec reads).f (ARR_STATE_STATE A)
        = (s.wiped .on).f (ARR_STATE_STATE A) :=
          (s.powerUp_regsBut t yOk lOk hbm rec reads).f (F := ARR_STATE_STATE A) (arrState_notMem_bootKeys hA)
      _ = 0 := s.wiped_arrState .on hA
  case refine_2 =>
    exact s.powerUp_cells t yOk lOk hbm rec reads

end Sys2Proof.Proofs
end

section
/-! SUPPORT. One interrupt vector (R505): what raising it does in each of its two cases, which fields that leaves, and what the write of
the MSI-X table that unmasks the vector does. -/

namespace Sys2Proof.Machine

variable {s u : State} {v : Nat}

/-! ### One-bit fields -/

/-- A one-bit field just written. -/
theorem State.b_setf_same (s : State) {F : Fld} (x : Nat) (hw : F.w = 1) (hlo : F.lo < 64) : (s.setf F x).b F = (x % 2 == 1) := by
  have hF : F.lo + F.w ≤ 64 := by omega
  simp only [State.b, State.f_setf_same s F x hF, hw, Nat.pow_one]

/-- A one-bit field of another register reads as before. -/
theorem State.b_setf_key (s : State) {F G : Fld} (x : Nat) (h : G.a ≠ F.a) : (s.setf F x).b G = s.b G := by
  simp only [State.b, State.f_setf_key s F G x h]

/-! ### Where a vector's fields stand -/

theorem msixMask_key_ne_pend (v : Nat) : (MSIX_MASK v).a ≠ bar2 + 0x9000 := by
  simp only [MSIX_MASK]
  omega

theorem msixAddr_key_ne_pend (hv : v < 64) : (MSIX_ADDR v).a ≠ bar2 + 0x9000 := by
  simp only [MSIX_ADDR]
  omega

theorem msixAddr_key_ne_mask : (MSIX_ADDR v).a ≠ (MSIX_MASK v).a := by
  simp only [MSIX_ADDR, MSIX_MASK]
  omega

theorem pciBme_key_ne_mask (hv : v < 64) : PCI_BME.a ≠ (MSIX_MASK v).a := by
  simp only [PCI_BME, MSIX_MASK, pciCfg, bar2]
  omega

/-- The mask bit shares its register with the message's data, but no bit of it. -/
theorem msixMask_apart_data (v : Nat) : (MSIX_MASK v).apart (MSIX_DATA v) = true := by
  simp [Fld.apart, MSIX_MASK, MSIX_DATA]

/-- The message that vector `v` sends: its table entry's address and data. -/
def State.msixMessage (s : State) (v : Nat) : Out := .msix (s.f (MSIX_ADDR v)) (s.f (MSIX_DATA v))

/-! ### Raising a vector -/

theorem State.msix_of_masked (hmask : s.b (MSIX_MASK v) = true) : s.msix v = s.setf (MSIX_PEND v) 1 := if_pos (.inl hmask)

theorem State.msix_of_unmasked (hmask : s.b (MSIX_MASK v) = false) (hbme : s.b PCI_BME = true) :
    s.msix v = { s.setf (MSIX_PEND v) 0 with out := s.out ++ [s.msixMessage v] } :=
  if_neg (by simp [hmask, hbme])

/-- A masked vector becomes pending in place of sending. -/
theorem State.msix_waits (hv : v < 64) (hmask : s.b (MSIX_MASK v) = true) :
    (s.msix v).b (MSIX_PEND v) = true ∧ (s.msix v).out = s.out := by
  rw [State.msix_of_masked hmask]
  exact ⟨s.b_setf_same (F := MSIX_PEND v) 1 rfl hv, rfl⟩

/-- A vector that may be sent is sent, and is then not pending. -/
theorem State.msix_sends (hv : v < 64) (hmask : s.b (MSIX_MASK v) = false) (hbme : s.b PCI_BME = true) :
    (s.msix v).out = s.out ++ [s.msixMessage v] ∧ (s.msix v).b (MSIX_PEND v) = false := by
  rw [State.msix_of_unmasked hmask hbme]
  exact ⟨rfl, s.b_setf_same (F := MSIX_PEND v) 0 rfl hv⟩

/-- Raising a vector changes no register but that of the pending bits. -/
theorem State.msix_regsBut (s : State) (v : Nat) : regsBut [bar2 + 0x9000] s (s.msix v) :=
  regsBut.refl.msix (List.mem_singleton_self _) v

theorem State.f_msix (s : State) (v : Nat) {F : Fld} (hF : F.a ≠ bar2 + 0x9000) : (s.msix v).f F = s.f F :=
  (s.msix_regsBut v).f (mt List.mem_singleton.1 hF)

theorem State.b_msix (s : State) (v : Nat) {F : Fld} (hF : F.a ≠ bar2 + 0x9000) : (s.msix v).b F = s.b F := by
  simp only [State.b, s.f_msix v hF]

theorem State.msix_power (s : State) (v : Nat) : (s.msix v).power = s.power := by
  unfold State.msix
  split <;> rfl

/-- The message waits unchanged in the table. -/
theorem State.msixMessage_msix (s : State) (hv : v < 64) : (s.msix v).msixMessage v = s.msixMessage v := by
  have haddr := s.f_msix v (msixAddr_key_ne_pend hv)
  have hdata := s.f_msix v (F := MSIX_DATA v) (msixMask_key_ne_pend v)
  simp only [State.msixMessage, haddr, hdata]

/-! ### Unmasking a vector -/

/-- Clearing the mask bit leaves the message of the same table entry. -/
theorem State.msixMessage_unmask (s : State) (v : Nat) : (s.setf (MSIX_MASK v) 0).msixMessage v = s.msixMessage v := by
  have haddr := s.f_setf_key (MSIX_MASK v) (MSIX_ADDR v) 0 msixAddr_key_ne_mask
  have hdata := s.f_setf_apart (MSIX_MASK v) (MSIX_DATA v) 0 (by simp [MSIX_MASK]) (msixMask_apart_data v)
  simp only [State.msixMessage, haddr, hdata]

/-- A vector found pending when its mask is cleared is sent at once, and is left unmasked and not pending. -/
theorem State.sendPending_unmask (hv : v < 64) (hpend : s.b (MSIX_PEND v) = true) (hbme : s.b PCI_BME = true)
    (hu : u = (s.setf (MSIX_MASK v) 0).sendPending v) :
    u.out = s.out ++ [s.msixMessage v] ∧ u.b (MSIX_PEND v) = false ∧ u.b (MSIX_MASK v) = false := by
  have hmask : (s.setf (MSIX_MASK v) 0).b (MSIX_MASK v) = false := s.b_setf_same (F := MSIX_MASK v) 0 rfl (by simp [MSIX_MASK])
  have hpend' : (s.setf (MSIX_MASK v) 0).b (MSIX_PEND v) = true := (s.b_setf_key 0 (msixMask_key_ne_pend v).symm).trans hpend
  have hbme' : (s.setf (MSIX_MASK v) 0).b PCI_BME = true := (s.b_setf_key 0 (pciBme_key_ne_mask hv)).trans hbme
  have hsent : u = (s.setf (MSIX_MASK v) 0).msix v := hu.trans (if_pos ⟨hpend', by simp [hmask], hbme'⟩)
  obtain ⟨hout, hclear⟩ := State.msix_sends hv hmask hbme'
  rw [hsent]
  exact ⟨by rw [hout, State.setf_out, s.msixMessage_unmask], hclear, (State.b_msix _ v (msixMask_key_ne_pend v)).trans hmask⟩

/-- The host's access to a hub register is judged by the supply and the phase of the start alone (R487). -/
theorem State.gate_host_hub_congr {k : Nat} (hk : k < 0x2000000) (hpower : u.power = s.power)
    (hphase : u.f SYS_STATUS_PHASE = s.f SYS_STATUS_PHASE) (h : s.gate .host k = none) : u.gate .host k = none := by
  have hhub : ¬ 0x2000000 ≤ k := by omega
  simp only [State.gate, hpower, hphase, hhub, false_and, if_false] at h ⊢
  split at h
  next => simp at h
  next hon =>
    split at h
    next => simp at h
    next hearly => rw [if_neg hon, if_neg hearly]

theorem exec_msixUnmask_of_gate {t : Nat} (hgate : (s.at t).gate .host 0x800000 = none) (hv : v < 64) :
    exec (.msixUnmask t v) s = .next (((s.at t).setf (MSIX_MASK v) 0).sendPending v) := by
  simp only [exec, execMsixUnmask, hgate, hv, if_true]

end Sys2Proof.Machine

/-! ### The obligation -/

namespace Sys2Proof.Proofs

open Sys2Proof Sys2Proof.Machine

/-- Settles O54: a masked vector waits as its pending bit (`State.msix_waits`), and clearing its mask sends it
(`State.sendPending_unmask`). The table's layout and the part that Bus Master Enable plays are the model's choice (logs 7 and 8). -/
theorem maskedVectorsWait : Obligations.MaskedVectorsWait := by
  refine ⟨fun v s hv hmask => ?_, fun v s hv hmask hbme => State.msix_sends hv hmask hbme, fun t v s hgate hv hbme => ?_⟩
  case refine_1 =>
    obtain ⟨hpend, hout⟩ := State.msix_waits hv hmask
    exact ⟨hpend, hout, (s.b_msix v (msixMask_key_ne_pend v)).trans hmask, s.msix_regsBut v⟩
  case refine_2 =>
    have hgate' : ((s.msix v).at t).gate .host 0x800000 = none :=
      State.gate_host_hub_congr (s := s.at t) (by decide) (s.msix_power v) (s.f_msix v (by decide)) hgate
    refine ⟨_, exec_msixUnmask_of_gate hgate' hv, fun hmask => ?_⟩
    obtain ⟨hpend, hout⟩ := State.msix_waits hv hmask
    have hbme' : (s.msix v).b PCI_BME = true := (s.b_msix v (by decide)).trans hbme
    obtain ⟨hsent, hclear, hopen⟩ := State.sendPending_unmask (s := (s.msix v).at t) hv hpend hbme' rfl
    refine ⟨?_, hclear, hopen⟩
    calc ((((s.msix v).at t).setf (MSIX_MASK v) 0).sendPending v).out
        = (s.msix v).out ++ [(s.msix v).msixMessage v] := hsent
      _ = s.out ++ [s.msixMessage v] := by rw [hout, s.msixMessage_msix hv]

end Sys2Proof.Proofs
end
